-- ==== Sys2Proof/Word.lean ====
section
/-! DEFINITION. The word types of the machine (00_scope.md R9, R24). -/

namespace Sys2Proof

/-- A byte: the smallest addressable unit of memory (20_memory.md R100). -/
abbrev Byte := BitVec 8

/-- The contents of a register, and an address (00_scope.md R9). -/
abbrev Word := BitVec 32

/-- A 64-bit item: an L access, an entry of the read pipeline (10_state.md R73). -/
abbrev DWord := BitVec 64

end Sys2Proof
end

