-- ==== Sys2Proof/Config.lean ====
section
/-! DEFINITION. What an implementation fixes (the parameters of 92_eei_decisions.md, held as plain data
in the state, so that a statement about every state is a statement about every implementation), and the
free values: constants without a body, one for each value that the spec calls unspecified
(00_scope.md R27). -/

namespace Sys2Proof

/-- The size of an access, 20_memory.md R102. -/
inductive Size where
  | b | w | d | l
  deriving DecidableEq, Repr

/-- `ExceptionMode` of 60_exceptions.md R572. -/
inductive ExcMode where
  | halt | handler
  deriving DecidableEq, Repr

/-- `ExceptionMode` for each kind for which it is a choice (60_exceptions.md R571, R572): OutstandingReads
always halts and has no entry. -/
structure ExcModes where
  fetchFault : ExcMode
  pcMisaligned : ExcMode
  unknownInstruction : ExcMode
  switchException : ExcMode
  readPipelineUnderflow : ExcMode
  memoryFault : ExcMode
  deriving DecidableEq, Repr

/-- `MemErrorMode` of 60_exceptions.md R580. -/
inductive MemErrorMode where
  | sync | deferred
  deriving DecidableEq, Repr

/-- What lies at a physical address: `MemMap` of 20_memory.md R108. -/
inductive RegionKind where
  | ram
  | device (d : Nat)
  | unmapped
  deriving DecidableEq, Repr

/-- One region of `MemMap`: `size` bytes from `base`. -/
structure Region where
  base : Nat
  size : Nat
  kind : RegionKind
  deriving DecidableEq, Repr

/-- One range of `Translate` (20_memory.md R101): for thread `tid`, `size` bytes from the linear address `base`
lie at the physical address `phys`, or have no translation; `dataFlags` and `codeFlags` are the TLB flags that the data
and the code side give for them. -/
structure XlatEntry where
  tid : Nat
  base : Nat
  size : Nat
  phys : Option Word
  dataFlags : Word
  codeFlags : Word
  deriving DecidableEq, Repr

/-- A translation that was changed, with the lines for which it has been flushed since (20_memory.md R139). -/
structure OldXlat where
  table : List XlatEntry
  flushed : List Word
  deriving DecidableEq, Repr

/-- The parameters of 92_eei_decisions.md, fixed for a run; no step changes them (entry 12). -/
structure Params where
  /-- `DSP_REGS`, 00_scope.md R11. -/
  dspRegs : Bool
  /-- `HAS_MORT_VPACK`, 00_scope.md R12. -/
  hasMortVpack : Bool
  /-- The coprocessor ports that are implemented, bit n for CP.n (`N_COPRO_PORTS`, 00_scope.md R13). -/
  coproPorts : BitVec 8
  /-- `PC_READ_OFFSET` is 4 (true) or 0 (false), 10_state.md R49. -/
  pcReadsNext : Bool
  /-- `ISTAT_BIT`, 10_state.md R65. -/
  istatBit : BitVec 5
  /-- `RD_FIFO_DEPTH` is this plus 8, so that it is at least 8 as 10_state.md R76 has it. -/
  rdFifoExtra : Nat
  /-- `RA_UNSIZED_BYTES`, 10_state.md R75. -/
  raUnsized : Size
  /-- `RAPF_RETURNS_DATA`, 10_state.md R75. -/
  rapfReturnsData : Bool
  /-- `CPWL_S8_SCALE`, 46_long_gp_a.md R458. -/
  cpwlS8Scale : Nat
  /-- `MemErrorMode`, 60_exceptions.md R580. -/
  memErrorMode : MemErrorMode
  /-- `KICK_TRIGGER_BIT`, 60_exceptions.md R589. -/
  kickBit : BitVec 4
  /-- `HALT_TRIGGER_BIT`, 60_exceptions.md R589, R590. -/
  haltBit : BitVec 4
  /-- `DEFR_TRIGGER_BIT`, 60_exceptions.md R589, R592. -/
  defrBit : BitVec 4
  /-- `MemMap`, 20_memory.md R108: the first region that covers an address says what lies there; an address that no
  region covers is RAM. -/
  memMap : List Region
  deriving DecidableEq, Repr

/-- Where in an instruction an unspecified value arises. Two different sites draw two different values. -/
inductive Site where
  /-- C after a logical, move or byte exchange result (10_state.md R60). -/
  | flagC
  /-- V after a logical or a shift result (10_state.md R60, R61). -/
  | flagV
  /-- Flag `k` after a write of TXSTATUS (10_state.md R65). -/
  | statusFlag (k : Nat)
  /-- The 16-bit immediate with H = SE = 1 (30_encoding.md R184). -/
  | imm
  /-- What operand `slot` reads (a reserved register, TXSTATUS, a timer, TTREC, bits 31:16 of a status read). -/
  | operand (slot : Nat)
  /-- Whether the timer or catch register that operand `slot` reads has been changed from outside. -/
  | moved (slot : Nat)
  /-- What destination `slot` is left with. -/
  | dest (slot : Nat)
  /-- Whether the misaligned access `slot` at `a` faults (20_memory.md R107). -/
  | misaligned (slot : Nat) (a : Word)
  /-- The data of access `slot` at `a` (20_memory.md R107, 60_exceptions.md R580). -/
  | data (slot : Nat) (a : Word)
  /-- The byte that a misaligned write leaves at physical address `a` (20_memory.md R107). -/
  | byte (a : Word)
  /-- Which of the old and new contents a data access sees at physical address `a` (20_memory.md R136). -/
  | dcView (a : Word)
  /-- Which of the old and new contents a fetch sees at physical address `a` (20_memory.md R138). -/
  | icView (a : Word)
  /-- Which of the old and new translations access `slot` uses for `a` (20_memory.md R139). -/
  | xlat (slot : Nat) (a : Word)
  /-- Bits 31:30, 29:24 and 23:16 of a deferred error report (60_exceptions.md R592). -/
  | report
  /-- Whether a LNKSET success raises the deferred trigger (60_exceptions.md R592). -/
  | successTrigger
  /-- Whether the link monitor accepts (20_memory.md R130). -/
  | monitor
  /-- Which of the written 1 bits a write of a status register clears (60_exceptions.md R588). -/
  | triggerClear
  /-- Which of the two deferred states a DEFR of TXPOLL or TXPOLLI returns (92_eei_decisions.md D36). -/
  | defrPoll
  /-- What a coprocessor port that is not implemented reads as (00_scope.md R13). -/
  | copro
  /-- NORM of 0 and of 0xFFFFFFFF (44_data_unit_extended.md R428). -/
  | norm
  deriving DecidableEq, Repr

/-- An unspecified bit, at a tick of the model's counter and a site of the instruction. -/
opaque Config.freeBit : Nat → Site → Bool

/-- An unspecified 32-bit value. -/
opaque Config.freeWord : Nat → Site → Word

/-- An unspecified 64-bit value. -/
opaque Config.freeDWord : Nat → Site → DWord

/-- An unspecified choice among several. -/
opaque Config.freeNat : Nat → Site → Nat

/-- What coprocessor port `n` delivers to a read of a size (10_state.md R80): the oracle `cp_read`, applied to the
tick and to how many events the core has emitted before. -/
opaque Config.cpData : Nat → Nat → BitVec 3 → Size → DWord

/-- What device `d` delivers to a read at a physical address (20_memory.md R140): the oracle `dev_read`, applied as
`cpData` is. -/
opaque Config.devData : Nat → Nat → Nat → Word → Size → DWord

/-- `MXExtend(port, d, n)` of 10_state.md R75: what the MX ports make of the data. -/
opaque Config.mxExtend : BitVec 5 → DWord → Size → DWord

end Sys2Proof
end

