-- ==== Sys2Proof/Machine/State.lean ====
section
/-! DEFINITION. The state of the machine as plain data (10_state.md), the reasons an instruction raises an exception
(60_exceptions.md R571), the events of the environment (R608), and the start state (70_reset_and_hazards.md R621). -/

namespace Sys2Proof.Machine

/-- A data or address unit: what a base unit code names (30_encoding.md R172). -/
inductive BUnit where
  | d0 | d1 | a0 | a1
  deriving DecidableEq, Repr

/-- The control registers that are plain cells (10_state.md R50, R64). TXSTATUS (CT.2) and TXDEFR (CT.20) have homes of
their own. -/
inductive CtReg where
  | txenable | txmode | txrpt | txtimer | txbpobits | txtimeri | txcatch0 | txcatch1 | txcatch2 | txcatch3
  | txclkctrl | txstate | txamareg0 | txamareg1 | txamareg2 | txamareg3 | txdivtime | txprivext | txactcyc | tidlecyc
  deriving DecidableEq, Repr

/-- The trace registers that are plain cells (10_state.md R53). TTREC is a log. -/
inductive TtReg where
  | ttexec | ttctrl | ttmark | gtexec
  deriving DecidableEq, Repr

/-- The condition flags, 10_state.md R56. -/
structure Flags where
  z : Bool
  n : Bool
  v : Bool
  c : Bool
  deriving DecidableEq, Repr

/-- Whether a failing data access was a read or a write (60_exceptions.md R580). -/
inductive AccessKind where
  | read | write
  deriving DecidableEq, Repr

/-- The synchronous exception kinds, 60_exceptions.md R571. -/
inductive ExcKind where
  /-- Fetch from an address with no translation or in an unmapped region. -/
  | fetchFault (addr : Word)
  /-- Fetch with pc mod 4 other than 0. -/
  | pcMisaligned (addr : Word)
  /-- The word decodes to no instruction. -/
  | unknownInstruction (w : Word)
  /-- SWITCH with its 24-bit value. -/
  | switchException (value : BitVec 24)
  /-- LOCK, RTH or RTI with a read pipeline that is not empty. -/
  | outstandingReads
  /-- RD consumed from an empty read pipeline. -/
  | readPipelineUnderflow
  /-- A data access without translation, to an unmapped region, or misaligned and refused by the environment. -/
  | memoryFault (addr : Word) (kind : AccessKind)
  deriving DecidableEq, Repr

/-- Why a thread waits, 10_state.md R70. -/
inductive BlockReason where
  /-- A blocking trigger read or KICK (10_state.md R52). -/
  | trigger
  /-- LOCK1 or LOCK2 while another thread holds the lock (10_state.md R79). -/
  | lock
  /-- An address issued to a full read pipeline (10_state.md R76). -/
  | pipelineFull
  deriving DecidableEq, Repr

/-- The run state of a thread, 10_state.md R70. -/
inductive RunState where
  | running
  | halted
  | blocked (reason : BlockReason)
  deriving DecidableEq, Repr

/-- What a LNKGET records (20_memory.md R130): the address, where it lies, and the size. -/
structure Link where
  addr : Word
  phys : Word
  size : Size
  deriving DecidableEq, Repr

/-- A record of the TTREC log, (width, value): 32 or 64 bits (10_state.md R53). -/
structure TraceRecord where
  width : Nat
  value : DWord
  deriving DecidableEq, Repr

/-- A pending instruction cache prefetch, 10_state.md R81. -/
structure PendingPrefetch where
  addr : Word
  count : BitVec 4
  pri : Bool
  deriving DecidableEq, Repr

/-- What a flush command asks for, 48_cache_ops.md R534, R538. -/
inductive FlushKind where
  /-- CACHEW: the instruction (true) or data (false) cache; its TLB (true) or its ways (false). -/
  | cache (icache tlb : Bool)
  /-- DCACHE with zero data. -/
  | dataLine
  /-- Reserved data bits were set: an unspecified action. -/
  | unspecified
  deriving DecidableEq, Repr

/-- The events the core emits to the environment, 60_exceptions.md R608. -/
inductive Emit where
  /-- R590. -/
  | haltTrigger (tid : Nat)
  /-- 48_cache_ops.md R534, R535, R538; `size` is none for DCACHE. -/
  | flush (tid : Nat) (kind : FlushKind) (addr : Word) (size : Option Size)
  /-- 48_cache_ops.md R536, R537. -/
  | prefetch (tid : Nat) (addr : Word) (count : BitVec 4) (pri : Bool)
  /-- A coprocessor read and what it delivered (10_state.md R80). -/
  | cpRead (tid : Nat) (port : BitVec 3) (size : Size) (value : DWord)
  /-- A coprocessor write, always 64 bits (10_state.md R80). -/
  | cpWrite (tid : Nat) (port : BitVec 3) (value : DWord)
  /-- A device read and what it delivered (20_memory.md R140). -/
  | devRead (tid : Nat) (dev : Nat) (addr : Word) (size : Size) (value : DWord)
  /-- A device write (20_memory.md R140). -/
  | devWrite (tid : Nat) (dev : Nat) (addr : Word) (size : Size) (value : DWord)
  /-- `CTWriteEffect(thread, r, value)` was called (10_state.md R64). -/
  | ctWrite (tid : Nat) (reg : BitVec 5) (value : Word)
  deriving DecidableEq, Repr

/-- Where a read finds its data: in RAM or in a device at a physical address, or a value that is unspecified and has
been drawn (20_memory.md R107, 60_exceptions.md R580). -/
inductive Source where
  | ram (pa : Word)
  | device (d : Nat) (pa : Word)
  | value (v : DWord)
  deriving DecidableEq, Repr

/-- A register that 32 bits of a load go to; none drops them. -/
abbrev Dest := Option (BUnit × BitVec 5)

/-- One access of an instruction, with everything it needs: what an instruction that gave way to other threads has still
to do (20_memory.md R122, R123). DESIGN CHOICE (entry 63): where it goes and what it stores are decided before. -/
inductive Todo where
  /-- A read of a size: its low word goes to `lo`, its high word to `hi`. -/
  | load (src : Source) (sz : Size) (lo hi : Dest)
  /-- A read that a read address port issued: the entry is appended to the pipeline (20_memory.md R128). -/
  | issue (src : Source) (port : BitVec 5) (sz : Size)
  /-- A 64-bit read that a read address port issued: two accesses, the low half first. -/
  | wide (lo hi : Source) (port : BitVec 5)
  /-- The second access of a 64-bit read that a read address port issued, with the low half that the first one read. -/
  | high (src : Source) (port : BitVec 5) (lo : Word)
  /-- A write to RAM. -/
  | store (pa : Word) (sz : Size) (v : DWord)
  /-- A misaligned write to RAM: `n` bytes are left unspecified (20_memory.md R107). -/
  | storeFree (pa : Word) (n : Nat)
  /-- A write to a device; `n` bytes from `first` count as written for the link monitors. -/
  | storeDevice (d : Nat) (pa : Word) (sz : Size) (v : DWord) (first : Word) (n : Nat)
  /-- The exception that ends a multi-element instruction after the accesses before it (60_exceptions.md R599). -/
  | trap (k : ExcKind)
  deriving DecidableEq, Repr

/-- One hardware thread, 10_state.md R40, R84. -/
structure Thread where
  /-- The thread's number. -/
  tid : Nat
  /-- D0.0 to D0.15. -/
  d0 : Vector Word 16
  /-- D1.0 to D1.15. -/
  d1 : Vector Word 16
  /-- A0.0 to A0.7. -/
  a0 : Vector Word 8
  /-- A1.0 to A1.7. -/
  a1 : Vector Word 8
  /-- PC.0. -/
  pc : Word
  /-- PC.1. -/
  pcx : Word
  flags : Flags
  /-- TXSTATUS.ISTAT: false is the background level, true the interrupt level. -/
  istat : Bool
  /-- The control registers that are plain cells, by `CtReg.index`. -/
  ct : Vector Word 20
  /-- TXDEFR of the background level. -/
  txdefr0 : Word
  /-- TXDEFR of the interrupt level. -/
  txdefr1 : Word
  /-- The model's own: `txdefr0` from before the thread's latest store completed (92_eei_decisions.md D36). -/
  txdefrPrev0 : Word
  /-- The model's own: `txdefr1` from before the thread's latest store completed. -/
  txdefrPrev1 : Word
  /-- The model's own: an access has failed in Deferred mode (60_exceptions.md R608). -/
  failedAccess : Bool
  /-- The active triggers of the background level; the kick trigger is not stored (60_exceptions.md R588, R591). -/
  trig0 : BitVec 16
  /-- The active triggers of the interrupt level. -/
  trig1 : BitVec 16
  txmask : Word
  txmaski : Word
  /-- KICK_COUNT. -/
  kickCount : Nat
  /-- The trace registers that are plain cells, by `TtReg.index`. -/
  tt : Vector Word 4
  /-- The TTREC log, oldest record first. -/
  ttrec : List TraceRecord
  /-- The read pipeline, oldest entry first. -/
  rdq : List DWord
  linkFlag : Bool
  linkAddr : Option Link
  /-- The model's own: another agent has written a linked byte since the LNKGET. -/
  linkHit : Bool
  runState : RunState
  /-- The model's own: the accesses that the thread's latest instruction has still to make (20_memory.md R122, R123),
  oldest first. -/
  todo : List Todo
  icachePending : Option PendingPrefetch
  /-- Ghost state, 60_exceptions.md R575: no instruction reads its value. -/
  lastException : Option ExcKind
  /-- `ExceptionMode` of this thread, 60_exceptions.md R572. -/
  exModes : ExcModes
  deriving DecidableEq, Repr

/-- Bytes by physical address, in the canonical form of `Memory.wf` (Machine/Ops.lean). -/
abbrev Memory := List Host.Cell

/-- What happens before an access of an instruction. -/
inductive Point where
  /-- Bytes are written from outside the core (20_memory.md R120). -/
  | writes (ws : List (Word × Byte))
  /-- The instruction gives way: other threads of the core may run before its next access (20_memory.md R122, R123). -/
  | giveWay
  deriving DecidableEq, Repr

/-- What the environment may inject, 60_exceptions.md R608. -/
inductive EnvEvent where
  /-- `Trigger(t, l, b)`: l is false for the background level. -/
  | trigger (tid : Nat) (level : Bool) (b : BitVec 4)
  /-- `Kick(t)`. -/
  | kick (tid : Nat)
  /-- `Interrupt(t)`. -/
  | interrupt (tid : Nat)
  /-- `Restart(t, pc')`. -/
  | restart (tid : Nat) (pc : Word)
  /-- `TimerTick`: a timer or counter of thread t holds a new value. -/
  | timerTick (tid : Nat) (r : CtReg) (value : Word)
  /-- An external write of one byte at a physical address (20_memory.md R120). -/
  | extWrite (addr : Word) (value : Byte)
  /-- A deferred error report: bits 31:16 of the cell of a level (R592). -/
  | deferredReport (tid : Nat) (level : Bool) (value : BitVec 16)
  /-- The translation changes (20_memory.md R139). -/
  | retranslate (table : List XlatEntry)
  /-- The hook `CTWriteEffect` acts: a control register gets a value, and the thread may be halted (10_state.md R64). -/
  | ctHook (tid : Nat) (r : CtReg) (value : Word) (halt : Bool)
  /-- The scheduler gives the turn to thread t (60_exceptions.md R597). -/
  | select (tid : Nat)
  /-- The thread that has the turn goes on, and before the k-th memory access of its turn the k-th point happens
  (20_memory.md R122, R123). -/
  | during (points : List Point)
  deriving DecidableEq, Repr

/-- The machine: the thread that has the turn, the other threads, and what they share (10_state.md R84). -/
structure State where
  th : Thread
  others : List Thread
  /-- GblD0.16 to GblD0.31. -/
  gd0 : Vector Word 16
  /-- GblD1.16 to GblD1.31. -/
  gd1 : Vector Word 16
  /-- GblA0.8 to GblA0.15. -/
  ga0 : Vector Word 8
  /-- GblA1.8 to GblA1.15. -/
  ga1 : Vector Word 8
  /-- `voluntary_owner`. -/
  volOwner : Option Nat
  /-- `global_owner`. -/
  globOwner : Option Nat
  mem : Memory
  /-- Bytes that were overwritten and that a fetch may still see (20_memory.md R138). -/
  icOld : List (Word × Byte)
  /-- Bytes that an outside agent overwrote and that a data access may still see (20_memory.md R136). -/
  dcOld : List (Word × Byte)
  /-- `Translate`: the first entry that covers an address counts, and no entry is the identity (20_memory.md R101). -/
  xlat : List XlatEntry
  /-- Translations that were changed and not yet flushed everywhere (20_memory.md R139). -/
  xlatOlds : List OldXlat
  /-- What the core has emitted, the latest first. -/
  emitted : List Emit
  /-- The model's own: what the environment does at each of the next steps; none lets the thread run. -/
  env : List (Option EnvEvent)
  /-- The model's own: what is still to happen before each of the next accesses of this turn. -/
  mid : List Point
  /-- The model's own: the counter that the free values are applied to. -/
  tick : Nat
  cfg : Params
  deriving DecidableEq, Repr

/-- Why the machine stops: no rule of the spec stops it, so there is no such reason. A Halted thread waits
(60_exceptions.md R596). -/
inductive Fault where
  deriving DecidableEq, Repr

/-- Why the model gives no meaning. -/
inductive Refusal where
  /-- Raised by the dispatch: the instruction has no meaning in this model yet. Safe: nothing is claimed. -/
  | notModelled (mnemonic : String)
  /-- Raised by MOVR and SWAPR: an access to the undescribed register AxIReg, for which the spec states no operation
  (49_trace_ops.md R553, R554). Safe: nothing is claimed. -/
  | shadowRegister
  deriving DecidableEq, Repr

/-- What an instruction gives. -/
abbrev Out := Host.Outcome State Fault Refusal

/-- A thread at the start of a run (70_reset_and_hazards.md R621): enabled or not, at `pc0`. The values R621 leaves
unspecified are 0 (entries 4 to 8). -/
def Thread.start (tid : Nat) (enabled : Bool) (pc0 : Word) : Thread where
  tid := tid
  d0 := Vector.replicate 16 0#32
  d1 := Vector.replicate 16 0#32
  a0 := Vector.replicate 8 0#32
  a1 := Vector.replicate 8 0#32
  pc := pc0
  pcx := 0#32
  flags := { z := false, n := false, v := false, c := false }
  istat := false
  ct := Vector.replicate 20 0#32
  txdefr0 := 0#32
  txdefr1 := 0#32
  txdefrPrev0 := 0#32
  txdefrPrev1 := 0#32
  failedAccess := false
  trig0 := 0#16
  trig1 := 0#16
  txmask := 0#32
  txmaski := 0#32
  kickCount := 0
  tt := Vector.replicate 4 0#32
  ttrec := []
  rdq := []
  linkFlag := false
  linkAddr := none
  linkHit := false
  runState := if enabled then .running else .halted
  todo := []
  icachePending := none
  lastException := none
  exModes :=
    { fetchFault := .halt, pcMisaligned := .halt, unknownInstruction := .halt, switchException := .halt,
      readPipelineUnderflow := .halt, memoryFault := .halt }

/-- The parameters at reset (entry 12): the spec's default where 92_eei_decisions.md gives one. -/
def Params.start : Params where
  dspRegs := true
  hasMortVpack := true
  coproPorts := 0xFF#8
  pcReadsNext := true
  istatBit := 16#5
  rdFifoExtra := 0
  raUnsized := .d
  rapfReturnsData := true
  cpwlS8Scale := 8
  memErrorMode := .sync
  kickBit := 1#4
  haltBit := 15#4
  defrBit := 0#4
  memMap := []

/-- The machine right after reset (70_reset_and_hazards.md R621): thread 0 enabled at 0, thread 1 Halted (entry 3). -/
def State.reset : State where
  th := Thread.start 0 true 0#32
  others := [Thread.start 1 false 0#32]
  gd0 := Vector.replicate 16 0#32
  gd1 := Vector.replicate 16 0#32
  ga0 := Vector.replicate 8 0#32
  ga1 := Vector.replicate 8 0#32
  volOwner := none
  globOwner := none
  mem := []
  icOld := []
  dcOld := []
  xlat := []
  xlatOlds := []
  emitted := []
  env := []
  mid := []
  tick := 0
  cfg := Params.start

end Sys2Proof.Machine
end

