-- ==== Sys2Proof/Machine/Flags.lean ====
section
/-! DEFINITION. What the data unit computes, and the condition flags of each computation (10_state.md R58 to R62). -/

namespace Sys2Proof.Machine

/-- The flags of a comparison or subtraction `a - b`, 10_state.md R59: C is a borrow. -/
def subFlags (a b : Word) : Flags where
  z := a - b == 0#32
  n := (a - b).getLsbD 31
  v := decide (a.toInt - b.toInt < -2 ^ 31) || decide (2 ^ 31 ≤ a.toInt - b.toInt)
  c := decide (a.toNat < b.toNat)

/-- The flags of an addition `a + b`, 10_state.md R58. -/
def addFlags (a b : Word) : Flags where
  z := a + b == 0#32
  n := (a + b).getLsbD 31
  v := decide (a.toInt + b.toInt < -2 ^ 31) || decide (2 ^ 31 ≤ a.toInt + b.toInt)
  c := decide (2 ^ 32 ≤ a.toNat + b.toNat)

/-- The flags of a logical, move or exchange result, 10_state.md R60: C and V are unspecified. -/
def logicFlags (tick : Nat) (r : Word) : Flags where
  z := r == 0#32
  n := r.getLsbD 31
  v := Config.freeBit tick .flagV
  c := Config.freeBit tick .flagC

/-- The arithmetic and logical operations of the register and immediate forms. -/
inductive AluOp where
  | add | sub | and | or | xor | mov | neg
  deriving DecidableEq, Repr

/-- The result of an operation: MOV and NEG have zero for operand 1 (30_encoding.md R155). -/
def AluOp.result : AluOp → Word → Word → Word
  | .add, a, b => a + b
  | .sub, a, b => a - b
  | .and, a, b => a &&& b
  | .or, a, b => a ||| b
  | .xor, a, b => a ^^^ b
  | .mov, _, b => b
  | .neg, _, b => 0#32 - b

/-- The flags of an operation, 10_state.md R57 to R60. -/
def AluOp.flags (op : AluOp) (tick : Nat) (a b : Word) : Flags :=
  match op with
  | .add => addFlags a b
  | .sub => subFlags a b
  | .neg => subFlags 0#32 b
  | .and => logicFlags tick (a &&& b)
  | .or => logicFlags tick (a ||| b)
  | .xor => logicFlags tick (a ^^^ b)
  | .mov => logicFlags tick b

/-- The shifts, 45_shift.md R440. -/
inductive ShiftOp where
  | lsl | lsr | asl | asr
  deriving DecidableEq, Repr

/-- The shift functions, 45_shift.md R441: ASL as LSL (R441 (d)). -/
def ShiftOp.result : ShiftOp → Word → Nat → Word
  | .lsl, a, n => a <<< n
  | .asl, a, n => a <<< n
  | .lsr, a, n => a >>> n
  | .asr, a, n => a.sshiftRight n

/-- The last bit shifted out, and 0 where none is (10_state.md R61). -/
def ShiftOp.carry (op : ShiftOp) (a : Word) (n : Nat) : Bool :=
  if n = 0 then false
  else
    match op with
    | .lsl => a.getLsbD (32 - n)
    | .asl => a.getLsbD (32 - n)
    | .lsr => a.getLsbD (n - 1)
    | .asr => a.getLsbD (n - 1)

/-- The flags of a shift, 10_state.md R61: V is unspecified. -/
def ShiftOp.flags (op : ShiftOp) (tick : Nat) (a : Word) (n : Nat) : Flags where
  z := op.result a n == 0#32
  n := (op.result a n).getLsbD 31
  v := Config.freeBit tick .flagV
  c := op.carry a n

/-- The multiplies, 41_core_gp_b.md R281. -/
inductive MulOp where
  | w | d
  deriving DecidableEq, Repr

/-- `DUMul`, 41_core_gp_b.md R281: MULW takes bits 15:0 of each operand. -/
def MulOp.result : MulOp → Word → Word → Word
  | .w, a, b => (a.setWidth 16).setWidth 32 * (b.setWidth 16).setWidth 32
  | .d, a, b => a * b

/-! ## Data unit extended instructions, 44_data_unit_extended.md -/

/-- `DUAbs`, R421. -/
def duAbs (a : Word) : Word := if a.getLsbD 31 then 0#32 - a else a

/-- The bits that differ from the sign bit, R422. -/
def nonSignBits (a : Word) : Word := if a.getLsbD 31 then ~~~a else a

/-- `DUFfb`, R422. -/
def duFfb (a : Word) : Word :=
  if nonSignBits a = 0#32 then 0xFFFFFFFF#32 else BitVec.ofNat 32 (Nat.log2 (nonSignBits a).toNat)

/-- `DUNorm`, R428: unspecified for 0 and for 0xFFFFFFFF. -/
def duNorm (tick : Nat) (a : Word) : Word :=
  if nonSignBits a = 0#32 then Config.freeWord tick .norm else 30#32 - duFfb a

/-- The larger signed value, R423. -/
def duMax (a b : Word) : Word := if b.toInt ≤ a.toInt then a else b

/-- The smaller signed value, R424. -/
def duMin (a b : Word) : Word := if a.toInt < b.toInt then a else b

/-- `DUNmin`, R427: unspecified where NORM is. -/
def duNmin (tick : Nat) (a b : Word) : Word :=
  if nonSignBits a = 0#32 then Config.freeWord tick .norm else duMin (duNorm tick a) b

/-- The low `n` bits of a word, bit `i` at place `2 * i`. -/
def spreadBits (a : Word) : Nat → Nat
  | 0 => 0
  | n + 1 => spreadBits a n + (if a.getLsbD n then 4 ^ n else 0)

/-- MORT, R425: bit `i` of `a` at place `2 * i`, bit `i` of `b` at place `2 * i + 1`. -/
def duMort (a b : Word) : Word := BitVec.ofNat 32 (spreadBits a 16 + 2 * spreadBits b 16)

/-- VPACK, R429. -/
def duVpack (a b : Word) : Word := b.setWidth 16 ++ a.setWidth 16

end Sys2Proof.Machine
end

