-- ==== Sys2Proof/Machine/Ops.lean ====
section
/-! DEFINITION. The named operations over registers, memory, triggers and the read pipeline; taking an exception, and the
return from one. -/

namespace Sys2Proof

/-! ## On the types of the configuration -/

/-- The number of bytes of an access, 30_encoding.md R154. -/
def Size.bytes : Size → Nat
  | .b => 1
  | .w => 2
  | .d => 4
  | .l => 8

/-- The low bytes of a value, zero-extended (20_memory.md R102). -/
def Size.trunc (sz : Size) (v : DWord) : DWord :=
  match sz with
  | .b => (v.setWidth 8).setWidth 64
  | .w => (v.setWidth 16).setWidth 64
  | .d => (v.setWidth 32).setWidth 64
  | .l => v

/-- The entry translates the linear address `a` of thread `tid`. -/
def XlatEntry.covers (e : XlatEntry) (tid : Nat) (a : Word) : Bool :=
  decide (e.tid = tid) && decide (e.base ≤ a.toNat) && decide (a.toNat < e.base + e.size)

/-- `MemMap` (20_memory.md R108). -/
def Params.region (p : Params) (pa : Word) : RegionKind :=
  match p.memMap.find? fun r => decide (r.base ≤ pa.toNat) && decide (pa.toNat < r.base + r.size) with
  | some r => r.kind
  | none => .ram

/-- `RD_FIFO_DEPTH`, 10_state.md R76. -/
def Params.rdFifoDepth (p : Params) : Nat := 8 + p.rdFifoExtra

/-- `ExceptionMode(k)`, 60_exceptions.md R572: OutstandingReads always halts. -/
def ExcModes.mode (m : ExcModes) : Machine.ExcKind → ExcMode
  | .fetchFault _ => m.fetchFault
  | .pcMisaligned _ => m.pcMisaligned
  | .unknownInstruction _ => m.unknownInstruction
  | .switchException _ => m.switchException
  | .outstandingReads => .halt
  | .readPipelineUnderflow => m.readPipelineUnderflow
  | .memoryFault _ _ => m.memoryFault

end Sys2Proof

namespace Sys2Proof.Machine

/-! ## What an operation gives -/

/-- The result of a part of an instruction: a value and the state after it, an exception, or a wait. The last two leave the
instruction without effect (60_exceptions.md R573, 10_state.md R70), so they carry no state. -/
inductive Res (α : Type) where
  | ok (a : α) (s : State)
  | exc (k : ExcKind)
  | block (r : BlockReason)

/-- Go on with the value and the state, if there are any. -/
def Res.bind {α β : Type} (r : Res α) (f : α → State → Res β) : Res β :=
  match r with
  | .ok a s => f a s
  | .exc k => .exc k
  | .block b => .block b

/-! ## Sizes, units and register numbers -/

/-- The low half of a 64-bit item (20_memory.md R106). -/
def lowWord (v : DWord) : Word := v.extractLsb' 0 32

/-- The high half of a 64-bit item (20_memory.md R106). -/
def highWord (v : DWord) : Word := v.extractLsb' 32 32

/-- The partner unit `opp(u)`, 40_core_gp_a.md R257. -/
def BUnit.opp : BUnit → BUnit
  | .d0 => .d1
  | .d1 => .d0
  | .a0 => .a1
  | .a1 => .a0

/-- The unit is a data unit. -/
def BUnit.isData : BUnit → Bool
  | .d0 => true
  | .d1 => true
  | .a0 => false
  | .a1 => false

/-- Where a control register's cell stands in `Thread.ct`. -/
def CtReg.index : CtReg → Fin 20
  | .txenable => 0 | .txmode => 1 | .txrpt => 2 | .txtimer => 3 | .txbpobits => 4 | .txtimeri => 5 | .txcatch0 => 6
  | .txcatch1 => 7 | .txcatch2 => 8 | .txcatch3 => 9 | .txclkctrl => 10 | .txstate => 11 | .txamareg0 => 12
  | .txamareg1 => 13 | .txamareg2 => 14 | .txamareg3 => 15 | .txdivtime => 16 | .txprivext => 17 | .txactcyc => 18
  | .tidlecyc => 19

/-- The control register with a plain cell that number `n` of unit CT names, 10_state.md R50. -/
def CtReg.ofNum (n : BitVec 5) : Option CtReg :=
  match n.toNat with
  | 0 => some .txenable
  | 1 => some .txmode
  | 3 => some .txrpt
  | 4 => some .txtimer
  | 11 => some .txbpobits
  | 13 => some .txtimeri
  | 16 => some .txcatch0
  | 17 => some .txcatch1
  | 18 => some .txcatch2
  | 19 => some .txcatch3
  | 22 => some .txclkctrl
  | 23 => some .txstate
  | 24 => some .txamareg0
  | 25 => some .txamareg1
  | 26 => some .txamareg2
  | 27 => some .txamareg3
  | 28 => some .txdivtime
  | 29 => some .txprivext
  | 30 => some .txactcyc
  | 31 => some .tidlecyc
  | _ => none

/-- The timers and counters of 60_exceptions.md R602, which the environment may change at any time. -/
def CtReg.isTimer : CtReg → Bool
  | .txtimer => true | .txtimeri => true | .txdivtime => true | .txactcyc => true | .tidlecyc => true
  | .txenable => false | .txmode => false | .txrpt => false | .txbpobits => false | .txcatch0 => false
  | .txcatch1 => false | .txcatch2 => false | .txcatch3 => false | .txclkctrl => false | .txstate => false
  | .txamareg0 => false | .txamareg1 => false | .txamareg2 => false | .txamareg3 => false | .txprivext => false

/-- The registers that may catch something of an exception, 60_exceptions.md R575. -/
def CtReg.isCatch : CtReg → Bool
  | .txcatch0 => true | .txcatch1 => true | .txcatch2 => true | .txcatch3 => true | .txstate => true
  | .txenable => false | .txmode => false | .txrpt => false | .txtimer => false | .txbpobits => false
  | .txtimeri => false | .txclkctrl => false | .txamareg0 => false | .txamareg1 => false | .txamareg2 => false
  | .txamareg3 => false | .txdivtime => false | .txprivext => false | .txactcyc => false | .tidlecyc => false

/-- Where a trace register's cell stands in `Thread.tt`. -/
def TtReg.index : TtReg → Fin 4
  | .ttexec => 0 | .ttctrl => 1 | .ttmark => 2 | .gtexec => 3

/-- The trace register with a plain cell that number `n` of unit TT names, 10_state.md R53. -/
def TtReg.ofNum (n : BitVec 5) : Option TtReg :=
  match n.toNat with
  | 0 => some .ttexec
  | 1 => some .ttctrl
  | 2 => some .ttmark
  | 4 => some .gtexec
  | _ => none

/-! ## Updates of one field -/

/-- Set the address of the next instruction. -/
def State.setPc (s : State) (v : Word) : State := { s with th := { s.th with pc := v } }

/-- Set PCX. -/
def State.setPcx (s : State) (v : Word) : State := { s with th := { s.th with pcx := v } }

/-- Set the condition flags. -/
def State.setFlags (s : State) (f : Flags) : State := { s with th := { s.th with flags := f } }

/-- Set ISTAT. -/
def State.setIstat (s : State) (b : Bool) : State := { s with th := { s.th with istat := b } }

/-- Set the run state. -/
def State.setRun (s : State) (r : RunState) : State := { s with th := { s.th with runState := r } }

/-- Set the read pipeline. -/
def State.setRdq (s : State) (q : List DWord) : State := { s with th := { s.th with rdq := q } }

/-- Set the TTREC log. -/
def State.setTtrec (s : State) (l : List TraceRecord) : State := { s with th := { s.th with ttrec := l } }

/-- Set the kick count. -/
def State.setKick (s : State) (n : Nat) : State := { s with th := { s.th with kickCount := n } }

/-- Clear the link flag (20_memory.md R131). -/
def State.clearLink (s : State) : State := { s with th := { s.th with linkFlag := false } }

/-- Another occurrence in the same instruction: its free values are drawn anew (00_scope.md R27). -/
def State.fresh (s : State) : State := { s with tick := s.tick + 1 }

/-- Add to the accesses that the thread's instruction has still to make. -/
def State.push (s : State) (e : Todo) : State := { s with th := { s.th with todo := s.th.todo ++ [e] } }

/-- Emit an event to the environment (60_exceptions.md R608). -/
def State.emit (s : State) (e : Emit) : State := { s with emitted := e :: s.emitted }

/-- The cell of a control register. -/
def State.ctCell (s : State) (r : CtReg) : Word := s.th.ct.get r.index

/-- Set the cell of a control register. -/
def State.setCtCell (s : State) (r : CtReg) (v : Word) : State :=
  { s with th := { s.th with ct := s.th.ct.set r.index.val v r.index.isLt } }

/-- The cell of a trace register. -/
def State.ttCell (s : State) (r : TtReg) : Word := s.th.tt.get r.index

/-- Set the cell of a trace register. -/
def State.setTtCell (s : State) (r : TtReg) (v : Word) : State :=
  { s with th := { s.th with tt := s.th.tt.set r.index.val v r.index.isLt } }

/-- `pc <- pc + 4`, 40_core_gp_a.md R240 (b). -/
def advance (s : State) : State := s.setPc (s.th.pc + 4#32)

/-! ## The data and address registers -/

/-- Number `n` of a data unit with local registers `loc` and global ones `glob` (10_state.md R42 to R44). -/
def readData (s : State) (loc glob : Vector Word 16) (n : BitVec 5) (slot : Nat) : Word :=
  if n.toNat < 16 then
    if n.toNat < 8 || s.cfg.dspRegs then loc.get (Fin.ofNat 16 n.toNat)
    else Config.freeWord s.tick (.operand slot)
  else glob.get (Fin.ofNat 16 (n.toNat - 16))

/-- Number `n` of an address unit (10_state.md R43 to R46, R83): 16 is CPCx, the address of this instruction. -/
def readAddr (s : State) (loc glob : Vector Word 8) (n : BitVec 5) (slot : Nat) : Word :=
  if n.toNat < 8 then
    if n.toNat < 4 || s.cfg.dspRegs then loc.get (Fin.ofNat 8 n.toNat)
    else Config.freeWord s.tick (.operand slot)
  else if n.toNat < 16 then glob.get (Fin.ofNat 8 (n.toNat - 8))
  else if n.toNat = 16 then s.th.pc
  else Config.freeWord s.tick (.operand slot)

/-- `reg(u, n)`: the value of register `n` of unit `u`, as operand `slot` reads it. -/
def readReg (s : State) (u : BUnit) (n : BitVec 5) (slot : Nat) : Word :=
  match u with
  | .d0 => readData s s.th.d0 s.gd0 n slot
  | .d1 => readData s s.th.d1 s.gd1 n slot
  | .a0 => readAddr s s.th.a0 s.ga0 n slot
  | .a1 => readAddr s s.th.a1 s.ga1 n slot

/-- `reg(u, n) <- v`: an absent, reserved or read-only number is left alone (10_state.md R43, R46, R83). -/
def writeReg (s : State) (u : BUnit) (n : BitVec 5) (v : Word) : State :=
  match u with
  | .d0 =>
    if n.toNat < 16 then
      if n.toNat < 8 || s.cfg.dspRegs then
        { s with th := { s.th with d0 := s.th.d0.set (n.toNat % 16) v (Nat.mod_lt _ (by decide)) } }
      else s
    else { s with gd0 := s.gd0.set ((n.toNat - 16) % 16) v (Nat.mod_lt _ (by decide)) }
  | .d1 =>
    if n.toNat < 16 then
      if n.toNat < 8 || s.cfg.dspRegs then
        { s with th := { s.th with d1 := s.th.d1.set (n.toNat % 16) v (Nat.mod_lt _ (by decide)) } }
      else s
    else { s with gd1 := s.gd1.set ((n.toNat - 16) % 16) v (Nat.mod_lt _ (by decide)) }
  | .a0 =>
    if n.toNat < 8 then
      if n.toNat < 4 || s.cfg.dspRegs then
        { s with th := { s.th with a0 := s.th.a0.set (n.toNat % 8) v (Nat.mod_lt _ (by decide)) } }
      else s
    else if n.toNat < 16 then { s with ga0 := s.ga0.set ((n.toNat - 8) % 8) v (Nat.mod_lt _ (by decide)) }
    else s
  | .a1 =>
    if n.toNat < 8 then
      if n.toNat < 4 || s.cfg.dspRegs then
        { s with th := { s.th with a1 := s.th.a1.set (n.toNat % 8) v (Nat.mod_lt _ (by decide)) } }
      else s
    else if n.toNat < 16 then { s with ga1 := s.ga1.set ((n.toNat - 8) % 8) v (Nat.mod_lt _ (by decide)) }
    else s

/-- Register `n` of unit `u` exists, holds a value of its own, and can be written. -/
def regPresent (s : State) (u : BUnit) (n : BitVec 5) : Bool :=
  if u.isData then n.toNat < 8 || 16 ≤ n.toNat || s.cfg.dspRegs
  else n.toNat < 4 || (n.toNat < 8 && s.cfg.dspRegs) || (8 ≤ n.toNat && n.toNat < 16)

/-! ## Memory -/

/-- What an address that the memory does not list reads as (entry 9). -/
def Memory.background : Byte := 0#8

/-- The byte at an address. -/
def Memory.get : Memory → Nat → Byte
  | [], _ => Memory.background
  | (k, v) :: m, a => if k = a then v else Memory.get m a

/-- Write a byte, keeping the canonical form. -/
def Memory.set : Memory → Nat → Byte → Memory
  | [], a, v => if v = Memory.background then [] else [(a, v)]
  | (k, w) :: m, a, v =>
    if a < k then (if v = Memory.background then (k, w) :: m else (a, v) :: (k, w) :: m)
    else if a = k then (if v = Memory.background then m else (a, v) :: m)
    else (k, w) :: Memory.set m a v

/-- The canonical form from address `lo` on: rising addresses of the 32-bit space, no byte equal to the background. -/
def Memory.wfFrom (lo : Nat) : Memory → Bool
  | [] => true
  | (k, v) :: m => decide (lo ≤ k) && decide (k < 2 ^ 32) && v != Memory.background && Memory.wfFrom (k + 1) m

/-- The canonical form of a memory. -/
def Memory.wf (m : Memory) : Bool := Memory.wfFrom 0 m

/-- One of the old values or the value now, as `k` chooses (20_memory.md R136, R138). -/
def chooseByte (now : Byte) (olds : List Byte) (k : Nat) : Byte := (olds[k % (olds.length + 1)]?).getD now

/-- The old values of a log at an address. -/
def oldBytes (l : List (Word × Byte)) (pa : Word) : List Byte := (l.filter fun c => c.1 == pa).map Prod.snd

/-- The byte a data access sees at a physical address (20_memory.md R136). -/
def State.dataByte (s : State) (pa : Word) : Byte :=
  chooseByte (s.mem.get pa.toNat) (oldBytes s.dcOld pa) (Config.freeNat s.tick (.dcView pa))

/-- The byte an instruction fetch sees at a physical address (20_memory.md R138). -/
def State.fetchByte (s : State) (pa : Word) : Byte :=
  chooseByte (s.mem.get pa.toNat) (oldBytes s.icOld pa) (Config.freeNat s.tick (.icView pa))

/-- The `n` bytes from a physical address as data accesses see them, the lowest address least significant
(20_memory.md R105). -/
def State.loadBytes (s : State) (pa : Word) : Nat → Nat
  | 0 => 0
  | n + 1 => (s.dataByte pa).toNat + 256 * State.loadBytes s (pa + 1#32) n

/-- The linked bytes of a thread include the byte at a physical address. -/
def Thread.linked (t : Thread) (pa : Word) : Bool :=
  match t.linkAddr with
  | some l => decide ((pa - l.phys).toNat < l.size.bytes)
  | none => false

/-- The link monitor of a thread sees another agent's write (20_memory.md R130). -/
def Thread.noteWrite (pa : Word) (t : Thread) : Thread := { t with linkHit := t.linkHit || t.linked pa }

/-- The thread that has the turn writes a byte: a fetch may go on seeing the old one (20_memory.md R138), a data access
may not, and the monitors of the other threads see the write. -/
def State.storeByte (s : State) (pa : Word) (v : Byte) : State :=
  { s with
    mem := s.mem.set pa.toNat v
    icOld := (pa, s.mem.get pa.toNat) :: s.icOld
    dcOld := s.dcOld.filter fun c => c.1 != pa
    others := s.others.map (Thread.noteWrite pa) }

/-- Write the `n` low bytes of `v`, the least significant at the lowest address (20_memory.md R104, R105). -/
def State.storeBytes (s : State) (pa : Word) : Nat → Nat → State
  | 0, _ => s
  | n + 1, v => State.storeBytes (s.storeByte pa (BitVec.ofNat 8 v)) (pa + 1#32) n (v / 256)

/-- Leave `n` bytes from a physical address with unspecified values (20_memory.md R107). DESIGN CHOICE (entry 57): an
access at the top of the address space goes on at 0. -/
def State.storeFree (s : State) (pa : Word) : Nat → State
  | 0 => s
  | n + 1 => State.storeFree (s.storeByte pa ((Config.freeWord s.tick (.byte pa)).setWidth 8)) (pa + 1#32) n

/-- An agent outside the core writes a byte (20_memory.md R120, R136): every monitor sees it, and data accesses and
fetches may go on seeing the old byte. -/
def State.foreignByte (s : State) (c : Word × Byte) : State :=
  { s with
    mem := s.mem.set c.1.toNat c.2
    icOld := (c.1, s.mem.get c.1.toNat) :: s.icOld
    dcOld := (c.1, s.mem.get c.1.toNat) :: s.dcOld
    others := s.others.map (Thread.noteWrite c.1)
    th := s.th.noteWrite c.1 }

/-- What comes from outside before the next access of this turn (20_memory.md R122, R123). -/
def interleave (s : State) : State :=
  match s.mid with
  | [] => s
  | .writes ws :: rest => ws.foldl State.foreignByte { s with mid := rest }
  | .giveWay :: rest => { s with mid := rest }

/-- The instruction gives way to other threads before its next access. -/
def State.givesWay (s : State) : Bool :=
  match s.mid with
  | [] => false
  | .writes _ :: _ => false
  | .giveWay :: _ => true

/-- An access happens now, unless the instruction gives way before it or has given way before: then it is still to come,
after those before it. -/
def State.defer (s : State) (e : Todo) (act : State → State) : State :=
  if s.th.todo = [] && !s.givesWay then act (interleave s) else s.push e

/-- `Line(a)`, 48_cache_ops.md R531. -/
def line (a : Word) : Word := a &&& 0xFFFFFFC0#32

/-- `Translate`: the first entry that covers the address, else the identity (20_memory.md R101). -/
def lookupXlat (table : List XlatEntry) (tid : Nat) (a : Word) : Option Word :=
  match table.find? fun e => e.covers tid a with
  | some e => e.phys.map fun p => p + (a - BitVec.ofNat 32 e.base)
  | none => some a

/-- The TLB flags that the data (false) or the code (true) side gives for an address: the identity has none of its own
(20_memory.md R101, entry 10). -/
def lookupFlags (table : List XlatEntry) (tid : Nat) (code : Bool) (a : Word) : Option Word :=
  (table.find? fun e => e.covers tid a).map fun e => if code then e.codeFlags else e.dataFlags

/-- The translation that access `slot` at an address uses: the one now, or one that was changed and not yet flushed for
the line (20_memory.md R139). -/
def State.tableFor (s : State) (slot : Nat) (a : Word) : List XlatEntry :=
  let olds := s.xlatOlds.filter fun o => !o.flushed.contains (line a)
  match olds[Config.freeNat s.tick (.xlat slot a) % (olds.length + 1)]? with
  | some o => o.table
  | none => s.xlat

/-- The physical address of a linear one for the thread that has the turn (20_memory.md R101, R139). -/
def State.translate (s : State) (slot : Nat) (a : Word) : Option Word := lookupXlat (s.tableFor slot a) s.th.tid a

/-- Where an access goes. -/
inductive Target where
  | ram (pa : Word)
  | device (d : Nat) (pa : Word)

/-- Where the access `slot` at a linear address goes; none where it fails (20_memory.md R103). -/
def State.target (s : State) (slot : Nat) (a : Word) : Option Target :=
  match s.translate slot a with
  | none => none
  | some pa =>
    match Params.region s.cfg pa with
    | .ram => some (.ram pa)
    | .device d => some (.device d pa)
    | .unmapped => none

/-- `a mod n = 0` for an access of the size (20_memory.md R103). -/
def aligned (a : Word) (sz : Size) : Bool := a.toNat % Size.bytes sz == 0

/-! ## Triggers and deferred errors -/

/-- `txdefr[l]`, 10_state.md R68. -/
def Thread.txdefr (t : Thread) (level : Bool) : Word := if level then t.txdefr1 else t.txdefr0

/-- Set `txdefr[l]`. -/
def Thread.setTxdefr (t : Thread) (level : Bool) (v : Word) : Thread :=
  if level then { t with txdefr1 := v } else { t with txdefr0 := v }

/-- The 16-bit set with one bit. -/
def oneTrigger (b : BitVec 4) : BitVec 16 := 1#16 <<< b.toNat

/-- `Trigger(thread, level, bit)`, 60_exceptions.md R589. -/
def Thread.raiseTrigger (t : Thread) (level : Bool) (b : BitVec 4) : Thread :=
  if level then { t with trig1 := t.trig1 ||| oneTrigger b } else { t with trig0 := t.trig0 ||| oneTrigger b }

/-- The triggers of a level that are active in its mask: the kick trigger is there exactly when the kick count is not 0
(60_exceptions.md R588, R591). -/
def Thread.active (t : Thread) (kickBit : BitVec 4) (level : Bool) : BitVec 16 :=
  let stored := (if level then t.trig1 else t.trig0) &&& ~~~(oneTrigger kickBit)
  let all := if t.kickCount = 0 then stored else stored ||| oneTrigger kickBit
  all &&& (if level then t.txmaski else t.txmask).setWidth 16

/-- The thread's latest store completes: what `txdefr` held before is what a DEFR that does not wait may still return
(92_eei_decisions.md D36). -/
def State.noteStore (s : State) : State :=
  { s with th := { s.th with txdefrPrev0 := s.th.txdefr0, txdefrPrev1 := s.th.txdefr1 } }

/-- Write bits 31:16 of `txdefr` of the level in use: 29:24 are `code`, the others unspecified (60_exceptions.md
R592). -/
def State.reportCode (s : State) (code : BitVec 6) : State :=
  let f := Config.freeWord s.tick .report
  let v := f.extractLsb' 0 2 ++ code ++ f.extractLsb' 2 8 ++ (s.th.txdefr s.th.istat).setWidth 16
  { s with th := s.th.setTxdefr s.th.istat v }

/-- Raise the deferred trigger of the level in use (60_exceptions.md R592). -/
def State.raiseDeferred (s : State) : State :=
  { s with th := s.th.raiseTrigger s.th.istat s.cfg.defrBit }

/-- A failed access in Deferred mode: bits 29:24 get an unspecified value other than 0 and 2, and the deferred trigger is
raised (60_exceptions.md R580). -/
def State.reportFailure (s : State) : State :=
  let k := (Config.freeWord s.tick .report).extractLsb' 10 6
  let s' := ((s.reportCode (if k = 0#6 ∨ k = 2#6 then 1#6 else k)).raiseDeferred)
  { s' with th := { s'.th with failedAccess := true } }

/-! ## Data accesses -/

/-- A read that fails: a MemoryFault, or an unspecified value and a deferred report (60_exceptions.md R580). -/
def failedRead (s : State) (slot : Nat) (a : Word) (sz : Size) : Res (Source × Option Source) :=
  match s.cfg.memErrorMode with
  | .sync => .exc (.memoryFault a .read)
  | .deferred => .ok (.value (Size.trunc sz (Config.freeDWord s.tick (.data slot a))), none) s.reportFailure

/-- A write that fails: a MemoryFault, or nothing written and a deferred report (60_exceptions.md R580). -/
def failedWrite (s : State) (a : Word) : Res (List Todo) :=
  match s.cfg.memErrorMode with
  | .sync => .exc (.memoryFault a .write)
  | .deferred => .ok [] s.reportFailure

/-- One read of a device (20_memory.md R140). -/
def deviceRead (s : State) (d : Nat) (pa : Word) (sz : Size) : DWord × State :=
  let v := Size.trunc sz (Config.devData s.tick s.emitted.length d pa sz)
  (v, s.emit (.devRead s.th.tid d pa sz v))

/-- Where `MemRead(addr, n)` finds its data (20_memory.md R103): a misaligned read has unspecified data or fails (R107);
one of 8 bytes is two accesses, the lower address first (R122). DESIGN CHOICE (entry 69): a misaligned one is one access
of any size. -/
def locate (s : State) (slot : Nat) (a : Word) (sz : Size) : Res (Source × Option Source) :=
  if aligned a sz then
    match s.target slot a with
    | none => failedRead s slot a sz
    | some (.ram pa) => .ok (.ram pa, if sz = .l then some (.ram (pa + 4#32)) else none) s
    | some (.device d pa) => .ok (.device d pa, if sz = .l then some (.device d (pa + 4#32)) else none) s
  else if Config.freeBit s.tick (.misaligned slot a) then failedRead s slot a sz
  else
    match s.target slot a with
    | none => failedRead s slot a sz
    | some (.ram _) => .ok (.value (Size.trunc sz (Config.freeDWord s.tick (.data slot a))), none) s
    | some (.device d pa) => .ok (.device d pa, none) s

/-- One read of a size, zero-extended (20_memory.md R102). -/
def Source.read (src : Source) (sz : Size) (s : State) : DWord × State :=
  match src with
  | .ram pa => (BitVec.ofNat 64 (s.loadBytes pa sz.bytes), s)
  | .device d pa => deviceRead s d pa sz
  | .value v => (v, s)

/-- `MemRead(addr, n)` of at most 32 bits, 20_memory.md R103: one access. -/
def memRead (s : State) (slot : Nat) (a : Word) (sz : Size) : Res DWord :=
  (locate s slot a sz).bind fun p s1 =>
    let (v, s2) := p.1.read sz (interleave s1)
    .ok v s2

/-- The monitors of the other threads see a write of `n` bytes (20_memory.md R130). -/
def State.noteBytes (s : State) (pa : Word) : Nat → State
  | 0 => s
  | n + 1 => State.noteBytes { s with others := s.others.map (Thread.noteWrite pa) } (pa + 1#32) n

/-- One write to a device (20_memory.md R140), which the monitors see as a write of `n` bytes from `first`. -/
def deviceWrite (s : State) (d : Nat) (pa : Word) (sz : Size) (v : DWord) (first : Word) (n : Nat) : State :=
  (s.noteBytes first n).emit (.devWrite s.th.tid d pa sz v)

/-- The accesses of `MemWrite(addr, n, v)`, 20_memory.md R104: a misaligned one leaves the two aligned cells it touches
with unspecified values or fails (R107); one of 8 bytes is two accesses, the lower address first (R122). DESIGN CHOICE
(entry 69): a misaligned one is one access of any size, between whose bytes no other agent comes. -/
def locateWrite (s : State) (slot : Nat) (a : Word) (sz : Size) (v : DWord) : Res (List Todo) :=
  if aligned a sz then
    match s.target slot a with
    | none => failedWrite s a
    | some (.ram pa) =>
      .ok (if sz = .l then [.store pa .d v, .store (pa + 4#32) .d ((highWord v).setWidth 64)] else [.store pa sz v]) s
    | some (.device d pa) =>
      .ok (if sz = .l then
          [.storeDevice d pa .d (Size.trunc .d v) pa 4,
            .storeDevice d (pa + 4#32) .d ((highWord v).setWidth 64) (pa + 4#32) 4]
        else [.storeDevice d pa sz (Size.trunc sz v) pa sz.bytes]) s
  else if Config.freeBit s.tick (.misaligned slot a) then failedWrite s a
  else
    match s.target slot a with
    | none => failedWrite s a
    | some (.ram pa) => .ok [.storeFree (pa - BitVec.ofNat 32 (a.toNat % Size.bytes sz)) (2 * Size.bytes sz)] s
    | some (.device d pa) =>
      .ok [.storeDevice d pa sz (Config.freeDWord s.tick (.data slot a))
        (pa - BitVec.ofNat 32 (a.toNat % Size.bytes sz)) (2 * Size.bytes sz)] s

/-- An access fails: no translation, an unmapped region, or misaligned and refused by the environment
(60_exceptions.md R580). -/
def accessFails (s : State) (slot : Nat) (a : Word) (sz : Size) : Bool :=
  (s.target slot a).isNone || (!aligned a sz && Config.freeBit s.tick (.misaligned slot a))

/-! ## Coprocessor ports -/

/-- The coprocessor port is implemented (00_scope.md R13). -/
def State.hasPort (s : State) (port : BitVec 3) : Bool := s.cfg.coproPorts.getLsbD port.toNat

/-- `CPRead(n, size)`, 10_state.md R80, zero-extended (46_long_gp_a.md R464). DESIGN CHOICE (entry 23): a port that is not
implemented reads as a reserved register does. -/
def cpRead (s : State) (port : BitVec 3) (sz : Size) : DWord × State :=
  if s.hasPort port then
    let v := Size.trunc sz (Config.cpData s.tick s.emitted.length port sz)
    (v, s.emit (.cpRead s.th.tid port sz v))
  else (Size.trunc sz (Config.freeDWord s.tick .copro), s)

/-- `CPWrite(n, L, data)`, 10_state.md R80; to a port that is not implemented it does nothing (entry 23). -/
def cpWrite (s : State) (port : BitVec 3) (v : DWord) : State :=
  if s.hasPort port then s.emit (.cpWrite s.th.tid port v) else s

/-! ## The read pipeline -/

/-- `RDPop()`, 10_state.md R77, R78. -/
def rdPop (s : State) : Res DWord :=
  match s.th.rdq with
  | [] => .exc .readPipelineUnderflow
  | e :: q => .ok e (s.setRdq q)

/-- The number is a read address port, 10_state.md R55. -/
def isReadPort (port : BitVec 5) : Bool :=
  match port.toNat with
  | 16 => true | 17 => true | 22 => true | 23 => true | 24 => true | 25 => true | 26 => true | 28 => true
  | 29 => true | 30 => true | 31 => true
  | _ => false

/-- The entry a read address port makes of the data, 10_state.md R75. -/
def portEntry (port : BitVec 5) (d : DWord) (sz : Size) : DWord :=
  match port.toNat with
  | 24 => (d.setWidth 8).setWidth 64
  | 25 => (d.setWidth 16).setWidth 64
  | 26 => (d.setWidth 32).setWidth 64
  | 28 => (d.setWidth 8).signExtend 64
  | 29 => (d.setWidth 16).signExtend 64
  | 30 => (d.setWidth 32).signExtend 64
  | 22 => Config.mxExtend port d sz
  | 23 => Config.mxExtend port d sz
  | 31 => Config.mxExtend port d sz
  | _ => d

/-- The size of an access that an address without a size issues, 10_state.md R75. -/
def unsizedBytes (p : Params) (port : BitVec 5) : Size :=
  match port.toNat with
  | 24 => .b | 28 => .b
  | 25 => .w | 29 => .w
  | 26 => .d | 30 => .d
  | _ => p.raUnsized

/-- The port appends an entry: all but RAPF do, and RAPF as `RAPF_RETURNS_DATA` says (10_state.md R75). -/
def portReturns (p : Params) (port : BitVec 5) : Bool := port != 17#5 || p.rapfReturnsData

/-- A port delivers the data it read to the pipeline. -/
def State.append (s : State) (port : BitVec 5) (d : DWord) (sz : Size) : State :=
  if portReturns s.cfg port then s.setRdq (s.th.rdq ++ [portEntry port d sz]) else s

/-- The access, or the one that follows it, appends an entry: it belongs to an issue to a port that returns data. -/
def Todo.appends (p : Params) : Todo → Bool
  | .load _ _ _ _ => false
  | .issue _ port _ => portReturns p port
  | .wide _ _ port => portReturns p port
  | .high _ port _ => portReturns p port
  | .store _ _ _ => false
  | .storeFree _ _ => false
  | .storeDevice _ _ _ _ _ _ => false
  | .trap _ => false

/-- The entries of the read pipeline with those that are still to come (10_state.md R76). -/
def Thread.pipelineUse (p : Params) (t : Thread) : Nat := t.rdq.length + (t.todo.filter (Todo.appends p)).length

/-- Write 32 bits that a load brought to their register. -/
def State.deliverTo (s : State) (d : Dest) (v : Word) : State :=
  match d with
  | none => s
  | some (u, n) => writeReg s u n v

/-- The second access of a 64-bit issue. -/
def issueHigh (src : Source) (port : BitVec 5) (lo : Word) (s : State) : State :=
  let (w, s1) := src.read .d s
  s1.append port (lowWord w ++ lo) .l

/-! ## Exceptions -/

/-- Interrupt-level entry, 60_exceptions.md R586: PC and PCX are exchanged, ISTAT is set, the link flag is cleared. -/
def Thread.enterInterrupt (t : Thread) : Thread :=
  { t with pc := t.pcx, pcx := t.pc, istat := true, linkFlag := false, runState := .running }

/-- Taking a synchronous exception in the state before the instruction, 60_exceptions.md R572: pc stays, the link flag is
cleared, and the thread halts or enters the interrupt level; it always halts at interrupt level (R594). OutstandingReads
halts it and emits the halt trigger (R581, R590). -/
def raise (k : ExcKind) (s : State) : State :=
  let t := { s.th with linkFlag := false, lastException := some k }
  let halts := t.exModes.mode k == .halt || t.istat
  let s1 := { s with th := if halts then { t with runState := .halted } else t.enterInterrupt }
  if k = .outstandingReads then s1.emit (.haltTrigger s.th.tid) else s1

/-! ## Accesses one by one -/

/-- What an access does. -/
def Todo.act (e : Todo) (s : State) : State :=
  match e with
  | .load src sz lo hi =>
    let (v, s1) := src.read sz s
    (s1.deliverTo lo (lowWord v)).deliverTo hi (highWord v)
  | .issue src port sz =>
    let (v, s1) := src.read sz s
    s1.append port v sz
  | .wide lo hi port =>
    let (v, s1) := lo.read .d s
    s1.defer (.high hi port (lowWord v)) (issueHigh hi port (lowWord v))
  | .high src port lo => issueHigh src port lo s
  | .store pa sz v => s.storeBytes pa sz.bytes v.toNat
  | .storeFree pa n => s.storeFree pa n
  | .storeDevice d pa sz v first n => deviceWrite s d pa sz v first n
  | .trap k => raise k s

/-- Make an access, now or when it is its turn. -/
def State.event (s : State) (e : Todo) : State := s.defer e e.act

/-- Make one of the accesses that are still to come; the next one draws its free values anew (00_scope.md R27). -/
def State.resumeOne (s : State) (e : Todo) : State := (s.event e).fresh

/-- Make the accesses that an instruction which gave way has still to make. -/
def State.resume (s : State) : State := s.th.todo.foldl State.resumeOne { s with th := { s.th with todo := [] } }

/-- The accesses of a load that has been located: `between` comes after the first of them. -/
def State.loads (s : State) (p : Source × Option Source) (sz : Size) (lo hi : Dest) (between : State → State) : State :=
  match p.2 with
  | none => between (s.event (.load p.1 sz lo hi))
  | some src => (between (s.event (.load p.1 .d lo none))).event (.load src .d hi none)

/-- `MemWrite(addr, n, v)`, 20_memory.md R104. -/
def memWrite (s : State) (slot : Nat) (a : Word) (sz : Size) (v : DWord) : Res Unit :=
  (locateWrite s.noteStore slot a sz v).bind fun l s1 => .ok () (l.foldl State.event s1)

/-- `RAIssue(port, addr, n)`, 10_state.md R75, R76: the read is performed now (20_memory.md R128); an issue to a full
pipeline waits, whatever the port. A number that is no read address port is left alone (10_state.md R83). -/
def raIssue (s : State) (port : BitVec 5) (a : Word) (sz : Size) : Res Unit :=
  if isReadPort port then
    if Params.rdFifoDepth s.cfg ≤ s.th.pipelineUse s.cfg then .block .pipelineFull
    else (locate s 3 a sz).bind fun p s1 =>
      .ok () (s1.event (match p.2 with | none => .issue p.1 port sz | some hi => .wide p.1 hi port))
  else .ok () s

/-! ## The special units -/

/-- A value with bit `k` replaced. -/
def replaceBit (w : Word) (k : BitVec 5) (b : Bool) : Word :=
  if b then w ||| (1#32 <<< k.toNat) else w &&& ~~~(1#32 <<< k.toNat)

/-- A read of a control register (10_state.md R64, R65, R68): TXSTATUS is unspecified but for ISTAT, TXDEFR is the cell
of the level in use, a timer may have been changed from outside (60_exceptions.md R602), and what the catch registers
hold after an exception is unspecified (R575). -/
def readCt (s : State) (n : BitVec 5) (slot : Nat) : Word :=
  match CtReg.ofNum n with
  | some r =>
    if r.isTimer then
      if Config.freeBit s.tick (.moved slot) then Config.freeWord s.tick (.operand slot) else s.ctCell r
    else if r.isCatch && s.th.lastException.isSome then Config.freeWord s.tick (.operand slot)
    else s.ctCell r
  | none =>
    if n = 2#5 then replaceBit (Config.freeWord s.tick (.operand slot)) s.cfg.istatBit s.th.istat
    else if n = 20#5 then s.th.txdefr s.th.istat
    else Config.freeWord s.tick (.operand slot)

/-- The flags after a write of TXSTATUS: unspecified (10_state.md R65). -/
def unspecifiedFlags (tick : Nat) : Flags :=
  { z := Config.freeBit tick (.statusFlag 0)
    n := Config.freeBit tick (.statusFlag 1)
    v := Config.freeBit tick (.statusFlag 2)
    c := Config.freeBit tick (.statusFlag 3) }

/-- A write of a control register, with `CTWriteEffect` (10_state.md R64, R65, R68). -/
def writeCt (s : State) (n : BitVec 5) (v : Word) : State :=
  match CtReg.ofNum n with
  | some r => (s.setCtCell r v).emit (.ctWrite s.th.tid n v)
  | none =>
    if n = 2#5 then
      (((s.setIstat (v.getLsbD s.cfg.istatBit.toNat)).setFlags (unspecifiedFlags s.tick)).emit
        (.ctWrite s.th.tid n v))
    else if n = 20#5 then
      { s with th := s.th.setTxdefr s.th.istat v }.emit (.ctWrite s.th.tid n v)
    else s

/-- What a status read returns besides its value: the triggers it returned are cleared, and a returned kick trigger
takes one kick (60_exceptions.md R588, R591). -/
def takeTriggers (s : State) (level : Bool) (got : BitVec 16) : State :=
  let cleared := ~~~(got &&& ~~~(oneTrigger s.cfg.kickBit))
  let th := if level then { s.th with trig1 := s.th.trig1 &&& cleared } else { s.th with trig0 := s.th.trig0 &&& cleared }
  let kicks := if got.getLsbD s.cfg.kickBit.toNat then th.kickCount - 1 else th.kickCount
  { s with th := { th with kickCount := kicks } }

/-- A blocking trigger read of TXSTAT or TXSTATI (10_state.md R52, 60_exceptions.md R588). -/
def readStatus (s : State) (level : Bool) (slot : Nat) : Res Word :=
  let got := s.th.active s.cfg.kickBit level
  if got = 0#16 then .block .trigger
  else .ok ((Config.freeWord s.tick (.operand slot)).extractLsb' 16 16 ++ got) (takeTriggers s level got)

/-- A read of a trigger register (10_state.md R52, 60_exceptions.md R588). -/
def readTr (s : State) (n : BitVec 5) (slot : Nat) : Res Word :=
  match n.toNat with
  | 0 => readStatus s false slot
  | 1 => .ok s.th.txmask s
  | 2 => readStatus s true slot
  | 3 => .ok s.th.txmaski s
  | 4 => .ok ((s.th.active s.cfg.kickBit false).setWidth 32) s
  | 6 => .ok ((s.th.active s.cfg.kickBit true).setWidth 32) s
  | _ => .ok (Config.freeWord s.tick (.operand slot)) s

/-- A write of a status or poll register: any of the written 1 bits may be cleared (60_exceptions.md R588). -/
def clearSomeTriggers (s : State) (level : Bool) (v : Word) : State :=
  let gone := ~~~(v.setWidth 16 &&& (Config.freeWord s.tick .triggerClear).setWidth 16)
  if level then { s with th := { s.th with trig1 := s.th.trig1 &&& gone } }
  else { s with th := { s.th with trig0 := s.th.trig0 &&& gone } }

/-- A write of a trigger register (10_state.md R52, 60_exceptions.md R588). -/
def writeTr (s : State) (n : BitVec 5) (v : Word) : State :=
  match n.toNat with
  | 0 => clearSomeTriggers s false v
  | 1 => { s with th := { s.th with txmask := v } }
  | 2 => clearSomeTriggers s true v
  | 3 => { s with th := { s.th with txmaski := v } }
  | 4 => clearSomeTriggers s false v
  | 6 => clearSomeTriggers s true v
  | _ => s

/-- A read of a trace register: TTREC is write-only (10_state.md R53, 93_implementation_defined.md I44). -/
def readTt (s : State) (n : BitVec 5) (slot : Nat) : Word :=
  match TtReg.ofNum n with
  | some r => s.ttCell r
  | none => Config.freeWord s.tick (.operand slot)

/-- Append a record to the TTREC log (10_state.md R53). -/
def traceRecord (s : State) (width : Nat) (v : DWord) : State :=
  s.setTtrec (s.th.ttrec ++ [{ width := width, value := v }])

/-- A write of a trace register (49_trace_ops.md R550). -/
def writeTt (s : State) (n : BitVec 5) (v : Word) : State :=
  match TtReg.ofNum n with
  | some r => s.setTtCell r v
  | none => if n = 3#5 then traceRecord s 32 (v.setWidth 64) else s

/-- The value a read of PC.0 as a unit 5 register returns (10_state.md R49). -/
def pcValue (s : State) : Word := s.th.pc + (if s.cfg.pcReadsNext then 4#32 else 0#32)

/-- The unit of D0, D1, A0 or A1 that a 4-bit unit code names, 30_encoding.md R171. -/
def BUnit.ofCode (u : BitVec 4) : Option BUnit :=
  match u.toNat with
  | 1 => some .d0
  | 2 => some .d1
  | 3 => some .a0
  | 4 => some .a1
  | _ => none

/-- `read(U, n)`, 40_core_gp_a.md R261: the value of register `n` of the unit with code `u`, as operand `slot` reads it.
Codes 9 to 15 name no registers (30_encoding.md R173). DESIGN CHOICE (entry 56): the spec lists CP.n as no source of a
plain move, and the encoding can name it: it is a 32-bit coprocessor read. -/
def readUnit (s : State) (u : BitVec 4) (n : BitVec 5) (slot : Nat) : Res Word :=
  match u.toNat with
  | 0 => .ok (readCt s n slot) s
  | 1 => .ok (readReg s .d0 n slot) s
  | 2 => .ok (readReg s .d1 n slot) s
  | 3 => .ok (readReg s .a0 n slot) s
  | 4 => .ok (readReg s .a1 n slot) s
  | 5 =>
    if n = 0#5 then .ok (pcValue s) s
    else if n = 1#5 then .ok s.th.pcx s
    else .ok (Config.freeWord s.tick (.operand slot)) s
  | 6 =>
    if n.toNat < 8 then let (v, s1) := cpRead s (n.setWidth 3) .d; .ok (lowWord v) s1
    else if n = 16#5 then (rdPop s).bind fun e s1 => .ok (lowWord e) s1
    else .ok (Config.freeWord s.tick (.operand slot)) s
  | 7 => readTr s n slot
  | 8 => .ok (readTt s n slot) s
  | _ => .ok (Config.freeWord s.tick (.operand slot)) s

/-- `write(U, n, v)`, 40_core_gp_a.md R261, 42_extended_gp_a.md R320 (f). -/
def writeUnit (s : State) (u : BitVec 4) (n : BitVec 5) (v : Word) : Res Unit :=
  match u.toNat with
  | 0 => .ok () (writeCt s n v)
  | 1 => .ok () (writeReg s .d0 n v)
  | 2 => .ok () (writeReg s .d1 n v)
  | 3 => .ok () (writeReg s .a0 n v)
  | 4 => .ok () (writeReg s .a1 n v)
  | 5 => if n = 0#5 then .ok () (s.setPc v) else if n = 1#5 then .ok () (s.setPcx v) else .ok () s
  | 6 => raIssue s n v (unsizedBytes s.cfg n)
  | 7 => .ok () (writeTr s n v)
  | 8 => .ok () (writeTt s n v)
  | _ => .ok () s

/-! ## The ends of instructions -/

/-- The return from interrupt, 41_core_gp_b.md R295: PC and PCX exchange, PCX with the address after the RTI, and ISTAT
and the link flag are cleared. -/
def returnFromInterrupt (s : State) : State :=
  { s with th := { s.th with pc := s.th.pcx, pcx := s.th.pc + 4#32, istat := false, linkFlag := false } }

/-- The thread waits: nothing has happened and the instruction is tried again (10_state.md R70). -/
def blockOn (r : BlockReason) (s : State) : State := s.setRun (.blocked r)

/-- The end of an instruction that began in `s0`: an exception or a wait leaves no other effect of it
(60_exceptions.md R573). -/
def finish (s0 : State) (r : Res Unit) : Out :=
  match r with
  | .ok _ s => .next s
  | .exc k => .next (raise k s0)
  | .block b => .next (blockOn b s0)

/-- An exception that ends a multi-element instruction: after the accesses that are still to come. -/
def raiseLast (k : ExcKind) (s : State) : State := if s.th.todo = [] then raise k s else s.push (.trap k)

/-- The elements of a multi-element instruction, in order: an exception leaves the effects of the elements before it
(60_exceptions.md R599), a wait leaves none of the instruction, but what has been drawn is not drawn again (00_scope.md
R27). -/
def runElements {α : Type} (s0 : State) (element : α → State → Res Unit) : List α → State → Out
  | [], s => .next (advance s)
  | e :: es, s =>
    match element e s with
    | .ok _ s1 => runElements s0 element es s1.fresh
    | .exc k => .next (raiseLast k s)
    | .block b => .next (blockOn b { s0 with tick := s.tick })

/-- The end of one iteration of a repeating instruction, 46_long_gp_a.md R463. -/
def repeatOrAdvance (s : State) : State :=
  if s.ctCell .txrpt = 0#32 then advance s else s.setCtCell .txrpt (s.ctCell .txrpt - 1#32)

end Sys2Proof.Machine
end

