-- ==== Sys2Proof/Machine/Operands.lean ====
section
/-! DEFINITION. The operand forms: condition codes, immediates, units, operand 2 replace, address expressions and
register lists. -/

namespace Sys2Proof.Machine

/-- `cond(cc)`, 30_encoding.md R181. -/
def cond (f : Flags) (cc : BitVec 4) : Bool :=
  match cc.toNat with
  | 0 => true
  | 1 => f.z
  | 2 => !f.z
  | 3 => f.c
  | 4 => !f.c
  | 5 => f.n
  | 6 => !f.n
  | 7 => f.v
  | 8 => !f.v
  | 9 => !f.c && !f.z
  | 10 => f.c || f.z
  | 11 => f.n == f.v
  | 12 => f.n != f.v
  | 13 => !f.z && f.n == f.v
  | 14 => f.z || f.n != f.v
  | _ => false

/-- The condition holds for the thread that has the turn. -/
def State.passes (s : State) (cc : BitVec 4) : Bool := cond s.th.flags cc

/-- `imm16(k, H, SE)`, 30_encoding.md R184: unspecified with H = SE = 1. -/
def imm16 (s : State) (k : BitVec 16) (se h : Bool) : Word :=
  match h, se with
  | false, false => k.setWidth 32
  | false, true => k.signExtend 32
  | true, false => k ++ 0#16
  | true, true => Config.freeWord s.tick .imm

/-- `immM(k, H, SE, M)`, 30_encoding.md R185. -/
def immM (s : State) (k : BitVec 16) (m se h : Bool) : Word :=
  if m then
    match h, se with
    | false, _ => 0xFFFF#16 ++ k
    | true, false => k ++ 0xFFFF#16
    | true, true => Config.freeWord s.tick .imm
  else imm16 s k se h

/-- `D(du)`. -/
def dataUnit (du : Bool) : BUnit := if du then .d1 else .d0

/-- `A(au)`. -/
def addrUnit (au : Bool) : BUnit := if au then .a1 else .a0

/-- `bu(x)`, 30_encoding.md R172. -/
def baseUnit (c : BitVec 2) : BUnit :=
  match c.toNat with
  | 0 => .a1
  | 1 => .d0
  | 2 => .d1
  | _ => .a0

/-- The source unit of operand 2 replace, 30_encoding.md R178: none is RD. -/
def o2rUnit (u : BUnit) (sel : BitVec 2) : Option BUnit :=
  match sel.toNat, u with
  | 0, .a1 => some .d1
  | 0, _ => some .a1
  | 1, .d0 => some .d1
  | 1, _ => some .d0
  | 2, _ => none
  | _, .a0 => some .d1
  | _, _ => some .a0

/-- `O2R(u, f)`, 30_encoding.md R176 to R179. -/
def readO2R (s : State) (u : BUnit) (sel : BitVec 2) (n : BitVec 3) (slot : Nat) : Res Word :=
  match o2rUnit u sel with
  | some v => .ok (readReg s v (n.setWidth 5) slot) s
  | none => (rdPop s).bind fun e s1 => .ok (lowWord e) s1

/-- `asrc(AU, slot)`, 42_extended_gp_a.md R320 (h). -/
def asrc (s : State) (u : BUnit) (pcBit : Bool) (n : BitVec 4) (slot : Nat) : Word :=
  if pcBit then s.th.pc else readReg s u (n.setWidth 5) slot

/-- A signed offset field scaled by the size of the access, 30_encoding.md R190. -/
def scaled {n : Nat} (k : BitVec n) (sz : Size) : Word := k.signExtend 32 * BitVec.ofNat 32 (Size.bytes sz)

/-- An address expression with its registers read (20_memory.md R110): the base register, its value, the offset, and
whether the base is updated, and after the access (30_encoding.md R194). -/
structure AddrExpr where
  unit : BUnit
  reg : BitVec 5
  base : Word
  offset : Word
  update : Bool
  post : Bool
  deriving DecidableEq, Repr

/-- A register offset, 20_memory.md R111, R112, from the unit of the base: operands `slot` and `slot + 1`. -/
def exprAt (s : State) (slot : Nat) (bu : BitVec 2) (rb ro : BitVec 5) (ua pp : Bool) : AddrExpr :=
  let u := baseUnit bu
  { unit := u, reg := rb, base := readReg s u rb slot, offset := readReg s u ro (slot + 1), update := ua, post := pp }

/-- The register offset of an instruction with one address, 20_memory.md R111, R112. -/
def exprR (s : State) (bu : BitVec 2) (rb ro : BitVec 5) (ua pp : Bool) : AddrExpr := exprAt s 2 bu rb ro ua pp

/-- An immediate offset, 20_memory.md R113, R114. -/
def exprI (s : State) (u : BUnit) (rb : BitVec 5) (o : Word) (ua pp : Bool) : AddrExpr :=
  { unit := u, reg := rb, base := readReg s u rb 2, offset := o, update := ua, post := pp }

/-- `BUAddr`: the address (20_memory.md R110 to R114). -/
def exprAddr (e : AddrExpr) : Word := if e.update && e.post then e.base else e.base + e.offset

/-- `BUAddr`: the update of the base register (20_memory.md R110 to R114). -/
def exprUpdate (e : AddrExpr) (s : State) : State := if e.update then writeReg s e.unit e.reg (e.base + e.offset) else s

/-- The bits set in a mask of seven, from bit `i` on, as the numbers after a first register (30_encoding.md R192). -/
def maskFrom (mask : BitVec 7) (first : Nat) : Nat → List Nat
  | 0 => []
  | k + 1 => maskFrom mask first k ++ (if mask.getLsbD k then [first + k + 1] else [])

/-- The register numbers of a list in ascending order, 30_encoding.md R192, 40_core_gp_a.md R257. -/
def regList (first : BitVec 5) (mask : BitVec 7) : List Nat := first.toNat :: maskFrom mask first.toNat 7

/-- A register number that a list may hold, 40_core_gp_a.md R255. -/
def listable (u : BUnit) (n : Nat) : Bool := if u.isData then decide (n < 16) else decide (n < 8)

/-- The 4-bit code of a unit, 30_encoding.md R171. -/
def BUnit.code : BUnit → BitVec 4
  | .d0 => 1#4
  | .d1 => 2#4
  | .a0 => 3#4
  | .a1 => 4#4

/-- An unspecified write of the register that a unit code names (92_eei_decisions.md D6): it is left with an unspecified
value; a read address port may issue an unspecified address, or none (entry 39). DESIGN CHOICE (entry 67): in the other
units it is a write like any other but for its value, with the record, the control register event or the flags that a
write of that register brings. -/
def writeFree (s : State) (u : BitVec 4) (n : BitVec 5) (slot : Nat) : Res Unit :=
  if u = 6#4 && Config.freeBit s.tick (.dest slot) then .ok () s
  else writeUnit s u n (Config.freeWord s.tick (.dest slot))

end Sys2Proof.Machine
end

