-- ==== Sys2Proof/Syntax.lean ====
section
/-! DEFINITION. The instructions: one constructor for each row of spec/opcode_table.json, in the order of the table, with
the fields the row names. A field keeps the bits of the encoding; what they select is said in Machine/Operands.lean. -/

namespace Sys2Proof

/-- The instructions of the GP set in their 32-bit encoding. -/
inductive Instr where
  -- Data unit arithmetic and logic
  /-- ADD_S__De.r_Dx.r_De.r, 40_core_gp_a.md R243. -/
  | addRR (sf : Bool) (du : Bool) (rd : BitVec 5) (rs1 : BitVec 5) (rs2 : BitVec 5)
  /-- ADD_S__De.r_Dx.r_Rx.r, 42_extended_gp_a.md R326. -/
  | addRX (sf : Bool) (du : Bool) (rd : BitVec 5) (rs1 : BitVec 5) (osel : BitVec 2) (oreg : BitVec 3)
  /-- MOV_S__De.r_Dx.r, 40_core_gp_a.md R260. -/
  | movRR (sf : Bool) (du : Bool) (rd : BitVec 5) (rs2 : BitVec 5)
  /-- MOV_S__De.r_Rx.r, 42_extended_gp_a.md R346. -/
  | movRX (sf : Bool) (du : Bool) (rd : BitVec 5) (osel : BitVec 2) (oreg : BitVec 3)
  /-- ADD_S__T__De.e_De.e__I16, 40_core_gp_a.md R244. -/
  | addI16 (sf : Bool) (du : Bool) (rd : BitVec 5) (imm : BitVec 16) (se : Bool) (h : Bool)
  /-- MOV_S__T__De.r__I16, 40_core_gp_a.md R262. -/
  | movI16 (sf : Bool) (du : Bool) (rd : BitVec 5) (imm : BitVec 16) (se : Bool) (h : Bool)
  /-- ADD_S_cc_Ux.r_Dx.r_De.r, 42_extended_gp_a.md R327. -/
  | addCR (sf : Bool) (du : Bool) (rd : BitVec 5) (rs1 : BitVec 5) (rs2 : BitVec 5) (ud : BitVec 4) (cc : BitVec 4)
  /-- ADD_S_cc_Ux.r_Dx.r_Rx.r, 42_extended_gp_a.md R328. -/
  | addCX (sf : Bool) (du : Bool) (rd : BitVec 5) (rs1 : BitVec 5) (osel : BitVec 2) (oreg : BitVec 3) (ud : BitVec 4) (cc : BitVec 4)
  /-- ADD_S__Ux.r_Dx.r__X8, 42_extended_gp_a.md R329. -/
  | addUX8 (sf : Bool) (du : Bool) (rd : BitVec 5) (rs : BitVec 5) (imm : BitVec 8) (ud : BitVec 4)
  /-- ADD_S_cc_De.r_Dx.r__X8, 42_extended_gp_a.md R330. -/
  | addCX8 (sf : Bool) (du : Bool) (rd : BitVec 5) (rs : BitVec 5) (imm : BitVec 8) (cc : BitVec 4)
  /-- SUB_S__De.r_Dx.r_De.r, 41_core_gp_b.md R294. -/
  | subRR (sf : Bool) (du : Bool) (rd : BitVec 5) (rs1 : BitVec 5) (rs2 : BitVec 5)
  /-- SUB_S__De.r_Dx.r_Rx.r, 43_extended_gp_b.md R391. -/
  | subRX (sf : Bool) (du : Bool) (rd : BitVec 5) (rs1 : BitVec 5) (osel : BitVec 2) (oreg : BitVec 3)
  /-- NEG_S__De.r_Dx.r, 41_core_gp_b.md R285. -/
  | negRR (sf : Bool) (du : Bool) (rd : BitVec 5) (rs2 : BitVec 5)
  /-- NEG_S__De.r_Rx.r, 43_extended_gp_b.md R378. -/
  | negRX (sf : Bool) (du : Bool) (rd : BitVec 5) (osel : BitVec 2) (oreg : BitVec 3)
  /-- SUB_S__T__De.e_De.e__I16, 41_core_gp_b.md R296. -/
  | subI16 (sf : Bool) (du : Bool) (rd : BitVec 5) (imm : BitVec 16) (se : Bool) (h : Bool)
  /-- NEG_S__T__De.r__I16, 41_core_gp_b.md R286. -/
  | negI16 (sf : Bool) (du : Bool) (rd : BitVec 5) (imm : BitVec 16) (se : Bool) (h : Bool)
  /-- SUB_S_cc_Ux.r_Dx.r_De.r, 43_extended_gp_b.md R392. -/
  | subCR (sf : Bool) (du : Bool) (rd : BitVec 5) (rs1 : BitVec 5) (rs2 : BitVec 5) (ud : BitVec 4) (cc : BitVec 4)
  /-- SUB_S_cc_Ux.r_Dx.r_Rx.r, 43_extended_gp_b.md R393. -/
  | subCX (sf : Bool) (du : Bool) (rd : BitVec 5) (rs1 : BitVec 5) (osel : BitVec 2) (oreg : BitVec 3) (ud : BitVec 4) (cc : BitVec 4)
  /-- SUB_S__Ux.r_Dx.r__X8, 43_extended_gp_b.md R394. -/
  | subUX8 (sf : Bool) (du : Bool) (rd : BitVec 5) (rs : BitVec 5) (imm : BitVec 8) (ud : BitVec 4)
  /-- SUB_S_cc_De.r_Dx.r__X8, 43_extended_gp_b.md R395. -/
  | subCX8 (sf : Bool) (du : Bool) (rd : BitVec 5) (rs : BitVec 5) (imm : BitVec 8) (cc : BitVec 4)
  /-- AND_S__De.r_Dx.r_De.r, 40_core_gp_a.md R245. -/
  | andRR (sf : Bool) (du : Bool) (rd : BitVec 5) (rs1 : BitVec 5) (rs2 : BitVec 5)
  /-- AND_S__De.r_Dx.r_Rx.r, 42_extended_gp_a.md R331. -/
  | andRX (sf : Bool) (du : Bool) (rd : BitVec 5) (rs1 : BitVec 5) (osel : BitVec 2) (oreg : BitVec 3)
  /-- AND_S__M__T__De.e_De.e__I16, 40_core_gp_a.md R246. -/
  | andI16 (sf : Bool) (du : Bool) (rd : BitVec 5) (imm : BitVec 16) (m : Bool) (se : Bool) (h : Bool)
  /-- AND_S_cc_Ux.r_Dx.r_De.r, 42_extended_gp_a.md R332. -/
  | andCR (sf : Bool) (du : Bool) (rd : BitVec 5) (rs1 : BitVec 5) (rs2 : BitVec 5) (ud : BitVec 4) (cc : BitVec 4)
  /-- AND_S_cc_Ux.r_Dx.r_Rx.r, 42_extended_gp_a.md R333. -/
  | andCX (sf : Bool) (du : Bool) (rd : BitVec 5) (rs1 : BitVec 5) (osel : BitVec 2) (oreg : BitVec 3) (ud : BitVec 4) (cc : BitVec 4)
  /-- AND_S__Ux.r_Dx.r__X8, 42_extended_gp_a.md R334. -/
  | andUX8 (sf : Bool) (du : Bool) (rd : BitVec 5) (rs : BitVec 5) (imm : BitVec 8) (ud : BitVec 4)
  /-- AND_S_cc_De.r_Dx.r__X8, 42_extended_gp_a.md R335. -/
  | andCX8 (sf : Bool) (du : Bool) (rd : BitVec 5) (rs : BitVec 5) (imm : BitVec 8) (cc : BitVec 4)
  /-- OR_S__De.r_Dx.r_De.r, 41_core_gp_b.md R288. -/
  | orRR (sf : Bool) (du : Bool) (rd : BitVec 5) (rs1 : BitVec 5) (rs2 : BitVec 5)
  /-- OR_S__De.r_Dx.r_Rx.r, 43_extended_gp_b.md R379. -/
  | orRX (sf : Bool) (du : Bool) (rd : BitVec 5) (rs1 : BitVec 5) (osel : BitVec 2) (oreg : BitVec 3)
  /-- OR_S__M__T__De.e_De.e__I16, 41_core_gp_b.md R289. -/
  | orI16 (sf : Bool) (du : Bool) (rd : BitVec 5) (imm : BitVec 16) (m : Bool) (se : Bool) (h : Bool)
  /-- OR_S_cc_Ux.r_Dx.r_De.r, 43_extended_gp_b.md R380. -/
  | orCR (sf : Bool) (du : Bool) (rd : BitVec 5) (rs1 : BitVec 5) (rs2 : BitVec 5) (ud : BitVec 4) (cc : BitVec 4)
  /-- OR_S_cc_Ux.r_Dx.r_Rx.r, 43_extended_gp_b.md R381. -/
  | orCX (sf : Bool) (du : Bool) (rd : BitVec 5) (rs1 : BitVec 5) (osel : BitVec 2) (oreg : BitVec 3) (ud : BitVec 4) (cc : BitVec 4)
  /-- OR_S__Ux.r_Dx.r__X8, 43_extended_gp_b.md R382. -/
  | orUX8 (sf : Bool) (du : Bool) (rd : BitVec 5) (rs : BitVec 5) (imm : BitVec 8) (ud : BitVec 4)
  /-- OR_S_cc_De.r_Dx.r__X8, 43_extended_gp_b.md R383. -/
  | orCX8 (sf : Bool) (du : Bool) (rd : BitVec 5) (rs : BitVec 5) (imm : BitVec 8) (cc : BitVec 4)
  /-- XOR_S__De.r_Dx.r_De.r, 41_core_gp_b.md R302. -/
  | xorRR (sf : Bool) (du : Bool) (rd : BitVec 5) (rs1 : BitVec 5) (rs2 : BitVec 5)
  /-- XOR_S__De.r_Dx.r_Rx.r, 43_extended_gp_b.md R399. -/
  | xorRX (sf : Bool) (du : Bool) (rd : BitVec 5) (rs1 : BitVec 5) (osel : BitVec 2) (oreg : BitVec 3)
  /-- XOR_S__M__T__De.e_De.e__I16, 41_core_gp_b.md R303. -/
  | xorI16 (sf : Bool) (du : Bool) (rd : BitVec 5) (imm : BitVec 16) (m : Bool) (se : Bool) (h : Bool)
  /-- XOR_S_cc_Ux.r_Dx.r_De.r, 43_extended_gp_b.md R400. -/
  | xorCR (sf : Bool) (du : Bool) (rd : BitVec 5) (rs1 : BitVec 5) (rs2 : BitVec 5) (ud : BitVec 4) (cc : BitVec 4)
  /-- XOR_S_cc_Ux.r_Dx.r_Rx.r, 43_extended_gp_b.md R401. -/
  | xorCX (sf : Bool) (du : Bool) (rd : BitVec 5) (rs1 : BitVec 5) (osel : BitVec 2) (oreg : BitVec 3) (ud : BitVec 4) (cc : BitVec 4)
  /-- XOR_S__Ux.r_Dx.r__X8, 43_extended_gp_b.md R402. -/
  | xorUX8 (sf : Bool) (du : Bool) (rd : BitVec 5) (rs : BitVec 5) (imm : BitVec 8) (ud : BitVec 4)
  /-- XOR_S_cc_De.r_Dx.r__X8, 43_extended_gp_b.md R403. -/
  | xorCX8 (sf : Bool) (du : Bool) (rd : BitVec 5) (rs : BitVec 5) (imm : BitVec 8) (cc : BitVec 4)
  -- Address unit arithmetic
  /-- ADD_Ae.r_Ax.r_Ae.r, 40_core_gp_a.md R241. -/
  | addARR (au : Bool) (rd : BitVec 4) (pc1 : Bool) (rs1 : BitVec 4) (pc2 : Bool) (rs2 : BitVec 4)
  /-- ADD_Ae.r_Ax.r_Rx.r, 42_extended_gp_a.md R321. -/
  | addARX (au : Bool) (rd : BitVec 4) (pc1 : Bool) (rs1 : BitVec 4) (osel : BitVec 2) (oreg : BitVec 3)
  /-- MOV_Ae.r_Ax.r, 40_core_gp_a.md R258. -/
  | movARR (au : Bool) (rd : BitVec 4) (pc2 : Bool) (rs2 : BitVec 4)
  /-- MOV_Ae.r_Rx.r, 42_extended_gp_a.md R345. -/
  | movARX (au : Bool) (rd : BitVec 4) (osel : BitVec 2) (oreg : BitVec 3)
  /-- ADD_T__Ae.e_Ax.e__I16, 40_core_gp_a.md R242. -/
  | addAI16 (au : Bool) (pcb : Bool) (rd : BitVec 4) (imm : BitVec 16) (se : Bool) (h : Bool)
  /-- MOV_T__Ae.r__I16, 40_core_gp_a.md R259. -/
  | movAI16 (au : Bool) (pcb : Bool) (rd : BitVec 4) (imm : BitVec 16) (se : Bool) (h : Bool)
  /-- ADDcc_Ux.r_Ax.r_Ae.r, 42_extended_gp_a.md R322. -/
  | addACR (au : Bool) (rd : BitVec 5) (pc1 : Bool) (rs1 : BitVec 4) (pc2 : Bool) (rs2 : BitVec 4) (ud : BitVec 4) (cc : BitVec 4)
  /-- ADDcc_Ux.r_Ax.r_Rx.r, 42_extended_gp_a.md R323. -/
  | addACX (au : Bool) (rd : BitVec 5) (pc1 : Bool) (rs1 : BitVec 4) (osel : BitVec 2) (oreg : BitVec 3) (ud : BitVec 4) (cc : BitVec 4)
  /-- ADD_Ux.r_Ax.r__X8, 42_extended_gp_a.md R324. -/
  | addAUX8 (au : Bool) (rd : BitVec 5) (pc1 : Bool) (rs : BitVec 4) (imm : BitVec 8) (ud : BitVec 4)
  /-- ADDcc_Ae.r_Ax.r__X8, 42_extended_gp_a.md R325. -/
  | addACX8 (au : Bool) (rd : BitVec 5) (pc1 : Bool) (rs : BitVec 4) (imm : BitVec 8) (cc : BitVec 4)
  /-- SUB_Ae.r_Ax.r_Ae.r, 41_core_gp_b.md R292. -/
  | subARR (au : Bool) (rd : BitVec 4) (pc1 : Bool) (rs1 : BitVec 4) (pc2 : Bool) (rs2 : BitVec 4)
  /-- SUB_Ae.r_Ax.r_Rx.r, 43_extended_gp_b.md R386. -/
  | subARX (au : Bool) (rd : BitVec 4) (pc1 : Bool) (rs1 : BitVec 4) (osel : BitVec 2) (oreg : BitVec 3)
  /-- NEG_Ae.r_Ax.r, 41_core_gp_b.md R283. -/
  | negARR (au : Bool) (rd : BitVec 4) (pc2 : Bool) (rs2 : BitVec 4)
  /-- NEG_Ae.r_Rx.r, 43_extended_gp_b.md R377. -/
  | negARX (au : Bool) (rd : BitVec 4) (osel : BitVec 2) (oreg : BitVec 3)
  /-- SUB_T__Ae.e_Ax.e__I16, 41_core_gp_b.md R293. -/
  | subAI16 (au : Bool) (pcb : Bool) (rd : BitVec 4) (imm : BitVec 16) (se : Bool) (h : Bool)
  /-- NEG_T__Ae.r__I16, 41_core_gp_b.md R284. -/
  | negAI16 (au : Bool) (pcb : Bool) (rd : BitVec 4) (imm : BitVec 16) (se : Bool) (h : Bool)
  /-- SUBcc_Ux.r_Ax.r_Ae.r, 43_extended_gp_b.md R387. -/
  | subACR (au : Bool) (rd : BitVec 5) (pc1 : Bool) (rs1 : BitVec 4) (pc2 : Bool) (rs2 : BitVec 4) (ud : BitVec 4) (cc : BitVec 4)
  /-- SUBcc_Ux.r_Ax.r_Rx.r, 43_extended_gp_b.md R388. -/
  | subACX (au : Bool) (rd : BitVec 5) (pc1 : Bool) (rs1 : BitVec 4) (osel : BitVec 2) (oreg : BitVec 3) (ud : BitVec 4) (cc : BitVec 4)
  /-- SUB_Ux.r_Ax.r__X8, 43_extended_gp_b.md R389. -/
  | subAUX8 (au : Bool) (rd : BitVec 5) (pc1 : Bool) (rs : BitVec 4) (imm : BitVec 8) (ud : BitVec 4)
  /-- SUBcc_Ae.r_Ax.r__X8, 43_extended_gp_b.md R390. -/
  | subACX8 (au : Bool) (rd : BitVec 5) (pc1 : Bool) (rs : BitVec 4) (imm : BitVec 8) (cc : BitVec 4)
  -- Shifts
  /-- LSL_S__De.r_Dx.r_De.r, 45_shift.md R442. -/
  | lslRR (sf : Bool) (du : Bool) (rd : BitVec 5) (rs1 : BitVec 5) (rs2 : BitVec 5)
  /-- LSL_S__De.r_Dx.r__X5, 45_shift.md R442. -/
  | lslI5 (sf : Bool) (du : Bool) (rd : BitVec 5) (rs1 : BitVec 5) (imm : BitVec 5)
  /-- LSL_S__Ux.r_Dx.r_De.r, 45_shift.md R443. -/
  | lslUR (sf : Bool) (du : Bool) (rd : BitVec 5) (rs1 : BitVec 5) (rs2 : BitVec 5) (ud : BitVec 4)
  /-- LSL_S__Ux.r_Dx.r__X5, 45_shift.md R443. -/
  | lslUI5 (sf : Bool) (du : Bool) (rd : BitVec 5) (rs1 : BitVec 5) (imm : BitVec 5) (ud : BitVec 4)
  /-- LSL_S_cc_De.r_Dx.r_De.r, 45_shift.md R444. -/
  | lslCR (sf : Bool) (du : Bool) (rd : BitVec 5) (rs1 : BitVec 5) (rs2 : BitVec 5) (cc : BitVec 4)
  /-- LSL_S_cc_De.r_Dx.r__X5, 45_shift.md R444. -/
  | lslCI5 (sf : Bool) (du : Bool) (rd : BitVec 5) (rs1 : BitVec 5) (imm : BitVec 5) (cc : BitVec 4)
  /-- LSR_S__De.r_Dx.r_De.r, 45_shift.md R442. -/
  | lsrRR (sf : Bool) (du : Bool) (rd : BitVec 5) (rs1 : BitVec 5) (rs2 : BitVec 5)
  /-- LSR_S__De.r_Dx.r__X5, 45_shift.md R442. -/
  | lsrI5 (sf : Bool) (du : Bool) (rd : BitVec 5) (rs1 : BitVec 5) (imm : BitVec 5)
  /-- LSR_S__Ux.r_Dx.r_De.r, 45_shift.md R443. -/
  | lsrUR (sf : Bool) (du : Bool) (rd : BitVec 5) (rs1 : BitVec 5) (rs2 : BitVec 5) (ud : BitVec 4)
  /-- LSR_S__Ux.r_Dx.r__X5, 45_shift.md R443. -/
  | lsrUI5 (sf : Bool) (du : Bool) (rd : BitVec 5) (rs1 : BitVec 5) (imm : BitVec 5) (ud : BitVec 4)
  /-- LSR_S_cc_De.r_Dx.r_De.r, 45_shift.md R444. -/
  | lsrCR (sf : Bool) (du : Bool) (rd : BitVec 5) (rs1 : BitVec 5) (rs2 : BitVec 5) (cc : BitVec 4)
  /-- LSR_S_cc_De.r_Dx.r__X5, 45_shift.md R444. -/
  | lsrCI5 (sf : Bool) (du : Bool) (rd : BitVec 5) (rs1 : BitVec 5) (imm : BitVec 5) (cc : BitVec 4)
  /-- ASL_S__De.r_Dx.r_De.r, 45_shift.md R442. -/
  | aslRR (sf : Bool) (du : Bool) (rd : BitVec 5) (rs1 : BitVec 5) (rs2 : BitVec 5)
  /-- ASL_S__De.r_Dx.r__X5, 45_shift.md R442. -/
  | aslI5 (sf : Bool) (du : Bool) (rd : BitVec 5) (rs1 : BitVec 5) (imm : BitVec 5)
  /-- ASL_S__Ux.r_Dx.r_De.r, 45_shift.md R443. -/
  | aslUR (sf : Bool) (du : Bool) (rd : BitVec 5) (rs1 : BitVec 5) (rs2 : BitVec 5) (ud : BitVec 4)
  /-- ASL_S__Ux.r_Dx.r__X5, 45_shift.md R443. -/
  | aslUI5 (sf : Bool) (du : Bool) (rd : BitVec 5) (rs1 : BitVec 5) (imm : BitVec 5) (ud : BitVec 4)
  /-- ASL_S_cc_De.r_Dx.r_De.r, 45_shift.md R444. -/
  | aslCR (sf : Bool) (du : Bool) (rd : BitVec 5) (rs1 : BitVec 5) (rs2 : BitVec 5) (cc : BitVec 4)
  /-- ASL_S_cc_De.r_Dx.r__X5, 45_shift.md R444. -/
  | aslCI5 (sf : Bool) (du : Bool) (rd : BitVec 5) (rs1 : BitVec 5) (imm : BitVec 5) (cc : BitVec 4)
  /-- ASR_S__De.r_Dx.r_De.r, 45_shift.md R442. -/
  | asrRR (sf : Bool) (du : Bool) (rd : BitVec 5) (rs1 : BitVec 5) (rs2 : BitVec 5)
  /-- ASR_S__De.r_Dx.r__X5, 45_shift.md R442. -/
  | asrI5 (sf : Bool) (du : Bool) (rd : BitVec 5) (rs1 : BitVec 5) (imm : BitVec 5)
  /-- ASR_S__Ux.r_Dx.r_De.r, 45_shift.md R443. -/
  | asrUR (sf : Bool) (du : Bool) (rd : BitVec 5) (rs1 : BitVec 5) (rs2 : BitVec 5) (ud : BitVec 4)
  /-- ASR_S__Ux.r_Dx.r__X5, 45_shift.md R443. -/
  | asrUI5 (sf : Bool) (du : Bool) (rd : BitVec 5) (rs1 : BitVec 5) (imm : BitVec 5) (ud : BitVec 4)
  /-- ASR_S_cc_De.r_Dx.r_De.r, 45_shift.md R444. -/
  | asrCR (sf : Bool) (du : Bool) (rd : BitVec 5) (rs1 : BitVec 5) (rs2 : BitVec 5) (cc : BitVec 4)
  /-- ASR_S_cc_De.r_Dx.r__X5, 45_shift.md R444. -/
  | asrCI5 (sf : Bool) (du : Bool) (rd : BitVec 5) (rs1 : BitVec 5) (imm : BitVec 5) (cc : BitVec 4)
  -- Multiplies
  /-- MULW_De.r_Dx.r_De.r, 41_core_gp_b.md R281. -/
  | mulwRR (du : Bool) (rd : BitVec 5) (rs1 : BitVec 5) (rs2 : BitVec 5)
  /-- MULW_De.r_Dx.r_Rx.r, 43_extended_gp_b.md R370. -/
  | mulwRX (du : Bool) (rd : BitVec 5) (rs1 : BitVec 5) (osel : BitVec 2) (oreg : BitVec 3)
  /-- MULW_T__De.e_De.e__I16, 41_core_gp_b.md R282. -/
  | mulwI16 (du : Bool) (rd : BitVec 5) (imm : BitVec 16) (se : Bool) (h : Bool)
  /-- MULW_BBx.r_Dx.r_De.r, 43_extended_gp_b.md R371. -/
  | mulwUR (du : Bool) (rd : BitVec 5) (rs1 : BitVec 5) (rs2 : BitVec 5) (ud : BitVec 4)
  /-- MULW_BBx.r_Dx.r_Rx.r, 43_extended_gp_b.md R372. -/
  | mulwUX (du : Bool) (rd : BitVec 5) (rs1 : BitVec 5) (osel : BitVec 2) (oreg : BitVec 3) (ud : BitVec 4)
  /-- MULW_BBx.r_Dx.r__X8, 43_extended_gp_b.md R373. -/
  | mulwUX8 (du : Bool) (rd : BitVec 5) (rs : BitVec 5) (imm : BitVec 8) (ud : BitVec 4)
  /-- MULWcc_De.r_Dx.r_De.r, 43_extended_gp_b.md R374. -/
  | mulwCR (du : Bool) (rd : BitVec 5) (rs1 : BitVec 5) (rs2 : BitVec 5) (cc : BitVec 4)
  /-- MULWcc_De.r_Dx.r_Rx.r, 43_extended_gp_b.md R375. -/
  | mulwCX (du : Bool) (rd : BitVec 5) (rs1 : BitVec 5) (osel : BitVec 2) (oreg : BitVec 3) (cc : BitVec 4)
  /-- MULWcc_De.r_Dx.r__X8, 43_extended_gp_b.md R376. -/
  | mulwCX8 (du : Bool) (rd : BitVec 5) (rs : BitVec 5) (imm : BitVec 8) (cc : BitVec 4)
  /-- MULD_De.r_Dx.r_De.r, 41_core_gp_b.md R281. -/
  | muldRR (du : Bool) (rd : BitVec 5) (rs1 : BitVec 5) (rs2 : BitVec 5)
  /-- MULD_De.r_Dx.r_Rx.r, 43_extended_gp_b.md R370. -/
  | muldRX (du : Bool) (rd : BitVec 5) (rs1 : BitVec 5) (osel : BitVec 2) (oreg : BitVec 3)
  /-- MULD_T__De.e_De.e__I16, 41_core_gp_b.md R282. -/
  | muldI16 (du : Bool) (rd : BitVec 5) (imm : BitVec 16) (se : Bool) (h : Bool)
  /-- MULD_BBx.r_Dx.r_De.r, 43_extended_gp_b.md R371. -/
  | muldUR (du : Bool) (rd : BitVec 5) (rs1 : BitVec 5) (rs2 : BitVec 5) (ud : BitVec 4)
  /-- MULD_BBx.r_Dx.r_Rx.r, 43_extended_gp_b.md R372. -/
  | muldUX (du : Bool) (rd : BitVec 5) (rs1 : BitVec 5) (osel : BitVec 2) (oreg : BitVec 3) (ud : BitVec 4)
  /-- MULD_BBx.r_Dx.r__X8, 43_extended_gp_b.md R373. -/
  | muldUX8 (du : Bool) (rd : BitVec 5) (rs : BitVec 5) (imm : BitVec 8) (ud : BitVec 4)
  /-- MULDcc_De.r_Dx.r_De.r, 43_extended_gp_b.md R374. -/
  | muldCR (du : Bool) (rd : BitVec 5) (rs1 : BitVec 5) (rs2 : BitVec 5) (cc : BitVec 4)
  /-- MULDcc_De.r_Dx.r_Rx.r, 43_extended_gp_b.md R375. -/
  | muldCX (du : Bool) (rd : BitVec 5) (rs1 : BitVec 5) (osel : BitVec 2) (oreg : BitVec 3) (cc : BitVec 4)
  /-- MULDcc_De.r_Dx.r__X8, 43_extended_gp_b.md R376. -/
  | muldCX8 (du : Bool) (rd : BitVec 5) (rs : BitVec 5) (imm : BitVec 8) (cc : BitVec 4)
  -- Data unit extended
  /-- ABS_De.r_Dx.r, 44_data_unit_extended.md R421. -/
  | absRR (du : Bool) (rd : BitVec 5) (rs : BitVec 5)
  /-- FFB_De.r_Dx.r, 44_data_unit_extended.md R422. -/
  | ffbRR (du : Bool) (rd : BitVec 5) (rs : BitVec 5)
  /-- MAX_De.r_Dx.r_De.r, 44_data_unit_extended.md R423. -/
  | maxRR (du : Bool) (rd : BitVec 5) (rs1 : BitVec 5) (rs2 : BitVec 5)
  /-- MIN_De.r_Dx.r_De.r, 44_data_unit_extended.md R424. -/
  | minRR (du : Bool) (rd : BitVec 5) (rs1 : BitVec 5) (rs2 : BitVec 5)
  /-- MORT_De.r_Dx.r_De.r, 44_data_unit_extended.md R425. -/
  | mortRR (du : Bool) (rd : BitVec 5) (rs1 : BitVec 5) (rs2 : BitVec 5)
  /-- MORT_De.r_Dx.r_Rx.r, 44_data_unit_extended.md R426. -/
  | mortRX (du : Bool) (rd : BitVec 5) (rs1 : BitVec 5) (osel : BitVec 2) (oreg : BitVec 3)
  /-- NMIN_De.r_Dx.r_De.r, 44_data_unit_extended.md R427. -/
  | nminRR (du : Bool) (rd : BitVec 5) (rs1 : BitVec 5) (rs2 : BitVec 5)
  /-- NORM_De.r_Dx.r, 44_data_unit_extended.md R428. -/
  | normRR (du : Bool) (rd : BitVec 5) (rs : BitVec 5)
  /-- VPACK_De.r_Dx.r_De.r, 44_data_unit_extended.md R429. -/
  | vpackRR (du : Bool) (rd : BitVec 5) (rs1 : BitVec 5) (rs2 : BitVec 5)
  /-- VPACK_De.r_Dx.r_Rx.r, 44_data_unit_extended.md R430. -/
  | vpackRX (du : Bool) (rd : BitVec 5) (rs1 : BitVec 5) (osel : BitVec 2) (oreg : BitVec 3)
  -- Compare and test
  /-- CMP_Dx.r_De.r, 40_core_gp_a.md R250. -/
  | cmpRR (du : Bool) (rs1 : BitVec 5) (rs2 : BitVec 5)
  /-- CMP_Dx.r_Rx.r, 40_core_gp_a.md R254. -/
  | cmpRX (du : Bool) (rs1 : BitVec 5) (osel : BitVec 2) (oreg : BitVec 3)
  /-- CMP_M__T__Dx.r__I16, 40_core_gp_a.md R251. -/
  | cmpI16 (du : Bool) (rs : BitVec 5) (imm : BitVec 16) (m : Bool) (se : Bool) (h : Bool)
  /-- CMPcc_Dx.r_De.r, 42_extended_gp_a.md R336. -/
  | cmpCR (du : Bool) (rs1 : BitVec 5) (rs2 : BitVec 5) (cc : BitVec 4)
  /-- CMPcc_Dx.r_Rx.r, 42_extended_gp_a.md R337. -/
  | cmpCX (du : Bool) (rs1 : BitVec 5) (osel : BitVec 2) (oreg : BitVec 3) (cc : BitVec 4)
  /-- CMPcc_Dx.r__X8, 42_extended_gp_a.md R338. -/
  | cmpCX8 (du : Bool) (rs : BitVec 5) (imm : BitVec 8) (cc : BitVec 4)
  /-- TST_Dx.r_De.r, 41_core_gp_b.md R299. -/
  | tstRR (du : Bool) (rs1 : BitVec 5) (rs2 : BitVec 5)
  /-- TST_Dx.r_Rx.r, 41_core_gp_b.md R301. -/
  | tstRX (du : Bool) (rs1 : BitVec 5) (osel : BitVec 2) (oreg : BitVec 3)
  /-- TST_M__T__Dx.r__I16, 41_core_gp_b.md R300. -/
  | tstI16 (du : Bool) (rs : BitVec 5) (imm : BitVec 16) (m : Bool) (se : Bool) (h : Bool)
  /-- TSTcc_Dx.r_De.r, 43_extended_gp_b.md R396. -/
  | tstCR (du : Bool) (rs1 : BitVec 5) (rs2 : BitVec 5) (cc : BitVec 4)
  /-- TSTcc_Dx.r_Rx.r, 43_extended_gp_b.md R397. -/
  | tstCX (du : Bool) (rs1 : BitVec 5) (osel : BitVec 2) (oreg : BitVec 3) (cc : BitVec 4)
  /-- TSTcc_Dx.r__X8, 43_extended_gp_b.md R398. -/
  | tstCX8 (du : Bool) (rs : BitVec 5) (imm : BitVec 8) (cc : BitVec 4)
  -- Branches
  /-- NOP, 41_core_gp_b.md R287. -/
  | nop
  /-- B___BR__S19, 40_core_gp_a.md R247. -/
  | branch (off : BitVec 19) (rep : Bool)
  /-- Bcc___BccR__S19, 40_core_gp_a.md R248. -/
  | branchCc (off : BitVec 19) (cc : BitVec 4) (rep : Bool)
  -- Moves and coprocessor reads into registers
  /-- MOVBcc_Ux.r_RD, 47_long_gp_b.md R495. -/
  | movbRd (rd : BitVec 5) (ud : BitVec 4) (cc : BitVec 4)
  /-- MOVWcc_Ux.r_RD, 47_long_gp_b.md R495. -/
  | movwRd (rd : BitVec 5) (ud : BitVec 4) (cc : BitVec 4)
  /-- MOVDcc_Ux.r_RD, 47_long_gp_b.md R495. -/
  | movdRd (rd : BitVec 5) (ud : BitVec 4) (cc : BitVec 4)
  /-- CPRBcc_Ux.r_CP.n, 46_long_gp_a.md R455. -/
  | cprbUnit (rd : BitVec 5) (cp : BitVec 3) (ud : BitVec 4) (cc : BitVec 4)
  /-- CPRWcc_Ux.r_CP.n, 46_long_gp_a.md R455. -/
  | cprwUnit (rd : BitVec 5) (cp : BitVec 3) (ud : BitVec 4) (cc : BitVec 4)
  /-- CPRDcc_Ux.r_CP.n, 46_long_gp_a.md R455. -/
  | cprdUnit (rd : BitVec 5) (cp : BitVec 3) (ud : BitVec 4) (cc : BitVec 4)
  /-- MOVL_TTREC_Ux.r_Uy.r, 49_trace_ops.md R552. -/
  | movlTtrec (rs1 : BitVec 5) (rs2 : BitVec 5) (bu : BitVec 2) (cc : BitVec 4)
  /-- MOVLcc_Ux.r_Uy.r_RD, 47_long_gp_b.md R494. -/
  | movlRd (rd1 : BitVec 5) (rd2 : BitVec 5) (bu : BitVec 2) (cc : BitVec 4)
  /-- CPRLcc_Ux.r_Uy.r_CP.n, 46_long_gp_a.md R453. -/
  | cprlPair (rd1 : BitVec 5) (cp : BitVec 3) (rd2 : BitVec 5) (bu : BitVec 2) (cc : BitVec 4)
  -- Unit to unit
  /-- RTI, 41_core_gp_b.md R295. -/
  | rti
  /-- RTH, 41_core_gp_b.md R290. -/
  | rth
  /-- TTMOVcc_Ux.r_Uy.r, 49_trace_ops.md R551. -/
  | ttmov (rd : BitVec 5) (rs : BitVec 5) (us : BitVec 4) (ud : BitVec 4) (cc : BitVec 4)
  /-- KICKcc_Ux.r_Uy.r, 46_long_gp_a.md R466. -/
  | kick (rd : BitVec 5) (rs : BitVec 5) (ud : BitVec 4) (cc : BitVec 4)
  /-- DEFRcc_Ux.r_Uy.r, 46_long_gp_a.md R460. -/
  | defr (rd : BitVec 5) (rs : BitVec 5) (ud : BitVec 4) (cc : BitVec 4)
  /-- SWAP_Ux.r_Uy.r, 41_core_gp_b.md R297. -/
  | swap (rd : BitVec 5) (rs : BitVec 5) (us : BitVec 4) (ud : BitVec 4)
  /-- SWAPcc_Ux.r_Uy.r, 47_long_gp_b.md R502. -/
  | swapCc (rd : BitVec 5) (rs : BitVec 5) (us : BitVec 4) (ud : BitVec 4) (cc : BitVec 4)
  /-- MOV_Ux.r_Uy.r, 40_core_gp_a.md R261. -/
  | movUnit (rd : BitVec 5) (rs : BitVec 5) (us : BitVec 4) (ud : BitVec 4)
  /-- MOVcc_Ux.r_Uy.r, 47_long_gp_b.md R496. -/
  | movUnitCc (rd : BitVec 5) (rs : BitVec 5) (us : BitVec 4) (ud : BitVec 4) (cc : BitVec 4)
  -- Conditional stores
  /-- CPRBcc__BBx.r__CP.n, 46_long_gp_a.md R456. -/
  | cprbMemCc (cp : BitVec 5) (rb : BitVec 5) (bu : BitVec 2) (cc : BitVec 4)
  /-- CPRWcc__BBx.r__CP.n, 46_long_gp_a.md R456. -/
  | cprwMemCc (cp : BitVec 5) (rb : BitVec 5) (bu : BitVec 2) (cc : BitVec 4)
  /-- CPRDcc__BBx.r__CP.n, 46_long_gp_a.md R456. -/
  | cprdMemCc (cp : BitVec 5) (rb : BitVec 5) (bu : BitVec 2) (cc : BitVec 4)
  /-- CPRLcc__BBx.r__CP.n, 46_long_gp_a.md R456. -/
  | cprlMemCc (cp : BitVec 5) (rb : BitVec 5) (bu : BitVec 2) (cc : BitVec 4)
  /-- SETBcc__BBx.r__Ux.r, 47_long_gp_b.md R501. -/
  | setbCc (rs : BitVec 5) (rb : BitVec 5) (us : BitVec 4) (bu : BitVec 2) (cc : BitVec 4)
  /-- SETWcc__BBx.r__Ux.r, 47_long_gp_b.md R501. -/
  | setwCc (rs : BitVec 5) (rb : BitVec 5) (us : BitVec 4) (bu : BitVec 2) (cc : BitVec 4)
  /-- SETDcc__BBx.r__Ux.r, 47_long_gp_b.md R501. -/
  | setdCc (rs : BitVec 5) (rb : BitVec 5) (us : BitVec 4) (bu : BitVec 2) (cc : BitVec 4)
  /-- SETLcc__BBx.r__Ux.r_Uy.r, 47_long_gp_b.md R500. -/
  | setlCc (rs : BitVec 5) (rb : BitVec 5) (us : BitVec 4) (bu : BitVec 2) (cc : BitVec 4)
  /-- LNKSETBcc__BBx.r__Ux.r, 47_long_gp_b.md R491. -/
  | lnksetb (rs : BitVec 5) (rb : BitVec 5) (us : BitVec 4) (bu : BitVec 2) (cc : BitVec 4)
  /-- LNKSETWcc__BBx.r__Ux.r, 47_long_gp_b.md R491. -/
  | lnksetw (rs : BitVec 5) (rb : BitVec 5) (us : BitVec 4) (bu : BitVec 2) (cc : BitVec 4)
  /-- LNKSETDcc__BBx.r__Ux.r, 47_long_gp_b.md R491. -/
  | lnksetd (rs : BitVec 5) (rb : BitVec 5) (us : BitVec 4) (bu : BitVec 2) (cc : BitVec 4)
  /-- LNKSETLcc__BBx.r__Ux.r_Uy.r, 47_long_gp_b.md R490. -/
  | lnksetl (rs : BitVec 5) (rb : BitVec 5) (us : BitVec 4) (bu : BitVec 2) (cc : BitVec 4)
  -- Twelve-bit offsets
  /-- SETB__BBa.r+_S12__BBx.r, 47_long_gp_b.md R499. -/
  | setbS12 (rs : BitVec 5) (imm : BitVec 12) (bua : BitVec 2) (bus : BitVec 2) (rb : BitVec 1)
  /-- SETW__BBa.r+_S12__BBx.r, 47_long_gp_b.md R499. -/
  | setwS12 (rs : BitVec 5) (imm : BitVec 12) (bua : BitVec 2) (bus : BitVec 2) (rb : BitVec 1)
  /-- SETD__BBa.r+_S12__BBx.r, 47_long_gp_b.md R499. -/
  | setdS12 (rs : BitVec 5) (imm : BitVec 12) (bua : BitVec 2) (bus : BitVec 2) (rb : BitVec 1)
  /-- SETL__BBa.r+_S12__BBx.r_BBy.r, 47_long_gp_b.md R498. -/
  | setlS12 (rs : BitVec 5) (imm : BitVec 12) (bua : BitVec 2) (bus : BitVec 2) (rb : BitVec 1)
  /-- MOVB_RAxx__BBa.r+_S12, 47_long_gp_b.md R493. -/
  | movbRaS12 (port : BitVec 5) (imm : BitVec 12) (bua : BitVec 2) (rb : BitVec 1)
  /-- MOVW_RAxx__BBa.r+_S12, 47_long_gp_b.md R493. -/
  | movwRaS12 (port : BitVec 5) (imm : BitVec 12) (bua : BitVec 2) (rb : BitVec 1)
  /-- MOVD_RAxx__BBa.r+_S12, 47_long_gp_b.md R493. -/
  | movdRaS12 (port : BitVec 5) (imm : BitVec 12) (bua : BitVec 2) (rb : BitVec 1)
  /-- MOVL_RAxx__BBa.r+_S12, 47_long_gp_b.md R493. -/
  | movlRaS12 (port : BitVec 5) (imm : BitVec 12) (bua : BitVec 2) (rb : BitVec 1)
  /-- GETB_BBx.r__BBa.r+_S12, 46_long_gp_a.md R462. -/
  | getbS12 (rd : BitVec 5) (imm : BitVec 12) (bua : BitVec 2) (bud : BitVec 2) (rb : BitVec 1)
  /-- GETW_BBx.r__BBa.r+_S12, 46_long_gp_a.md R462. -/
  | getwS12 (rd : BitVec 5) (imm : BitVec 12) (bua : BitVec 2) (bud : BitVec 2) (rb : BitVec 1)
  /-- GETD_BBx.r__BBa.r+_S12, 46_long_gp_a.md R462. -/
  | getdS12 (rd : BitVec 5) (imm : BitVec 12) (bua : BitVec 2) (bud : BitVec 2) (rb : BitVec 1)
  /-- GETL_BBx.r_BBy.r__BBa.r+_S12, 46_long_gp_a.md R461. -/
  | getlS12 (rd : BitVec 5) (imm : BitVec 12) (bua : BitVec 2) (bud : BitVec 2) (rb : BitVec 1)
  -- Locks
  /-- LOCK0, 40_core_gp_a.md R253. -/
  | lock0
  /-- LOCK1, 40_core_gp_a.md R253. -/
  | lock1
  /-- LOCK2, 40_core_gp_a.md R253. -/
  | lock2
  -- Control and trace immediates
  /-- MOV_T__CT.r__I16, 47_long_gp_b.md R492. -/
  | movCt (rd : BitVec 5) (imm : BitVec 16) (se : Bool) (h : Bool)
  /-- MOV_T__TT.r__I16, 49_trace_ops.md R550. -/
  | movTt (rd : BitVec 5) (imm : BitVec 16) (se : Bool) (h : Bool)
  -- Sign extension and byte exchange
  /-- XSD_S_B_De.r_Dx.r, 47_long_gp_b.md R505. -/
  | xsdb (rd : BitVec 5) (rs : BitVec 5) (sf : Bool) (du : Bool)
  /-- XSD_S_W_De.r_Dx.r, 47_long_gp_b.md R506. -/
  | xsdw (rd : BitVec 5) (rs : BitVec 5) (sf : Bool) (du : Bool)
  /-- BEX_S_D_De.r_Dx.r, 46_long_gp_a.md R451. -/
  | bexd (rd : BitVec 5) (rs : BitVec 5) (sf : Bool) (du : Bool)
  /-- BEX_S_L_De.r_Dx.r, 46_long_gp_a.md R451. -/
  | bexl (rd : BitVec 5) (rs : BitVec 5) (sf : Bool) (du : Bool)
  /-- RTD_S_W_De.r_Dx.r, 47_long_gp_b.md R497. -/
  | rtdw (rd : BitVec 5) (rs : BitVec 5) (sf : Bool) (du : Bool)
  -- Calls and jumps
  /-- CALLR_BBx.r__S19, 40_core_gp_a.md R249. -/
  | callr (off : BitVec 19) (bu : BitVec 2) (rr : BitVec 3)
  /-- JUMP_BBx.r__X16, 46_long_gp_a.md R465. -/
  | jump (rs : BitVec 5) (imm : BitVec 16) (bu : BitVec 2)
  /-- CALL_BBx.r__X16, 46_long_gp_a.md R452. -/
  | call (rs : BitVec 5) (imm : BitVec 16) (bu : BitVec 2)
  -- Linked loads and cache operations
  /-- LNKGETB_BBx.r__BBa.r, 46_long_gp_a.md R468. -/
  | lnkgetb (rd : BitVec 5) (rb : BitVec 5) (bua : BitVec 2) (bur : BitVec 2)
  /-- LNKGETW_BBx.r__BBa.r, 46_long_gp_a.md R468. -/
  | lnkgetw (rd : BitVec 5) (rb : BitVec 5) (bua : BitVec 2) (bur : BitVec 2)
  /-- LNKGETD_BBx.r__BBa.r, 46_long_gp_a.md R468. -/
  | lnkgetd (rd : BitVec 5) (rb : BitVec 5) (bua : BitVec 2) (bur : BitVec 2)
  /-- LNKGETL_BBx.r_BBy.r__BBa.r, 46_long_gp_a.md R467. -/
  | lnkgetl (rd : BitVec 5) (rb : BitVec 5) (bua : BitVec 2) (bur : BitVec 2)
  /-- CACHERL_BBx.r_BBy.r__BBa.r+_S6, 48_cache_ops.md R532. -/
  | cacherl (rd : BitVec 5) (rb : BitVec 5) (imm : BitVec 6) (bua : BitVec 2) (bur : BitVec 2)
  /-- CACHERD_BBx.r__BBa.r+_S6, 48_cache_ops.md R533. -/
  | cacherd (rd : BitVec 5) (rb : BitVec 5) (imm : BitVec 6) (bua : BitVec 2) (bur : BitVec 2)
  /-- CACHEWL__BBa.r+_S6__BBx.r_BBy.r, 48_cache_ops.md R534. -/
  | cachewl (rs : BitVec 5) (rb : BitVec 5) (imm : BitVec 6) (bua : BitVec 2) (bur : BitVec 2)
  /-- CACHEWD__BBa.r+_S6__BBx.r, 48_cache_ops.md R535. -/
  | cachewd (rs : BitVec 5) (rb : BitVec 5) (imm : BitVec 6) (bua : BitVec 2) (bur : BitVec 2)
  /-- DCACHE__BBa.r+_S6__BBx.r, 48_cache_ops.md R538. -/
  | dcache (rs : BitVec 5) (rb : BitVec 5) (imm : BitVec 6) (bua : BitVec 2) (bur : BitVec 2)
  /-- ICACHEEXIT, 48_cache_ops.md R537. -/
  | icacheExit (pri : Bool)
  /-- ICACHE__S15__PFCount, 48_cache_ops.md R536. -/
  | icache (off : BitVec 15) (count : BitVec 4) (pri : Bool)
  -- Software trap
  /-- SWITCH__X24, 41_core_gp_b.md R298. -/
  | switch (value : BitVec 24)
  -- Coprocessor reads into memory and stores
  /-- CPRB__BBx.r+BBo.r__CP.n, 42_extended_gp_a.md R339. -/
  | cprbMemR (rb : BitVec 5) (ro : BitVec 5) (ua : Bool) (bu : BitVec 2) (pp : Bool) (cp : BitVec 5)
  /-- CPRB__BBx.r+_S6__CP.n, 42_extended_gp_a.md R339. -/
  | cprbMemI6 (rb : BitVec 5) (imm : BitVec 6) (ua : Bool) (bu : BitVec 2) (pp : Bool) (cp : BitVec 5)
  /-- CPRW__BBx.r+BBo.r__CP.n, 42_extended_gp_a.md R339. -/
  | cprwMemR (rb : BitVec 5) (ro : BitVec 5) (ua : Bool) (bu : BitVec 2) (pp : Bool) (cp : BitVec 5)
  /-- CPRW__BBx.r+_S6__CP.n, 42_extended_gp_a.md R339. -/
  | cprwMemI6 (rb : BitVec 5) (imm : BitVec 6) (ua : Bool) (bu : BitVec 2) (pp : Bool) (cp : BitVec 5)
  /-- CPRD__BBx.r+BBo.r__CP.n, 42_extended_gp_a.md R339. -/
  | cprdMemR (rb : BitVec 5) (ro : BitVec 5) (ua : Bool) (bu : BitVec 2) (pp : Bool) (cp : BitVec 5)
  /-- CPRD__BBx.r+_S6__CP.n, 42_extended_gp_a.md R339. -/
  | cprdMemI6 (rb : BitVec 5) (imm : BitVec 6) (ua : Bool) (bu : BitVec 2) (pp : Bool) (cp : BitVec 5)
  /-- CPRL__BBx.r+BBo.r__CP.n, 42_extended_gp_a.md R339. -/
  | cprlMemR (rb : BitVec 5) (ro : BitVec 5) (ua : Bool) (bu : BitVec 2) (pp : Bool) (cp : BitVec 5)
  /-- CPRL__BBx.r+_S6__CP.n, 42_extended_gp_a.md R339. -/
  | cprlMemI6 (rb : BitVec 5) (imm : BitVec 6) (ua : Bool) (bu : BitVec 2) (pp : Bool) (cp : BitVec 5)
  /-- SETD__A0.r+_S6__Ux.r__core_short_form, 41_core_gp_b.md R291. -/
  | setdShort (rs : BitVec 5) (rb : BitVec 5) (imm : BitVec 6) (ua : Bool) (us : BitVec 4) (pp : Bool)
  /-- SETB__BBx.r+BBo.r__Ux.r, 43_extended_gp_b.md R385. -/
  | setbR (rs : BitVec 5) (rb : BitVec 5) (ro : BitVec 5) (ua : Bool) (bu : BitVec 2) (us : BitVec 4) (pp : Bool)
  /-- SETB__BBx.r+_S6__Ux.r, 43_extended_gp_b.md R385. -/
  | setbI6 (rs : BitVec 5) (rb : BitVec 5) (imm : BitVec 6) (ua : Bool) (bu : BitVec 2) (us : BitVec 4) (pp : Bool)
  /-- SETW__BBx.r+BBo.r__Ux.r, 43_extended_gp_b.md R385. -/
  | setwR (rs : BitVec 5) (rb : BitVec 5) (ro : BitVec 5) (ua : Bool) (bu : BitVec 2) (us : BitVec 4) (pp : Bool)
  /-- SETW__BBx.r+_S6__Ux.r, 43_extended_gp_b.md R385. -/
  | setwI6 (rs : BitVec 5) (rb : BitVec 5) (imm : BitVec 6) (ua : Bool) (bu : BitVec 2) (us : BitVec 4) (pp : Bool)
  /-- SETD__BBx.r+BBo.r__Ux.r, 43_extended_gp_b.md R385. -/
  | setdR (rs : BitVec 5) (rb : BitVec 5) (ro : BitVec 5) (ua : Bool) (bu : BitVec 2) (us : BitVec 4) (pp : Bool)
  /-- SETD__BBx.r+_S6__Ux.r, 43_extended_gp_b.md R385. -/
  | setdI6 (rs : BitVec 5) (rb : BitVec 5) (imm : BitVec 6) (ua : Bool) (bu : BitVec 2) (us : BitVec 4) (pp : Bool)
  /-- SETL__BBx.r+BBo.r__Ux.r_Uy.r, 43_extended_gp_b.md R384. -/
  | setlR (rs : BitVec 5) (rb : BitVec 5) (ro : BitVec 5) (ua : Bool) (bu : BitVec 2) (us : BitVec 4) (pp : Bool)
  /-- SETL__BBx.r+_S6__Ux.r_Uy.r, 43_extended_gp_b.md R384. -/
  | setlI6 (rs : BitVec 5) (rb : BitVec 5) (imm : BitVec 6) (ua : Bool) (bu : BitVec 2) (us : BitVec 4) (pp : Bool)
  /-- MSETD__BBa.r__BBx.r..., 40_core_gp_a.md R256. -/
  | msetd (rs : BitVec 5) (rb : BitVec 5) (rmask : BitVec 7) (bua : BitVec 2) (bus : BitVec 2)
  /-- MSETL__BBa.r__BBx.r..., 40_core_gp_a.md R256. -/
  | msetl (rs : BitVec 5) (rb : BitVec 5) (rmask : BitVec 7) (bua : BitVec 2) (bus : BitVec 2)
  -- Read address issues and loads
  /-- MOVB_RAxx__BBx.r+BBo.r, 42_extended_gp_a.md R347. -/
  | movbRaR (rb : BitVec 5) (ro : BitVec 5) (ua : Bool) (bu : BitVec 2) (pp : Bool) (port : BitVec 5)
  /-- MOVB_RAxx__BBx.r+_S6, 42_extended_gp_a.md R347. -/
  | movbRaI6 (rb : BitVec 5) (imm : BitVec 6) (ua : Bool) (bu : BitVec 2) (pp : Bool) (port : BitVec 5)
  /-- MOVW_RAxx__BBx.r+BBo.r, 42_extended_gp_a.md R347. -/
  | movwRaR (rb : BitVec 5) (ro : BitVec 5) (ua : Bool) (bu : BitVec 2) (pp : Bool) (port : BitVec 5)
  /-- MOVW_RAxx__BBx.r+_S6, 42_extended_gp_a.md R347. -/
  | movwRaI6 (rb : BitVec 5) (imm : BitVec 6) (ua : Bool) (bu : BitVec 2) (pp : Bool) (port : BitVec 5)
  /-- MOVD_RAxx__BBx.r+BBo.r, 42_extended_gp_a.md R347. -/
  | movdRaR (rb : BitVec 5) (ro : BitVec 5) (ua : Bool) (bu : BitVec 2) (pp : Bool) (port : BitVec 5)
  /-- MOVD_RAxx__BBx.r+_S6, 42_extended_gp_a.md R347. -/
  | movdRaI6 (rb : BitVec 5) (imm : BitVec 6) (ua : Bool) (bu : BitVec 2) (pp : Bool) (port : BitVec 5)
  /-- MOVL_RAxx__BBx.r+BBo.r, 42_extended_gp_a.md R347. -/
  | movlRaR (rb : BitVec 5) (ro : BitVec 5) (ua : Bool) (bu : BitVec 2) (pp : Bool) (port : BitVec 5)
  /-- MOVL_RAxx__BBx.r+_S6, 42_extended_gp_a.md R347. -/
  | movlRaI6 (rb : BitVec 5) (imm : BitVec 6) (ua : Bool) (bu : BitVec 2) (pp : Bool) (port : BitVec 5)
  /-- GETD_Ux.r__A0.r+_S6___core_short_form, 40_core_gp_a.md R252. -/
  | getdShort (rd : BitVec 5) (rb : BitVec 5) (imm : BitVec 6) (ua : Bool) (ud : BitVec 4) (pp : Bool)
  /-- GETB_Ux.r__BBx.r+BBo.r, 42_extended_gp_a.md R341. -/
  | getbR (rd : BitVec 5) (rb : BitVec 5) (ro : BitVec 5) (ua : Bool) (bu : BitVec 2) (ud : BitVec 4) (pp : Bool)
  /-- GETB_Ux.r__BBx.r+_S6, 42_extended_gp_a.md R341. -/
  | getbI6 (rd : BitVec 5) (rb : BitVec 5) (imm : BitVec 6) (ua : Bool) (bu : BitVec 2) (ud : BitVec 4) (pp : Bool)
  /-- GETW_Ux.r__BBx.r+BBo.r, 42_extended_gp_a.md R341. -/
  | getwR (rd : BitVec 5) (rb : BitVec 5) (ro : BitVec 5) (ua : Bool) (bu : BitVec 2) (ud : BitVec 4) (pp : Bool)
  /-- GETW_Ux.r__BBx.r+_S6, 42_extended_gp_a.md R341. -/
  | getwI6 (rd : BitVec 5) (rb : BitVec 5) (imm : BitVec 6) (ua : Bool) (bu : BitVec 2) (ud : BitVec 4) (pp : Bool)
  /-- GETD_Ux.r__BBx.r+BBo.r, 42_extended_gp_a.md R341. -/
  | getdR (rd : BitVec 5) (rb : BitVec 5) (ro : BitVec 5) (ua : Bool) (bu : BitVec 2) (ud : BitVec 4) (pp : Bool)
  /-- GETD_Ux.r__BBx.r+_S6, 42_extended_gp_a.md R341. -/
  | getdI6 (rd : BitVec 5) (rb : BitVec 5) (imm : BitVec 6) (ua : Bool) (bu : BitVec 2) (ud : BitVec 4) (pp : Bool)
  /-- GETL_Ux.r_Uy.r__BBx.r+BBo.r, 42_extended_gp_a.md R340. -/
  | getlR (rd : BitVec 5) (rb : BitVec 5) (ro : BitVec 5) (ua : Bool) (bu : BitVec 2) (ud : BitVec 4) (pp : Bool)
  /-- GETL_Ux.r_Uy.r__BBx.r+_S6, 42_extended_gp_a.md R340. -/
  | getlI6 (rd : BitVec 5) (rb : BitVec 5) (imm : BitVec 6) (ua : Bool) (bu : BitVec 2) (ud : BitVec 4) (pp : Bool)
  /-- MGETD_BBx.r...__BBa.r, 40_core_gp_a.md R255. -/
  | mgetd (rd : BitVec 5) (rb : BitVec 5) (rmask : BitVec 7) (bua : BitVec 2) (bud : BitVec 2)
  /-- MGETL_BBx.r...__BBa.r, 40_core_gp_a.md R255. -/
  | mgetl (rd : BitVec 5) (rb : BitVec 5) (rmask : BitVec 7) (bua : BitVec 2) (bud : BitVec 2)
  /-- MMOVD_RAxx__BBa.r, 42_extended_gp_a.md R344. -/
  | mmovdRa (port : BitVec 5) (rb : BitVec 5) (rmask : BitVec 7) (bua : BitVec 2)
  /-- MMOVL_RAxx__BBa.r, 42_extended_gp_a.md R344. -/
  | mmovlRa (port : BitVec 5) (rb : BitVec 5) (rmask : BitVec 7) (bua : BitVec 2)
  /-- MDRD__n, 42_extended_gp_a.md R342. -/
  | mdrd (rmask : BitVec 7)
  /-- MMOVD_BBx.r..._RD, 42_extended_gp_a.md R343. -/
  | mmovdRd (rd : BitVec 5) (rmask : BitVec 7) (bur : BitVec 2)
  /-- MMOVL_BBx.r..._RD, 42_extended_gp_a.md R343. -/
  | mmovlRd (rd : BitVec 5) (rmask : BitVec 7) (bur : BitVec 2)
  -- Repeating transfers
  /-- CPRDR__BBx.r+BBo.r__CP.n___BUD___00, 46_long_gp_a.md R454. -/
  | cprdr0 (updD : Bool) (pp : Bool) (rdb : BitVec 5) (rdo : BitVec 5) (cp : BitVec 3)
  /-- CPRDR__BBx.r+BBo.r__CP.n___BUD___01, 46_long_gp_a.md R454. -/
  | cprdr1 (updD : Bool) (pp : Bool) (rdb : BitVec 5) (rdo : BitVec 5) (cp : BitVec 3)
  /-- CPRDR__BBx.r+BBo.r__CP.n___BUD___10, 46_long_gp_a.md R454. -/
  | cprdr2 (updD : Bool) (pp : Bool) (rdb : BitVec 5) (rdo : BitVec 5) (cp : BitVec 3)
  /-- CPRDR__BBx.r+BBo.r__CP.n___BUD___11, 46_long_gp_a.md R454. -/
  | cprdr3 (updD : Bool) (pp : Bool) (rdb : BitVec 5) (rdo : BitVec 5) (cp : BitVec 3)
  /-- CPRLR__BBx.r+BBo.r__CP.n___BUD___00, 46_long_gp_a.md R454. -/
  | cprlr0 (updD : Bool) (pp : Bool) (rdb : BitVec 5) (rdo : BitVec 5) (cp : BitVec 3)
  /-- CPRLR__BBx.r+BBo.r__CP.n___BUD___01, 46_long_gp_a.md R454. -/
  | cprlr1 (updD : Bool) (pp : Bool) (rdb : BitVec 5) (rdo : BitVec 5) (cp : BitVec 3)
  /-- CPRLR__BBx.r+BBo.r__CP.n___BUD___10, 46_long_gp_a.md R454. -/
  | cprlr2 (updD : Bool) (pp : Bool) (rdb : BitVec 5) (rdo : BitVec 5) (cp : BitVec 3)
  /-- CPRLR__BBx.r+BBo.r__CP.n___BUD___11, 46_long_gp_a.md R454. -/
  | cprlr3 (updD : Bool) (pp : Bool) (rdb : BitVec 5) (rdo : BitVec 5) (cp : BitVec 3)
  /-- XFRD__BBx.r+BBo.r___BBy.r+BBp.r____BUD___00__BUS___01, 47_long_gp_b.md R504. -/
  | xfrd01 (updD : Bool) (updS : Bool) (pp : Bool) (rdb : BitVec 5) (rdo : BitVec 5) (rsb : BitVec 5) (rso : BitVec 5)
  /-- XFRD__BBx.r+BBo.r___BBy.r+BBp.r____BUD___00__BUS___10, 47_long_gp_b.md R504. -/
  | xfrd02 (updD : Bool) (updS : Bool) (pp : Bool) (rdb : BitVec 5) (rdo : BitVec 5) (rsb : BitVec 5) (rso : BitVec 5)
  /-- XFRD__BBx.r+BBo.r___BBy.r+BBp.r____BUD___00__BUS___11, 47_long_gp_b.md R504. -/
  | xfrd03 (updD : Bool) (updS : Bool) (pp : Bool) (rdb : BitVec 5) (rdo : BitVec 5) (rsb : BitVec 5) (rso : BitVec 5)
  /-- XFRD__BBx.r+BBo.r___BBy.r+BBp.r____BUD___01__BUS___00, 47_long_gp_b.md R504. -/
  | xfrd10 (updD : Bool) (updS : Bool) (pp : Bool) (rdb : BitVec 5) (rdo : BitVec 5) (rsb : BitVec 5) (rso : BitVec 5)
  /-- XFRD__BBx.r+BBo.r___BBy.r+BBp.r____BUD___01__BUS___10, 47_long_gp_b.md R504. -/
  | xfrd12 (updD : Bool) (updS : Bool) (pp : Bool) (rdb : BitVec 5) (rdo : BitVec 5) (rsb : BitVec 5) (rso : BitVec 5)
  /-- XFRD__BBx.r+BBo.r___BBy.r+BBp.r____BUD___01__BUS___11, 47_long_gp_b.md R504. -/
  | xfrd13 (updD : Bool) (updS : Bool) (pp : Bool) (rdb : BitVec 5) (rdo : BitVec 5) (rsb : BitVec 5) (rso : BitVec 5)
  /-- XFRD__BBx.r+BBo.r___BBy.r+BBp.r____BUD___10__BUS___00, 47_long_gp_b.md R504. -/
  | xfrd20 (updD : Bool) (updS : Bool) (pp : Bool) (rdb : BitVec 5) (rdo : BitVec 5) (rsb : BitVec 5) (rso : BitVec 5)
  /-- XFRD__BBx.r+BBo.r___BBy.r+BBp.r____BUD___10__BUS___01, 47_long_gp_b.md R504. -/
  | xfrd21 (updD : Bool) (updS : Bool) (pp : Bool) (rdb : BitVec 5) (rdo : BitVec 5) (rsb : BitVec 5) (rso : BitVec 5)
  /-- XFRD__BBx.r+BBo.r___BBy.r+BBp.r____BUD___10__BUS___11, 47_long_gp_b.md R504. -/
  | xfrd23 (updD : Bool) (updS : Bool) (pp : Bool) (rdb : BitVec 5) (rdo : BitVec 5) (rsb : BitVec 5) (rso : BitVec 5)
  /-- XFRD__BBx.r+BBo.r___BBy.r+BBp.r____BUD___11__BUS___00, 47_long_gp_b.md R504. -/
  | xfrd30 (updD : Bool) (updS : Bool) (pp : Bool) (rdb : BitVec 5) (rdo : BitVec 5) (rsb : BitVec 5) (rso : BitVec 5)
  /-- XFRD__BBx.r+BBo.r___BBy.r+BBp.r____BUD___11__BUS___01, 47_long_gp_b.md R504. -/
  | xfrd31 (updD : Bool) (updS : Bool) (pp : Bool) (rdb : BitVec 5) (rdo : BitVec 5) (rsb : BitVec 5) (rso : BitVec 5)
  /-- XFRD__BBx.r+BBo.r___BBy.r+BBp.r____BUD___11__BUS___10, 47_long_gp_b.md R504. -/
  | xfrd32 (updD : Bool) (updS : Bool) (pp : Bool) (rdb : BitVec 5) (rdo : BitVec 5) (rsb : BitVec 5) (rso : BitVec 5)
  /-- XFRL__BBx.r+BBo.r___BBy.r+BBp.r____BUD___00__BUS___01, 47_long_gp_b.md R504. -/
  | xfrl01 (updD : Bool) (updS : Bool) (pp : Bool) (rdb : BitVec 5) (rdo : BitVec 5) (rsb : BitVec 5) (rso : BitVec 5)
  /-- XFRL__BBx.r+BBo.r___BBy.r+BBp.r____BUD___00__BUS___10, 47_long_gp_b.md R504. -/
  | xfrl02 (updD : Bool) (updS : Bool) (pp : Bool) (rdb : BitVec 5) (rdo : BitVec 5) (rsb : BitVec 5) (rso : BitVec 5)
  /-- XFRL__BBx.r+BBo.r___BBy.r+BBp.r____BUD___00__BUS___11, 47_long_gp_b.md R504. -/
  | xfrl03 (updD : Bool) (updS : Bool) (pp : Bool) (rdb : BitVec 5) (rdo : BitVec 5) (rsb : BitVec 5) (rso : BitVec 5)
  /-- XFRL__BBx.r+BBo.r___BBy.r+BBp.r____BUD___01__BUS___00, 47_long_gp_b.md R504. -/
  | xfrl10 (updD : Bool) (updS : Bool) (pp : Bool) (rdb : BitVec 5) (rdo : BitVec 5) (rsb : BitVec 5) (rso : BitVec 5)
  /-- XFRL__BBx.r+BBo.r___BBy.r+BBp.r____BUD___01__BUS___10, 47_long_gp_b.md R504. -/
  | xfrl12 (updD : Bool) (updS : Bool) (pp : Bool) (rdb : BitVec 5) (rdo : BitVec 5) (rsb : BitVec 5) (rso : BitVec 5)
  /-- XFRL__BBx.r+BBo.r___BBy.r+BBp.r____BUD___01__BUS___11, 47_long_gp_b.md R504. -/
  | xfrl13 (updD : Bool) (updS : Bool) (pp : Bool) (rdb : BitVec 5) (rdo : BitVec 5) (rsb : BitVec 5) (rso : BitVec 5)
  /-- XFRL__BBx.r+BBo.r___BBy.r+BBp.r____BUD___10__BUS___00, 47_long_gp_b.md R504. -/
  | xfrl20 (updD : Bool) (updS : Bool) (pp : Bool) (rdb : BitVec 5) (rdo : BitVec 5) (rsb : BitVec 5) (rso : BitVec 5)
  /-- XFRL__BBx.r+BBo.r___BBy.r+BBp.r____BUD___10__BUS___01, 47_long_gp_b.md R504. -/
  | xfrl21 (updD : Bool) (updS : Bool) (pp : Bool) (rdb : BitVec 5) (rdo : BitVec 5) (rsb : BitVec 5) (rso : BitVec 5)
  /-- XFRL__BBx.r+BBo.r___BBy.r+BBp.r____BUD___10__BUS___11, 47_long_gp_b.md R504. -/
  | xfrl23 (updD : Bool) (updS : Bool) (pp : Bool) (rdb : BitVec 5) (rdo : BitVec 5) (rsb : BitVec 5) (rso : BitVec 5)
  /-- XFRL__BBx.r+BBo.r___BBy.r+BBp.r____BUD___11__BUS___00, 47_long_gp_b.md R504. -/
  | xfrl30 (updD : Bool) (updS : Bool) (pp : Bool) (rdb : BitVec 5) (rdo : BitVec 5) (rsb : BitVec 5) (rso : BitVec 5)
  /-- XFRL__BBx.r+BBo.r___BBy.r+BBp.r____BUD___11__BUS___01, 47_long_gp_b.md R504. -/
  | xfrl31 (updD : Bool) (updS : Bool) (pp : Bool) (rdb : BitVec 5) (rdo : BitVec 5) (rsb : BitVec 5) (rso : BitVec 5)
  /-- XFRL__BBx.r+BBo.r___BBy.r+BBp.r____BUD___11__BUS___10, 47_long_gp_b.md R504. -/
  | xfrl32 (updD : Bool) (updS : Bool) (pp : Bool) (rdb : BitVec 5) (rdo : BitVec 5) (rsb : BitVec 5) (rso : BitVec 5)
  -- Coprocessor writes and transfers
  /-- CPXL_CP.d_CP.s, 46_long_gp_a.md R459. -/
  | cpxl (cpd : BitVec 3) (cps : BitVec 3) (rep : Bool)
  /-- CPWL_CP.n_Ux.r_Uy.r, 46_long_gp_a.md R457. -/
  | cpwlRR (bu : BitVec 2) (cp : BitVec 3) (rs1 : BitVec 5) (rs2 : BitVec 5)
  /-- CPWL_CP.n_Ux.r__X16, 46_long_gp_a.md R457. -/
  | cpwlRI (bu : BitVec 2) (cp : BitVec 3) (rs1 : BitVec 5) (imm : BitVec 16)
  /-- CPWL_CP.n__BBx.r+BBo.r, 46_long_gp_a.md R458. -/
  | cpwlMemR (bu : BitVec 2) (cp : BitVec 3) (rb : BitVec 5) (ro : BitVec 5) (rep : Bool) (ua : Bool) (pp : Bool)
  /-- CPWL_CP.n__BBx.r+_S8, 46_long_gp_a.md R458. -/
  | cpwlMemI8 (bu : BitVec 2) (cp : BitVec 3) (rb : BitVec 5) (imm : BitVec 8) (rep : Bool) (ua : Bool) (pp : Bool)
  -- Shadow registers (no bit positions in the spec)
  /-- MOVRcc_Dx.r_AxIReg___MOVRcc_AxIReg_Dx.r, 49_trace_ops.md R553. -/
  | movr (x : BitVec 24)
  /-- SWAPRcc_Dx.r_AxIReg___SWAPRcc_AxIReg_Dx.r, 49_trace_ops.md R554. -/
  | swapr (x : BitVec 24)
  deriving DecidableEq, Repr

end Sys2Proof
end

