-- ==== Sys2Proof/Machine/AluAddr.lean ====
section
/-! DEFINITION. Address unit arithmetic: ADD, MOV, SUB, NEG. -/

namespace Sys2Proof.Machine

/-- The end of an address unit operation with a destination in the executing unit: no flags (10_state.md R57). -/
def endAddr (u : BUnit) (rd : BitVec 4) (v : Word) (s : State) : State := writeReg (advance s) u (rd.setWidth 5) v

/-- Register form, 30_encoding.md R200, R162. -/
def auRR (op : AluOp) (au : Bool) (rd : BitVec 4) (pc1 : Bool) (rs1 : BitVec 4) (pc2 : Bool) (rs2 : BitVec 4)
    (s : State) : Out :=
  let u := addrUnit au
  finish s (.ok () (endAddr u rd (op.result (asrc s u pc1 rs1 0) (asrc s u pc2 rs2 1)) s))

/-- Register form with operand 2 replaced. -/
def auRX (op : AluOp) (au : Bool) (rd : BitVec 4) (pc1 : Bool) (rs1 : BitVec 4) (osel : BitVec 2) (oreg : BitVec 3)
    (s : State) : Out :=
  let u := addrUnit au
  finish s ((readO2R s u osel oreg 1).bind fun b s1 => .ok () (endAddr u rd (op.result (asrc s1 u pc1 rs1 0) b) s1))

/-- Register form with operand 1 zero. -/
def auR1 (op : AluOp) (au : Bool) (rd : BitVec 4) (pc2 : Bool) (rs2 : BitVec 4) (s : State) : Out :=
  let u := addrUnit au
  finish s (.ok () (endAddr u rd (op.result 0#32 (asrc s u pc2 rs2 1)) s))

/-- Register form with operand 1 zero and operand 2 replaced. -/
def auX1 (op : AluOp) (au : Bool) (rd : BitVec 4) (osel : BitVec 2) (oreg : BitVec 3) (s : State) : Out :=
  let u := addrUnit au
  finish s ((readO2R s u osel oreg 1).bind fun b s1 => .ok () (endAddr u rd (op.result 0#32 b) s1))

/-- 16-bit immediate form, 30_encoding.md R201, R162: source 1 is the destination or the PC. -/
def auI16 (op : AluOp) (au pcb : Bool) (rd : BitVec 4) (b : Word) (s : State) : Out :=
  let u := addrUnit au
  finish s (.ok () (endAddr u rd (op.result (asrc s u pcb rd 0) b) s))

/-- Conditional form with any destination, 30_encoding.md R202. -/
def auCR (op : AluOp) (au : Bool) (rd : BitVec 5) (pc1 : Bool) (rs1 : BitVec 4) (pc2 : Bool) (rs2 : BitVec 4)
    (ud cc : BitVec 4) (s : State) : Out :=
  let u := addrUnit au
  finish s (if s.passes cc then writeUnit (advance s) ud rd (op.result (asrc s u pc1 rs1 0) (asrc s u pc2 rs2 1))
    else .ok () (advance s))

/-- Conditional form with any destination and operand 2 replaced. -/
def auCX (op : AluOp) (au : Bool) (rd : BitVec 5) (pc1 : Bool) (rs1 : BitVec 4) (osel : BitVec 2) (oreg : BitVec 3)
    (ud cc : BitVec 4) (s : State) : Out :=
  let u := addrUnit au
  finish s ((readO2R s u osel oreg 1).bind fun b s1 =>
    if s1.passes cc then writeUnit (advance s1) ud rd (op.result (asrc s1 u pc1 rs1 0) b) else .ok () (advance s1))

/-- 8-bit immediate form with any destination, 30_encoding.md R203. -/
def auUX8 (op : AluOp) (au : Bool) (rd : BitVec 5) (pc1 : Bool) (rs : BitVec 4) (imm : BitVec 8) (ud : BitVec 4)
    (s : State) : Out :=
  finish s (writeUnit (advance s) ud rd (op.result (asrc s (addrUnit au) pc1 rs 0) (imm.setWidth 32)))

/-- Conditional 8-bit immediate form, 30_encoding.md R203: the destination is register `Rd[3:0]`. -/
def auCX8 (op : AluOp) (au : Bool) (rd : BitVec 5) (pc1 : Bool) (rs : BitVec 4) (imm : BitVec 8) (cc : BitVec 4)
    (s : State) : Out :=
  let u := addrUnit au
  finish s (.ok () (if s.passes cc then endAddr u (rd.setWidth 4) (op.result (asrc s u pc1 rs 0) (imm.setWidth 32)) s
    else advance s))

/-- 40_core_gp_a.md R241. -/
def execAddARR (au : Bool) (rd : BitVec 4) (pc1 : Bool) (rs1 : BitVec 4) (pc2 : Bool) (rs2 : BitVec 4)
    (s : State) : Out :=
  auRR .add au rd pc1 rs1 pc2 rs2 s

/-- 42_extended_gp_a.md R321. -/
def execAddARX (au : Bool) (rd : BitVec 4) (pc1 : Bool) (rs1 : BitVec 4) (osel : BitVec 2) (oreg : BitVec 3)
    (s : State) : Out :=
  auRX .add au rd pc1 rs1 osel oreg s

/-- 40_core_gp_a.md R258. -/
def execMovARR (au : Bool) (rd : BitVec 4) (pc2 : Bool) (rs2 : BitVec 4) (s : State) : Out :=
  auR1 .mov au rd pc2 rs2 s

/-- 42_extended_gp_a.md R345. -/
def execMovARX (au : Bool) (rd : BitVec 4) (osel : BitVec 2) (oreg : BitVec 3) (s : State) : Out :=
  auX1 .mov au rd osel oreg s

/-- 40_core_gp_a.md R242. -/
def execAddAI16 (au : Bool) (pcb : Bool) (rd : BitVec 4) (imm : BitVec 16) (se : Bool) (h : Bool) (s : State) : Out :=
  auI16 .add au pcb rd (imm16 s imm se h) s

/-- 40_core_gp_a.md R259. -/
def execMovAI16 (au : Bool) (pcb : Bool) (rd : BitVec 4) (imm : BitVec 16) (se : Bool) (h : Bool) (s : State) : Out :=
  auI16 .mov au pcb rd (imm16 s imm se h) s

/-- 42_extended_gp_a.md R322. -/
def execAddACR (au : Bool) (rd : BitVec 5) (pc1 : Bool) (rs1 : BitVec 4) (pc2 : Bool) (rs2 : BitVec 4)
    (ud : BitVec 4) (cc : BitVec 4) (s : State) : Out :=
  auCR .add au rd pc1 rs1 pc2 rs2 ud cc s

/-- 42_extended_gp_a.md R323. -/
def execAddACX (au : Bool) (rd : BitVec 5) (pc1 : Bool) (rs1 : BitVec 4) (osel : BitVec 2) (oreg : BitVec 3)
    (ud : BitVec 4) (cc : BitVec 4) (s : State) : Out :=
  auCX .add au rd pc1 rs1 osel oreg ud cc s

/-- 42_extended_gp_a.md R324. -/
def execAddAUX8 (au : Bool) (rd : BitVec 5) (pc1 : Bool) (rs : BitVec 4) (imm : BitVec 8) (ud : BitVec 4)
    (s : State) : Out :=
  auUX8 .add au rd pc1 rs imm ud s

/-- 42_extended_gp_a.md R325. -/
def execAddACX8 (au : Bool) (rd : BitVec 5) (pc1 : Bool) (rs : BitVec 4) (imm : BitVec 8) (cc : BitVec 4)
    (s : State) : Out :=
  auCX8 .add au rd pc1 rs imm cc s

/-- 41_core_gp_b.md R292. -/
def execSubARR (au : Bool) (rd : BitVec 4) (pc1 : Bool) (rs1 : BitVec 4) (pc2 : Bool) (rs2 : BitVec 4)
    (s : State) : Out :=
  auRR .sub au rd pc1 rs1 pc2 rs2 s

/-- 43_extended_gp_b.md R386. -/
def execSubARX (au : Bool) (rd : BitVec 4) (pc1 : Bool) (rs1 : BitVec 4) (osel : BitVec 2) (oreg : BitVec 3)
    (s : State) : Out :=
  auRX .sub au rd pc1 rs1 osel oreg s

/-- 41_core_gp_b.md R283. -/
def execNegARR (au : Bool) (rd : BitVec 4) (pc2 : Bool) (rs2 : BitVec 4) (s : State) : Out :=
  auR1 .neg au rd pc2 rs2 s

/-- 43_extended_gp_b.md R377. -/
def execNegARX (au : Bool) (rd : BitVec 4) (osel : BitVec 2) (oreg : BitVec 3) (s : State) : Out :=
  auX1 .neg au rd osel oreg s

/-- 41_core_gp_b.md R293. -/
def execSubAI16 (au : Bool) (pcb : Bool) (rd : BitVec 4) (imm : BitVec 16) (se : Bool) (h : Bool) (s : State) : Out :=
  auI16 .sub au pcb rd (imm16 s imm se h) s

/-- 41_core_gp_b.md R284. -/
def execNegAI16 (au : Bool) (pcb : Bool) (rd : BitVec 4) (imm : BitVec 16) (se : Bool) (h : Bool) (s : State) : Out :=
  auI16 .neg au pcb rd (imm16 s imm se h) s

/-- 43_extended_gp_b.md R387. -/
def execSubACR (au : Bool) (rd : BitVec 5) (pc1 : Bool) (rs1 : BitVec 4) (pc2 : Bool) (rs2 : BitVec 4)
    (ud : BitVec 4) (cc : BitVec 4) (s : State) : Out :=
  auCR .sub au rd pc1 rs1 pc2 rs2 ud cc s

/-- 43_extended_gp_b.md R388. -/
def execSubACX (au : Bool) (rd : BitVec 5) (pc1 : Bool) (rs1 : BitVec 4) (osel : BitVec 2) (oreg : BitVec 3)
    (ud : BitVec 4) (cc : BitVec 4) (s : State) : Out :=
  auCX .sub au rd pc1 rs1 osel oreg ud cc s

/-- 43_extended_gp_b.md R389. -/
def execSubAUX8 (au : Bool) (rd : BitVec 5) (pc1 : Bool) (rs : BitVec 4) (imm : BitVec 8) (ud : BitVec 4)
    (s : State) : Out :=
  auUX8 .sub au rd pc1 rs imm ud s

/-- 43_extended_gp_b.md R390. -/
def execSubACX8 (au : Bool) (rd : BitVec 5) (pc1 : Bool) (rs : BitVec 4) (imm : BitVec 8) (cc : BitVec 4)
    (s : State) : Out :=
  auCX8 .sub au rd pc1 rs imm cc s

end Sys2Proof.Machine
end

