-- ==== Sys2Proof/Machine/AluData.lean ====
section
/-! DEFINITION. Data unit arithmetic and logic: ADD, MOV, SUB, NEG, AND, OR, XOR. -/

namespace Sys2Proof.Machine

/-- Set the flags if the instruction asks for it. -/
def setFlagsIf (sf : Bool) (f : Flags) (s : State) : State := if sf then s.setFlags f else s

/-- The end of an operation with a destination in the executing unit. -/
def endData (op : AluOp) (sf : Bool) (u : BUnit) (rd : BitVec 5) (a b : Word) (s : State) : State :=
  writeReg (setFlagsIf sf (op.flags s.tick a b) (advance s)) u rd (op.result a b)

/-- The end of an operation with a destination in any unit: the flags first, the destination last
(42_extended_gp_a.md R320 (f), (g)). -/
def endUnit (op : AluOp) (sf : Bool) (ud : BitVec 4) (rd : BitVec 5) (a b : Word) (s : State) : Res Unit :=
  writeUnit (setFlagsIf sf (op.flags s.tick a b) (advance s)) ud rd (op.result a b)

/-- Register form, 30_encoding.md R200. -/
def aluRR (op : AluOp) (sf du : Bool) (rd rs1 rs2 : BitVec 5) (s : State) : Out :=
  let u := dataUnit du
  finish s (.ok () (endData op sf u rd (readReg s u rs1 0) (readReg s u rs2 1) s))

/-- Register form with operand 2 replaced. -/
def aluRX (op : AluOp) (sf du : Bool) (rd rs1 : BitVec 5) (osel : BitVec 2) (oreg : BitVec 3) (s : State) : Out :=
  let u := dataUnit du
  finish s ((readO2R s u osel oreg 1).bind fun b s1 => .ok () (endData op sf u rd (readReg s1 u rs1 0) b s1))

/-- Register form with operand 1 zero. -/
def aluR1 (op : AluOp) (sf du : Bool) (rd rs2 : BitVec 5) (s : State) : Out :=
  let u := dataUnit du
  finish s (.ok () (endData op sf u rd 0#32 (readReg s u rs2 1) s))

/-- Register form with operand 1 zero and operand 2 replaced. -/
def aluX1 (op : AluOp) (sf du : Bool) (rd : BitVec 5) (osel : BitVec 2) (oreg : BitVec 3) (s : State) : Out :=
  let u := dataUnit du
  finish s ((readO2R s u osel oreg 1).bind fun b s1 => .ok () (endData op sf u rd 0#32 b s1))

/-- 16-bit immediate form, 30_encoding.md R201: the destination is the first source. -/
def aluI16 (op : AluOp) (sf du : Bool) (rd : BitVec 5) (b : Word) (s : State) : Out :=
  let u := dataUnit du
  finish s (.ok () (endData op sf u rd (readReg s u rd 0) b s))

/-- Conditional form with any destination, 30_encoding.md R202. -/
def aluCR (op : AluOp) (sf du : Bool) (rd rs1 rs2 : BitVec 5) (ud cc : BitVec 4) (s : State) : Out :=
  let u := dataUnit du
  finish s (if s.passes cc then endUnit op sf ud rd (readReg s u rs1 0) (readReg s u rs2 1) s else .ok () (advance s))

/-- Conditional form with any destination and operand 2 replaced: RD is consumed whatever the condition
(42_extended_gp_a.md R320 (c)). -/
def aluCX (op : AluOp) (sf du : Bool) (rd rs1 : BitVec 5) (osel : BitVec 2) (oreg : BitVec 3) (ud cc : BitVec 4)
    (s : State) : Out :=
  let u := dataUnit du
  finish s ((readO2R s u osel oreg 1).bind fun b s1 =>
    if s1.passes cc then endUnit op sf ud rd (readReg s1 u rs1 0) b s1 else .ok () (advance s1))

/-- 8-bit immediate form with any destination, 30_encoding.md R203. -/
def aluUX8 (op : AluOp) (sf du : Bool) (rd rs : BitVec 5) (imm : BitVec 8) (ud : BitVec 4) (s : State) : Out :=
  finish s (endUnit op sf ud rd (readReg s (dataUnit du) rs 0) (imm.setWidth 32) s)

/-- Conditional 8-bit immediate form, 30_encoding.md R203. -/
def aluCX8 (op : AluOp) (sf du : Bool) (rd rs : BitVec 5) (imm : BitVec 8) (cc : BitVec 4) (s : State) : Out :=
  let u := dataUnit du
  finish s (.ok () (if s.passes cc then endData op sf u rd (readReg s u rs 0) (imm.setWidth 32) s else advance s))

/-- 40_core_gp_a.md R243. -/
def execAddRR (sf : Bool) (du : Bool) (rd : BitVec 5) (rs1 : BitVec 5) (rs2 : BitVec 5) (s : State) : Out :=
  aluRR .add sf du rd rs1 rs2 s

/-- 42_extended_gp_a.md R326. -/
def execAddRX (sf : Bool) (du : Bool) (rd : BitVec 5) (rs1 : BitVec 5) (osel : BitVec 2) (oreg : BitVec 3)
    (s : State) : Out :=
  aluRX .add sf du rd rs1 osel oreg s

/-- 40_core_gp_a.md R260. -/
def execMovRR (sf : Bool) (du : Bool) (rd : BitVec 5) (rs2 : BitVec 5) (s : State) : Out := aluR1 .mov sf du rd rs2 s

/-- 42_extended_gp_a.md R346. -/
def execMovRX (sf : Bool) (du : Bool) (rd : BitVec 5) (osel : BitVec 2) (oreg : BitVec 3) (s : State) : Out :=
  aluX1 .mov sf du rd osel oreg s

/-- 40_core_gp_a.md R244. -/
def execAddI16 (sf : Bool) (du : Bool) (rd : BitVec 5) (imm : BitVec 16) (se : Bool) (h : Bool) (s : State) : Out :=
  aluI16 .add sf du rd (imm16 s imm se h) s

/-- 40_core_gp_a.md R262. -/
def execMovI16 (sf : Bool) (du : Bool) (rd : BitVec 5) (imm : BitVec 16) (se : Bool) (h : Bool) (s : State) : Out :=
  aluI16 .mov sf du rd (imm16 s imm se h) s

/-- 42_extended_gp_a.md R327. -/
def execAddCR (sf : Bool) (du : Bool) (rd : BitVec 5) (rs1 : BitVec 5) (rs2 : BitVec 5) (ud : BitVec 4)
    (cc : BitVec 4) (s : State) : Out :=
  aluCR .add sf du rd rs1 rs2 ud cc s

/-- 42_extended_gp_a.md R328. -/
def execAddCX (sf : Bool) (du : Bool) (rd : BitVec 5) (rs1 : BitVec 5) (osel : BitVec 2) (oreg : BitVec 3)
    (ud : BitVec 4) (cc : BitVec 4) (s : State) : Out :=
  aluCX .add sf du rd rs1 osel oreg ud cc s

/-- 42_extended_gp_a.md R329. -/
def execAddUX8 (sf : Bool) (du : Bool) (rd : BitVec 5) (rs : BitVec 5) (imm : BitVec 8) (ud : BitVec 4)
    (s : State) : Out :=
  aluUX8 .add sf du rd rs imm ud s

/-- 42_extended_gp_a.md R330. -/
def execAddCX8 (sf : Bool) (du : Bool) (rd : BitVec 5) (rs : BitVec 5) (imm : BitVec 8) (cc : BitVec 4)
    (s : State) : Out :=
  aluCX8 .add sf du rd rs imm cc s

/-- 41_core_gp_b.md R294. -/
def execSubRR (sf : Bool) (du : Bool) (rd : BitVec 5) (rs1 : BitVec 5) (rs2 : BitVec 5) (s : State) : Out :=
  aluRR .sub sf du rd rs1 rs2 s

/-- 43_extended_gp_b.md R391. -/
def execSubRX (sf : Bool) (du : Bool) (rd : BitVec 5) (rs1 : BitVec 5) (osel : BitVec 2) (oreg : BitVec 3)
    (s : State) : Out :=
  aluRX .sub sf du rd rs1 osel oreg s

/-- 41_core_gp_b.md R285. -/
def execNegRR (sf : Bool) (du : Bool) (rd : BitVec 5) (rs2 : BitVec 5) (s : State) : Out := aluR1 .neg sf du rd rs2 s

/-- 43_extended_gp_b.md R378. -/
def execNegRX (sf : Bool) (du : Bool) (rd : BitVec 5) (osel : BitVec 2) (oreg : BitVec 3) (s : State) : Out :=
  aluX1 .neg sf du rd osel oreg s

/-- 41_core_gp_b.md R296. -/
def execSubI16 (sf : Bool) (du : Bool) (rd : BitVec 5) (imm : BitVec 16) (se : Bool) (h : Bool) (s : State) : Out :=
  aluI16 .sub sf du rd (imm16 s imm se h) s

/-- 41_core_gp_b.md R286. -/
def execNegI16 (sf : Bool) (du : Bool) (rd : BitVec 5) (imm : BitVec 16) (se : Bool) (h : Bool) (s : State) : Out :=
  aluI16 .neg sf du rd (imm16 s imm se h) s

/-- 43_extended_gp_b.md R392. -/
def execSubCR (sf : Bool) (du : Bool) (rd : BitVec 5) (rs1 : BitVec 5) (rs2 : BitVec 5) (ud : BitVec 4)
    (cc : BitVec 4) (s : State) : Out :=
  aluCR .sub sf du rd rs1 rs2 ud cc s

/-- 43_extended_gp_b.md R393. -/
def execSubCX (sf : Bool) (du : Bool) (rd : BitVec 5) (rs1 : BitVec 5) (osel : BitVec 2) (oreg : BitVec 3)
    (ud : BitVec 4) (cc : BitVec 4) (s : State) : Out :=
  aluCX .sub sf du rd rs1 osel oreg ud cc s

/-- 43_extended_gp_b.md R394. -/
def execSubUX8 (sf : Bool) (du : Bool) (rd : BitVec 5) (rs : BitVec 5) (imm : BitVec 8) (ud : BitVec 4)
    (s : State) : Out :=
  aluUX8 .sub sf du rd rs imm ud s

/-- 43_extended_gp_b.md R395. -/
def execSubCX8 (sf : Bool) (du : Bool) (rd : BitVec 5) (rs : BitVec 5) (imm : BitVec 8) (cc : BitVec 4)
    (s : State) : Out :=
  aluCX8 .sub sf du rd rs imm cc s

/-- 40_core_gp_a.md R245. -/
def execAndRR (sf : Bool) (du : Bool) (rd : BitVec 5) (rs1 : BitVec 5) (rs2 : BitVec 5) (s : State) : Out :=
  aluRR .and sf du rd rs1 rs2 s

/-- 42_extended_gp_a.md R331. -/
def execAndRX (sf : Bool) (du : Bool) (rd : BitVec 5) (rs1 : BitVec 5) (osel : BitVec 2) (oreg : BitVec 3)
    (s : State) : Out :=
  aluRX .and sf du rd rs1 osel oreg s

/-- 40_core_gp_a.md R246. -/
def execAndI16 (sf : Bool) (du : Bool) (rd : BitVec 5) (imm : BitVec 16) (m : Bool) (se : Bool) (h : Bool)
    (s : State) : Out :=
  aluI16 .and sf du rd (immM s imm m se h) s

/-- 42_extended_gp_a.md R332. -/
def execAndCR (sf : Bool) (du : Bool) (rd : BitVec 5) (rs1 : BitVec 5) (rs2 : BitVec 5) (ud : BitVec 4)
    (cc : BitVec 4) (s : State) : Out :=
  aluCR .and sf du rd rs1 rs2 ud cc s

/-- 42_extended_gp_a.md R333. -/
def execAndCX (sf : Bool) (du : Bool) (rd : BitVec 5) (rs1 : BitVec 5) (osel : BitVec 2) (oreg : BitVec 3)
    (ud : BitVec 4) (cc : BitVec 4) (s : State) : Out :=
  aluCX .and sf du rd rs1 osel oreg ud cc s

/-- 42_extended_gp_a.md R334. -/
def execAndUX8 (sf : Bool) (du : Bool) (rd : BitVec 5) (rs : BitVec 5) (imm : BitVec 8) (ud : BitVec 4)
    (s : State) : Out :=
  aluUX8 .and sf du rd rs imm ud s

/-- 42_extended_gp_a.md R335. -/
def execAndCX8 (sf : Bool) (du : Bool) (rd : BitVec 5) (rs : BitVec 5) (imm : BitVec 8) (cc : BitVec 4)
    (s : State) : Out :=
  aluCX8 .and sf du rd rs imm cc s

/-- 41_core_gp_b.md R288. -/
def execOrRR (sf : Bool) (du : Bool) (rd : BitVec 5) (rs1 : BitVec 5) (rs2 : BitVec 5) (s : State) : Out :=
  aluRR .or sf du rd rs1 rs2 s

/-- 43_extended_gp_b.md R379. -/
def execOrRX (sf : Bool) (du : Bool) (rd : BitVec 5) (rs1 : BitVec 5) (osel : BitVec 2) (oreg : BitVec 3)
    (s : State) : Out :=
  aluRX .or sf du rd rs1 osel oreg s

/-- 41_core_gp_b.md R289. -/
def execOrI16 (sf : Bool) (du : Bool) (rd : BitVec 5) (imm : BitVec 16) (m : Bool) (se : Bool) (h : Bool)
    (s : State) : Out :=
  aluI16 .or sf du rd (immM s imm m se h) s

/-- 43_extended_gp_b.md R380. -/
def execOrCR (sf : Bool) (du : Bool) (rd : BitVec 5) (rs1 : BitVec 5) (rs2 : BitVec 5) (ud : BitVec 4)
    (cc : BitVec 4) (s : State) : Out :=
  aluCR .or sf du rd rs1 rs2 ud cc s

/-- 43_extended_gp_b.md R381. -/
def execOrCX (sf : Bool) (du : Bool) (rd : BitVec 5) (rs1 : BitVec 5) (osel : BitVec 2) (oreg : BitVec 3)
    (ud : BitVec 4) (cc : BitVec 4) (s : State) : Out :=
  aluCX .or sf du rd rs1 osel oreg ud cc s

/-- 43_extended_gp_b.md R382. -/
def execOrUX8 (sf : Bool) (du : Bool) (rd : BitVec 5) (rs : BitVec 5) (imm : BitVec 8) (ud : BitVec 4)
    (s : State) : Out :=
  aluUX8 .or sf du rd rs imm ud s

/-- 43_extended_gp_b.md R383. -/
def execOrCX8 (sf : Bool) (du : Bool) (rd : BitVec 5) (rs : BitVec 5) (imm : BitVec 8) (cc : BitVec 4)
    (s : State) : Out :=
  aluCX8 .or sf du rd rs imm cc s

/-- 41_core_gp_b.md R302. -/
def execXorRR (sf : Bool) (du : Bool) (rd : BitVec 5) (rs1 : BitVec 5) (rs2 : BitVec 5) (s : State) : Out :=
  aluRR .xor sf du rd rs1 rs2 s

/-- 43_extended_gp_b.md R399. -/
def execXorRX (sf : Bool) (du : Bool) (rd : BitVec 5) (rs1 : BitVec 5) (osel : BitVec 2) (oreg : BitVec 3)
    (s : State) : Out :=
  aluRX .xor sf du rd rs1 osel oreg s

/-- 41_core_gp_b.md R303. -/
def execXorI16 (sf : Bool) (du : Bool) (rd : BitVec 5) (imm : BitVec 16) (m : Bool) (se : Bool) (h : Bool)
    (s : State) : Out :=
  aluI16 .xor sf du rd (immM s imm m se h) s

/-- 43_extended_gp_b.md R400. -/
def execXorCR (sf : Bool) (du : Bool) (rd : BitVec 5) (rs1 : BitVec 5) (rs2 : BitVec 5) (ud : BitVec 4)
    (cc : BitVec 4) (s : State) : Out :=
  aluCR .xor sf du rd rs1 rs2 ud cc s

/-- 43_extended_gp_b.md R401. -/
def execXorCX (sf : Bool) (du : Bool) (rd : BitVec 5) (rs1 : BitVec 5) (osel : BitVec 2) (oreg : BitVec 3)
    (ud : BitVec 4) (cc : BitVec 4) (s : State) : Out :=
  aluCX .xor sf du rd rs1 osel oreg ud cc s

/-- 43_extended_gp_b.md R402. -/
def execXorUX8 (sf : Bool) (du : Bool) (rd : BitVec 5) (rs : BitVec 5) (imm : BitVec 8) (ud : BitVec 4)
    (s : State) : Out :=
  aluUX8 .xor sf du rd rs imm ud s

/-- 43_extended_gp_b.md R403. -/
def execXorCX8 (sf : Bool) (du : Bool) (rd : BitVec 5) (rs : BitVec 5) (imm : BitVec 8) (cc : BitVec 4)
    (s : State) : Out :=
  aluCX8 .xor sf du rd rs imm cc s

end Sys2Proof.Machine
end

