-- ==== Sys2Proof/Machine/Branch.lean ====
section
/-! DEFINITION. Branches, calls and jumps. -/

namespace Sys2Proof.Machine

/-- `PCUAdd(pc, off)`: a count of instructions from the branch itself (30_encoding.md R189). -/
def branchTarget (s : State) (off : BitVec 19) : Word := s.th.pc + 4#32 * off.signExtend 32

/-- Decrement TXRPT towards zero (10_state.md R67). -/
def countDown (s : State) : State :=
  if s.ctCell .txrpt = 0#32 then s else s.setCtCell .txrpt (s.ctCell .txrpt - 1#32)

/-- A branch: `rep` is the counted form, which is taken only while TXRPT is not 0 and decrements it either way. -/
def branchTo (rep c : Bool) (off : BitVec 19) (s : State) : Out :=
  let taken := c && (!rep || s.ctCell .txrpt != 0#32)
  let s1 := if rep then countDown s else s
  finish s (.ok () (if taken then s1.setPc (branchTarget s off) else advance s1))

/-- 41_core_gp_b.md R287. -/
def execNop (s : State) : Out := finish s (.ok () (advance s))

/-- 40_core_gp_a.md R247. -/
def execBranch (off : BitVec 19) (rep : Bool) (s : State) : Out := branchTo rep true off s

/-- 40_core_gp_a.md R248. -/
def execBranchCc (off : BitVec 19) (cc : BitVec 4) (rep : Bool) (s : State) : Out := branchTo rep (s.passes cc) off s

/-- 40_core_gp_a.md R249. -/
def execCallr (off : BitVec 19) (bu : BitVec 2) (rr : BitVec 3) (s : State) : Out :=
  finish s (.ok () ((writeReg s (baseUnit bu) (rr.setWidth 5) (s.th.pc + 4#32)).setPc (branchTarget s off)))

/-- 46_long_gp_a.md R465. -/
def execJump (rs : BitVec 5) (imm : BitVec 16) (bu : BitVec 2) (s : State) : Out :=
  finish s (.ok () (s.setPc (readReg s (baseUnit bu) rs 0 + imm.setWidth 32)))

/-- 46_long_gp_a.md R452. -/
def execCall (rs : BitVec 5) (imm : BitVec 16) (bu : BitVec 2) (s : State) : Out :=
  let u := baseUnit bu
  finish s (.ok () ((writeReg s u rs (s.th.pc + 4#32)).setPc (readReg s u rs 0 + imm.setWidth 32)))

end Sys2Proof.Machine
end

