-- ==== Sys2Proof/Machine/Move.lean ====
section
/-! DEFINITION. Moves between units, KICK, DEFR, the control and trace registers. -/

namespace Sys2Proof.Machine

/-- The units that count as one for SWAP (41_core_gp_b.md R297). -/
def controlUnit (u : BitVec 4) : Bool := u == 0#4 || u == 5#4 || u == 7#4 || u == 8#4

/-- A SWAP that its constraints forbid (41_core_gp_b.md R297). -/
def swapForbidden (us ud : BitVec 4) : Bool := us == ud || (controlUnit us && controlUnit ud)

/-- Move a value that has been read, if the condition holds. DESIGN CHOICE (entry 58): a read address port takes its
address from a source of any unit, although 40_core_gp_a.md R261 and 47_long_gp_b.md R496 list D and A registers only. -/
def moveUnit (c : Bool) (us : BitVec 4) (rs : BitVec 5) (ud : BitVec 4) (rd : BitVec 5) (s : State) : Out :=
  finish s ((readUnit s us rs 0).bind fun v s1 =>
    if c then writeUnit (advance s1) ud rd v else .ok () (advance s1))

/-- Exchange two registers, if the condition holds: a forbidden combination leaves both unspecified, each by a draw of
its own (41_core_gp_b.md R297). DESIGN CHOICE (entries 56, 64): the operands list no port; unit 6 is read and written here as a
move reads and writes it, so that RD gives up an entry and a number from 16 on issues the other value as an address. -/
def swapUnits (c : Bool) (us : BitVec 4) (rs : BitVec 5) (ud : BitVec 4) (rd : BitVec 5) (s : State) : Out :=
  if swapForbidden us ud then
    finish s.fresh (if c then (writeFree (advance s) ud rd 0).bind fun _ s1 => writeFree s1.fresh us rs 1
      else .ok () (advance s))
  else
    finish s ((readUnit s us rs 0).bind fun v s1 => (readUnit s1 ud rd 1).bind fun w s2 =>
      if c then (writeUnit (advance s2) ud rd v).bind fun _ s3 => writeUnit s3 us rs w else .ok () (advance s2))

/-- A transfer of RD to any register (10_state.md R77, 47_long_gp_b.md R495): the entry is consumed whatever the
condition. -/
def moveRd (sz : Size) (ud : BitVec 4) (rd : BitVec 5) (cc : BitVec 4) (s : State) : Out :=
  finish s ((rdPop s).bind fun e s1 =>
    if s.passes cc then writeUnit (advance s1) ud rd (lowWord (Size.trunc sz e)) else .ok () (advance s1))

/-- Write a pair: the low half into register `n1` of the unit, the high half into register `n2` of its partner. -/
def writePair (s : State) (u : BUnit) (n1 n2 : BitVec 5) (v : DWord) : State :=
  writeReg (writeReg s u n1 (lowWord v)) u.opp n2 (highWord v)

/-- The trigger level that a status or poll register belongs to (46_long_gp_a.md R460). -/
def triggerLevel (rs : BitVec 5) : Bool := !(rs == 0#5 || rs == 4#5)

/-- The source is one KICK and DEFR describe in the state they run in (46_long_gp_a.md R466, R460): TXSTAT or TXPOLL, or
TXSTATI or TXPOLLI at interrupt level. -/
def triggerSource (s : State) (rs : BitVec 5) : Bool :=
  rs == 0#5 || rs == 4#5 || ((rs == 2#5 || rs == 6#5) && s.th.istat)

/-- The value KICK returns, 46_long_gp_a.md R466. -/
def kickValue (s : State) (rs : BitVec 5) : Word :=
  if triggerSource s rs then
    BitVec.ofNat 32 ((s.th.kickCount - 1) * 65536) |||
      (if s.th.kickCount = 0 then 0#32 else (oneTrigger s.cfg.kickBit).setWidth 32)
  else Config.freeWord s.tick (.operand 0)

/-- The deferred state DEFR reads: a poll may still see what it was before the latest store (46_long_gp_a.md R460,
92_eei_decisions.md D36). -/
def deferredState (s : State) (rs : BitVec 5) : Word :=
  let level := triggerLevel rs
  if (rs == 4#5 || rs == 6#5) && Config.freeBit s.tick .defrPoll then
    (if level then s.th.txdefrPrev1 else s.th.txdefrPrev0)
  else s.th.txdefr level

/-- The value DEFR returns, 46_long_gp_a.md R460. -/
def defrValue (s : State) (rs : BitVec 5) : Word :=
  if triggerSource s rs then
    (deferredState s rs).extractLsb' 16 16 ++ s.th.active s.cfg.kickBit (triggerLevel rs)
  else Config.freeWord s.tick (.operand 0)

/-- DEFR of TXSTAT or TXSTATI clears the deferred state it read (46_long_gp_a.md R460). -/
def clearDeferred (s : State) (rs : BitVec 5) : State :=
  if rs == 0#5 || rs == 2#5 then
    let level := triggerLevel rs
    { s with th := s.th.setTxdefr level (((s.th.txdefr level).setWidth 16).setWidth 32) }
  else s

/-- 47_long_gp_b.md R495. -/
def execMovbRd (rd : BitVec 5) (ud : BitVec 4) (cc : BitVec 4) (s : State) : Out := moveRd .b ud rd cc s

/-- 47_long_gp_b.md R495. -/
def execMovwRd (rd : BitVec 5) (ud : BitVec 4) (cc : BitVec 4) (s : State) : Out := moveRd .w ud rd cc s

/-- 47_long_gp_b.md R495. -/
def execMovdRd (rd : BitVec 5) (ud : BitVec 4) (cc : BitVec 4) (s : State) : Out := moveRd .d ud rd cc s

/-- 49_trace_ops.md R552. -/
def execMovlTtrec (rs1 : BitVec 5) (rs2 : BitVec 5) (bu : BitVec 2) (cc : BitVec 4) (s : State) : Out :=
  let u := baseUnit bu
  let v := readReg s u.opp rs2 1 ++ readReg s u rs1 0
  finish s (.ok () (if s.passes cc then traceRecord (advance s) 64 v else advance s))

/-- 47_long_gp_b.md R494. -/
def execMovlRd (rd1 : BitVec 5) (rd2 : BitVec 5) (bu : BitVec 2) (cc : BitVec 4) (s : State) : Out :=
  finish s ((rdPop s).bind fun e s1 =>
    .ok () (if s.passes cc then writePair (advance s1) (baseUnit bu) rd1 rd2 e else advance s1))

/-- 49_trace_ops.md R551. -/
def execTtmov (rd : BitVec 5) (rs : BitVec 5) (us : BitVec 4) (ud : BitVec 4) (cc : BitVec 4) (s : State) : Out :=
  finish s ((readUnit s us rs 0).bind fun v s1 =>
    if s.passes cc then (writeUnit (advance s1) ud rd v).bind fun _ s2 => .ok () (traceRecord s2 32 (v.setWidth 64))
    else .ok () (advance s1))

/-- 46_long_gp_a.md R466. -/
def execKick (rd : BitVec 5) (rs : BitVec 5) (ud : BitVec 4) (cc : BitVec 4) (s : State) : Out :=
  if (rs == 0#5 || rs == 2#5) && s.th.kickCount == 0 then finish s (.block .trigger)
  else
    let v := kickValue s rs
    let s1 := (advance s).setKick (s.th.kickCount - 1)
    finish s (if s.passes cc then writeUnit s1 ud rd v else .ok () s1)

/-- 46_long_gp_a.md R460. -/
def execDefr (rd : BitVec 5) (rs : BitVec 5) (ud : BitVec 4) (cc : BitVec 4) (s : State) : Out :=
  let s1 := clearDeferred (advance s) rs
  finish s (if s.passes cc then writeUnit s1 ud rd (defrValue s rs) else .ok () s1)

/-- 41_core_gp_b.md R297. -/
def execSwap (rd : BitVec 5) (rs : BitVec 5) (us : BitVec 4) (ud : BitVec 4) (s : State) : Out :=
  swapUnits true us rs ud rd s

/-- 47_long_gp_b.md R502. -/
def execSwapCc (rd : BitVec 5) (rs : BitVec 5) (us : BitVec 4) (ud : BitVec 4) (cc : BitVec 4) (s : State) : Out :=
  swapUnits (s.passes cc) us rs ud rd s

/-- 40_core_gp_a.md R261. -/
def execMovUnit (rd : BitVec 5) (rs : BitVec 5) (us : BitVec 4) (ud : BitVec 4) (s : State) : Out :=
  moveUnit true us rs ud rd s

/-- 47_long_gp_b.md R496. -/
def execMovUnitCc (rd : BitVec 5) (rs : BitVec 5) (us : BitVec 4) (ud : BitVec 4) (cc : BitVec 4) (s : State) : Out :=
  moveUnit (s.passes cc) us rs ud rd s

/-- 47_long_gp_b.md R492. -/
def execMovCt (rd : BitVec 5) (imm : BitVec 16) (se : Bool) (h : Bool) (s : State) : Out :=
  finish s (.ok () (writeCt (advance s) rd (imm16 s imm se h)))

/-- 49_trace_ops.md R550. -/
def execMovTt (rd : BitVec 5) (imm : BitVec 16) (se : Bool) (h : Bool) (s : State) : Out :=
  finish s (.ok () (writeTt (advance s) rd (imm16 s imm se h)))

end Sys2Proof.Machine
end

