-- ==== Sys2Proof/Machine/Cache.lean ====
section
/-! DEFINITION. The cache operations (48_cache_ops.md). -/

namespace Sys2Proof.Machine

/-- The address of a cache operation, `[BBa.r+#S6]` with its own scale (48_cache_ops.md R530). -/
def cacheAddr (s : State) (bua : BitVec 2) (rb : BitVec 5) (imm : BitVec 6) (scale : Nat) : Word :=
  readReg s (baseUnit bua) rb 2 + imm.signExtend 32 * BitVec.ofNat 32 scale

/-- `AddrTrans`, 48_cache_ops.md R532: the address and the TLB flags of one translation, the one now or an older one
(20_memory.md R139); unspecified where the reserved address bits are set or the line has no translation, and the flags
where the translation gives none (entry 10). -/
def addrTrans (s : State) (a : Word) : Word × Word :=
  let free := (Config.freeWord s.tick (.dest 0), Config.freeWord s.tick (.dest 1))
  if a.extractLsb' 4 2 = 0#2 ∧ a.extractLsb' 0 3 = 0#3 then
    match s.translate 0 (line a) with
    | some pa => (pa, (lookupFlags (s.tableFor 0 (line a)) s.th.tid (a.getLsbD 3) (line a)).getD free.2)
    | none => free
  else free

/-- What a flush of the line of `a` ends (20_memory.md R136, R138, R139): with `ic` old bytes that a fetch may see, with
`dc` old bytes that a data access may see, with `tlb` old translations of the line. DESIGN CHOICE (entries 61, 62): of a
line without translation it ends what is at the physical line of the same number, and it ends the old translations of
the line for every thread. DESIGN CHOICE (entry 65): where a translation is not by whole lines, it ends the one physical
line that holds the translation of the first byte. -/
def flushLine (s : State) (a : Word) (ic dc tlb : Bool) : State :=
  let pl := line ((s.translate 0 (line a)).getD (line a))
  { s with
    icOld := if ic then s.icOld.filter fun c => line c.1 != pl else s.icOld
    dcOld := if dc then s.dcOld.filter fun c => line c.1 != pl else s.dcOld
    xlatOlds := if tlb then s.xlatOlds.map fun o => { o with flushed := line a :: o.flushed } else s.xlatOlds }

/-- CACHEW, 48_cache_ops.md R534, R535: bit 0 of the command is the cache, bit 1 ways or TLB; with reserved bits the kind
is unspecified. -/
def cacheCommand (s : State) (a d : Word) (sz : Size) : State :=
  if d.extractLsb' 2 6 = 0#6 then
    let ic := d.getLsbD 0
    let tlb := d.getLsbD 1
    (flushLine s a ic (!ic && !tlb) tlb).emit (.flush s.th.tid (.cache ic tlb) a (some sz))
  else s.emit (.flush s.th.tid .unspecified a (some sz))

/-- DCACHE, 48_cache_ops.md R538: data other than zero is reserved. -/
def lineCommand (s : State) (a d : Word) : State :=
  if d = 0#32 then (flushLine s a false true false).emit (.flush s.th.tid .dataLine (line a) none)
  else s.emit (.flush s.th.tid .unspecified (line a) none)

/-- Set the pending prefetch (10_state.md R81). -/
def setPrefetch (s : State) (p : Option PendingPrefetch) : State := { s with th := { s.th with icachePending := p } }

/-- 48_cache_ops.md R532. -/
def execCacherl (rd : BitVec 5) (rb : BitVec 5) (imm : BitVec 6) (bua : BitVec 2) (bur : BitVec 2)
    (s : State) : Out :=
  let (p, f) := addrTrans s (cacheAddr s bua rb imm 8)
  finish s (.ok () (writePair (advance s) (baseUnit bur) rd rd (f ++ p)))

/-- 48_cache_ops.md R533. -/
def execCacherd (rd : BitVec 5) (rb : BitVec 5) (imm : BitVec 6) (bua : BitVec 2) (bur : BitVec 2)
    (s : State) : Out :=
  let (p, _) := addrTrans s (cacheAddr s bua rb imm 4)
  finish s (.ok () (writeReg (advance s) (baseUnit bur) rd p))

/-- 48_cache_ops.md R534. -/
def execCachewl (rs : BitVec 5) (rb : BitVec 5) (imm : BitVec 6) (bua : BitVec 2) (bur : BitVec 2)
    (s : State) : Out :=
  finish s (.ok () (cacheCommand (advance s) (cacheAddr s bua rb imm 64) (readReg s (baseUnit bur) rs 0) .l))

/-- 48_cache_ops.md R535. -/
def execCachewd (rs : BitVec 5) (rb : BitVec 5) (imm : BitVec 6) (bua : BitVec 2) (bur : BitVec 2)
    (s : State) : Out :=
  finish s (.ok () (cacheCommand (advance s) (cacheAddr s bua rb imm 64) (readReg s (baseUnit bur) rs 0) .d))

/-- 48_cache_ops.md R538. -/
def execDcache (rs : BitVec 5) (rb : BitVec 5) (imm : BitVec 6) (bua : BitVec 2) (bur : BitVec 2) (s : State) : Out :=
  finish s (.ok () (lineCommand (advance s) (cacheAddr s bua rb imm 64) (readReg s (baseUnit bur) rs 0)))

/-- 48_cache_ops.md R537. -/
def execIcacheExit (pri : Bool) (s : State) : Out :=
  finish s (.ok () (setPrefetch ((advance s).emit (.prefetch s.th.tid s.th.pc 0#4 pri)) none))

/-- 48_cache_ops.md R536. -/
def execIcache (off : BitVec 15) (count : BitVec 4) (pri : Bool) (s : State) : Out :=
  let a := s.th.pc + off.signExtend 32 * 64#32
  let p : PendingPrefetch := { addr := a, count := count, pri := pri }
  finish s (.ok () (setPrefetch ((advance s).emit (.prefetch s.th.tid a count pri)) (some p)))

end Sys2Proof.Machine
end

