-- ==== Sys2Proof/Machine/Compare.lean ====
section
/-! DEFINITION. The comparisons CMP and TST. -/

namespace Sys2Proof.Machine

/-- The flags of CMP (false, 40_core_gp_a.md R250) and TST (true, 41_core_gp_b.md R299). -/
def cmpFlags (tst : Bool) (tick : Nat) (a b : Word) : Flags :=
  if tst then logicFlags tick (a &&& b) else subFlags a b

/-- Register form, 30_encoding.md R204. -/
def cmpReg (tst du : Bool) (rs1 rs2 : BitVec 5) (s : State) : Out :=
  let u := dataUnit du
  finish s (.ok () ((advance s).setFlags (cmpFlags tst s.tick (readReg s u rs1 0) (readReg s u rs2 1))))

/-- Register form with operand 2 replaced. -/
def cmpRep (tst du : Bool) (rs1 : BitVec 5) (osel : BitVec 2) (oreg : BitVec 3) (s : State) : Out :=
  let u := dataUnit du
  finish s ((readO2R s u osel oreg 1).bind fun b s1 =>
    .ok () ((advance s1).setFlags (cmpFlags tst s1.tick (readReg s1 u rs1 0) b)))

/-- Immediate form. -/
def cmpImm (tst du : Bool) (rs : BitVec 5) (b : Word) (s : State) : Out :=
  finish s (.ok () ((advance s).setFlags (cmpFlags tst s.tick (readReg s (dataUnit du) rs 0) b)))

/-- Conditional register form. -/
def cmpRegC (tst du : Bool) (rs1 rs2 : BitVec 5) (cc : BitVec 4) (s : State) : Out :=
  let u := dataUnit du
  finish s (.ok () (setFlagsIf (s.passes cc) (cmpFlags tst s.tick (readReg s u rs1 0) (readReg s u rs2 1)) (advance s)))

/-- Conditional form with operand 2 replaced. -/
def cmpRepC (tst du : Bool) (rs1 : BitVec 5) (osel : BitVec 2) (oreg : BitVec 3) (cc : BitVec 4) (s : State) : Out :=
  let u := dataUnit du
  finish s ((readO2R s u osel oreg 1).bind fun b s1 =>
    .ok () (setFlagsIf (s1.passes cc) (cmpFlags tst s1.tick (readReg s1 u rs1 0) b) (advance s1)))

/-- Conditional 8-bit immediate form. -/
def cmpImmC (tst du : Bool) (rs : BitVec 5) (imm : BitVec 8) (cc : BitVec 4) (s : State) : Out :=
  let a := readReg s (dataUnit du) rs 0
  finish s (.ok () (setFlagsIf (s.passes cc) (cmpFlags tst s.tick a (imm.setWidth 32)) (advance s)))

/-- 40_core_gp_a.md R250. -/
def execCmpRR (du : Bool) (rs1 : BitVec 5) (rs2 : BitVec 5) (s : State) : Out := cmpReg false du rs1 rs2 s

/-- 40_core_gp_a.md R254. -/
def execCmpRX (du : Bool) (rs1 : BitVec 5) (osel : BitVec 2) (oreg : BitVec 3) (s : State) : Out :=
  cmpRep false du rs1 osel oreg s

/-- 40_core_gp_a.md R251. -/
def execCmpI16 (du : Bool) (rs : BitVec 5) (imm : BitVec 16) (m : Bool) (se : Bool) (h : Bool) (s : State) : Out :=
  cmpImm false du rs (immM s imm m se h) s

/-- 42_extended_gp_a.md R336. -/
def execCmpCR (du : Bool) (rs1 : BitVec 5) (rs2 : BitVec 5) (cc : BitVec 4) (s : State) : Out :=
  cmpRegC false du rs1 rs2 cc s

/-- 42_extended_gp_a.md R337. -/
def execCmpCX (du : Bool) (rs1 : BitVec 5) (osel : BitVec 2) (oreg : BitVec 3) (cc : BitVec 4) (s : State) : Out :=
  cmpRepC false du rs1 osel oreg cc s

/-- 42_extended_gp_a.md R338. -/
def execCmpCX8 (du : Bool) (rs : BitVec 5) (imm : BitVec 8) (cc : BitVec 4) (s : State) : Out :=
  cmpImmC false du rs imm cc s

/-- 41_core_gp_b.md R299. -/
def execTstRR (du : Bool) (rs1 : BitVec 5) (rs2 : BitVec 5) (s : State) : Out := cmpReg true du rs1 rs2 s

/-- 41_core_gp_b.md R301. -/
def execTstRX (du : Bool) (rs1 : BitVec 5) (osel : BitVec 2) (oreg : BitVec 3) (s : State) : Out :=
  cmpRep true du rs1 osel oreg s

/-- 41_core_gp_b.md R300. -/
def execTstI16 (du : Bool) (rs : BitVec 5) (imm : BitVec 16) (m : Bool) (se : Bool) (h : Bool) (s : State) : Out :=
  cmpImm true du rs (immM s imm m se h) s

/-- 43_extended_gp_b.md R396. -/
def execTstCR (du : Bool) (rs1 : BitVec 5) (rs2 : BitVec 5) (cc : BitVec 4) (s : State) : Out :=
  cmpRegC true du rs1 rs2 cc s

/-- 43_extended_gp_b.md R397. -/
def execTstCX (du : Bool) (rs1 : BitVec 5) (osel : BitVec 2) (oreg : BitVec 3) (cc : BitVec 4) (s : State) : Out :=
  cmpRepC true du rs1 osel oreg cc s

/-- 43_extended_gp_b.md R398. -/
def execTstCX8 (du : Bool) (rs : BitVec 5) (imm : BitVec 8) (cc : BitVec 4) (s : State) : Out :=
  cmpImmC true du rs imm cc s

end Sys2Proof.Machine
end

