-- ==== Sys2Proof/WellFormed.lean ====
section
/-! DEFINITION. Which terms of `Instr` are instructions: a term whose word belongs to an earlier, narrower row of
spec/opcode_table.json is not one (30_encoding.md R218), and the two rows without bit positions have no word (R217). -/

namespace Sys2Proof

/-- The term is the reading of some word: each condition excludes the words of a narrower row that comes first in the
 table (30_encoding.md R209, R210, R213, R216, R218). -/
def Instr.wellFormed : Instr → Bool
  | .addRR _ _ _ _ _ => true
  | .addRX _ _ _ _ _ _ => true
  | .movRR _ _ _ _ => true
  | .movRX _ _ _ _ _ => true
  | .addI16 _ _ _ _ _ _ => true
  | .movI16 _ _ _ _ _ _ => true
  | .addCR _ _ _ _ _ _ _ => true
  | .addCX _ _ _ _ _ _ _ _ => true
  | .addUX8 _ _ _ _ _ _ => true
  | .addCX8 _ _ _ _ _ _ => true
  | .subRR _ _ _ _ _ => true
  | .subRX _ _ _ _ _ _ => true
  | .negRR _ _ _ _ => true
  | .negRX _ _ _ _ _ => true
  | .subI16 _ _ _ _ _ _ => true
  | .negI16 _ _ _ _ _ _ => true
  | .subCR _ _ _ _ _ _ _ => true
  | .subCX _ _ _ _ _ _ _ _ => true
  | .subUX8 _ _ _ _ _ _ => true
  | .subCX8 _ _ _ _ _ _ => true
  | .andRR _ _ _ _ _ => true
  | .andRX _ _ _ _ _ _ => true
  | .andI16 _ _ _ _ _ _ _ => true
  | .andCR _ _ _ _ _ _ _ => true
  | .andCX _ _ _ _ _ _ _ _ => true
  | .andUX8 _ _ _ _ _ _ => true
  | .andCX8 _ _ _ _ _ _ => true
  | .orRR _ _ _ _ _ => true
  | .orRX _ _ _ _ _ _ => true
  | .orI16 _ _ _ _ _ _ _ => true
  | .orCR _ _ _ _ _ _ _ => true
  | .orCX _ _ _ _ _ _ _ _ => true
  | .orUX8 _ _ _ _ _ _ => true
  | .orCX8 _ _ _ _ _ _ => true
  | .xorRR _ _ _ _ _ => true
  | .xorRX _ _ _ _ _ _ => true
  | .xorI16 _ _ _ _ _ _ _ => true
  | .xorCR _ _ _ _ _ _ _ => true
  | .xorCX _ _ _ _ _ _ _ _ => true
  | .xorUX8 _ _ _ _ _ _ => true
  | .xorCX8 _ _ _ _ _ _ => true
  | .addARR _ _ _ _ _ _ => true
  | .addARX _ _ _ _ _ _ => true
  | .movARR _ _ _ _ => true
  | .movARX _ _ _ _ => true
  | .addAI16 _ _ _ _ _ _ => true
  | .movAI16 _ _ _ _ _ _ => true
  | .addACR _ _ _ _ _ _ _ _ => true
  | .addACX _ _ _ _ _ _ _ _ => true
  | .addAUX8 _ _ _ _ _ _ => true
  | .addACX8 _ _ _ _ _ _ => true
  | .subARR _ _ _ _ _ _ => true
  | .subARX _ _ _ _ _ _ => true
  | .negARR _ _ _ _ => true
  | .negARX _ _ _ _ => true
  | .subAI16 _ _ _ _ _ _ => true
  | .negAI16 _ _ _ _ _ _ => true
  | .subACR _ _ _ _ _ _ _ _ => true
  | .subACX _ _ _ _ _ _ _ _ => true
  | .subAUX8 _ _ _ _ _ _ => true
  | .subACX8 _ _ _ _ _ _ => true
  | .lslRR _ _ _ _ _ => true
  | .lslI5 _ _ _ _ _ => true
  | .lslUR _ _ _ _ _ _ => true
  | .lslUI5 _ _ _ _ _ _ => true
  | .lslCR _ _ _ _ _ _ => true
  | .lslCI5 _ _ _ _ _ _ => true
  | .lsrRR _ _ _ _ _ => true
  | .lsrI5 _ _ _ _ _ => true
  | .lsrUR _ _ _ _ _ _ => true
  | .lsrUI5 _ _ _ _ _ _ => true
  | .lsrCR _ _ _ _ _ _ => true
  | .lsrCI5 _ _ _ _ _ _ => true
  | .aslRR _ _ _ _ _ => true
  | .aslI5 _ _ _ _ _ => true
  | .aslUR _ _ _ _ _ _ => true
  | .aslUI5 _ _ _ _ _ _ => true
  | .aslCR _ _ _ _ _ _ => true
  | .aslCI5 _ _ _ _ _ _ => true
  | .asrRR _ _ _ _ _ => true
  | .asrI5 _ _ _ _ _ => true
  | .asrUR _ _ _ _ _ _ => true
  | .asrUI5 _ _ _ _ _ _ => true
  | .asrCR _ _ _ _ _ _ => true
  | .asrCI5 _ _ _ _ _ _ => true
  | .mulwRR _ _ _ _ => true
  | .mulwRX _ _ _ _ _ => true
  | .mulwI16 _ _ _ _ _ => true
  | .mulwUR _ _ _ _ _ => true
  | .mulwUX _ _ _ _ _ _ => true
  | .mulwUX8 _ _ _ _ _ => true
  | .mulwCR _ _ _ _ _ => true
  | .mulwCX _ _ _ _ _ _ => true
  | .mulwCX8 _ _ _ _ _ => true
  | .muldRR _ _ _ _ => true
  | .muldRX _ _ _ _ _ => true
  | .muldI16 _ _ _ _ _ => true
  | .muldUR _ _ _ _ _ => true
  | .muldUX _ _ _ _ _ _ => true
  | .muldUX8 _ _ _ _ _ => true
  | .muldCR _ _ _ _ _ => true
  | .muldCX _ _ _ _ _ _ => true
  | .muldCX8 _ _ _ _ _ => true
  | .absRR _ _ _ => true
  | .ffbRR _ _ _ => true
  | .maxRR _ _ _ _ => true
  | .minRR _ _ _ _ => true
  | .mortRR _ _ _ _ => true
  | .mortRX _ _ _ _ _ => true
  | .nminRR _ _ _ _ => true
  | .normRR _ _ _ => true
  | .vpackRR _ _ _ _ => true
  | .vpackRX _ _ _ _ _ => true
  | .cmpRR _ _ _ => true
  | .cmpRX _ _ _ _ => true
  | .cmpI16 _ _ _ _ _ _ => true
  | .cmpCR _ _ _ _ => true
  | .cmpCX _ _ _ _ _ => true
  | .cmpCX8 _ _ _ _ => true
  | .tstRR _ _ _ => true
  | .tstRX _ _ _ _ => true
  | .tstI16 _ _ _ _ _ _ => true
  | .tstCR _ _ _ _ => true
  | .tstCX _ _ _ _ _ => true
  | .tstCX8 _ _ _ _ => true
  | .nop => true
  | .branch _ _ => true
  | .branchCc off cc rep => cc != 0#4 && !(off == 0x7FFFF#19 && cc == 15#4 && !rep)
  | .movbRd _ _ _ => true
  | .movwRd _ _ _ => true
  | .movdRd _ _ _ => true
  | .cprbUnit _ _ _ _ => true
  | .cprwUnit _ _ _ _ => true
  | .cprdUnit _ _ _ _ => true
  | .movlTtrec _ _ _ _ => true
  | .movlRd _ _ _ _ => true
  | .cprlPair _ _ _ _ _ => true
  | .rti => true
  | .rth => true
  | .ttmov rd rs us ud cc => !(rs == 31#5 && us == 15#4 && ud == 15#4 && cc == 15#4 && (rd == 31#5 || rd == 15#5))
  | .kick _ _ _ _ => true
  | .defr _ _ _ _ => true
  | .swap _ _ us _ => us != 0#4 && us != 8#4
  | .swapCc _ _ us _ cc => us != 0#4 && us != 8#4 && cc != 0#4
  | .movUnit _ _ _ _ => true
  | .movUnitCc _ _ _ _ cc => cc != 0#4
  | .cprbMemCc _ _ _ _ => true
  | .cprwMemCc _ _ _ _ => true
  | .cprdMemCc _ _ _ _ => true
  | .cprlMemCc _ _ _ _ => true
  | .setbCc _ _ us _ _ => us != 6#4
  | .setwCc _ _ us _ _ => us != 6#4
  | .setdCc _ _ us _ _ => us != 6#4
  | .setlCc _ _ us _ _ => us != 6#4
  | .lnksetb _ _ _ _ _ => true
  | .lnksetw _ _ _ _ _ => true
  | .lnksetd _ _ _ _ _ => true
  | .lnksetl _ _ _ _ _ => true
  | .setbS12 _ _ _ _ _ => true
  | .setwS12 _ _ _ _ _ => true
  | .setdS12 _ _ _ _ _ => true
  | .setlS12 _ _ _ _ _ => true
  | .movbRaS12 _ _ _ _ => true
  | .movwRaS12 _ _ _ _ => true
  | .movdRaS12 _ _ _ _ => true
  | .movlRaS12 _ _ _ _ => true
  | .getbS12 _ _ _ _ _ => true
  | .getwS12 _ _ _ _ _ => true
  | .getdS12 _ _ _ _ _ => true
  | .getlS12 _ _ _ _ _ => true
  | .lock0 => true
  | .lock1 => true
  | .lock2 => true
  | .movCt _ _ _ _ => true
  | .movTt _ _ _ _ => true
  | .xsdb _ _ _ _ => true
  | .xsdw _ _ _ _ => true
  | .bexd _ _ _ _ => true
  | .bexl _ _ _ _ => true
  | .rtdw _ _ _ _ => true
  | .callr _ _ _ => true
  | .jump _ _ _ => true
  | .call _ _ _ => true
  | .lnkgetb _ _ _ _ => true
  | .lnkgetw _ _ _ _ => true
  | .lnkgetd _ _ _ _ => true
  | .lnkgetl _ _ _ _ => true
  | .cacherl _ _ _ _ _ => true
  | .cacherd _ _ _ _ _ => true
  | .cachewl _ _ _ _ _ => true
  | .cachewd _ _ _ _ _ => true
  | .dcache _ _ _ _ _ => true
  | .icacheExit _ => true
  | .icache off count _ => !(off == 0#15 && count == 0#4)
  | .switch _ => true
  | .cprbMemR _ _ _ _ _ _ => true
  | .cprbMemI6 _ _ _ _ _ _ => true
  | .cprwMemR _ _ _ _ _ _ => true
  | .cprwMemI6 _ _ _ _ _ _ => true
  | .cprdMemR _ _ _ _ _ _ => true
  | .cprdMemI6 _ _ _ _ _ _ => true
  | .cprlMemR _ _ _ _ _ _ => true
  | .cprlMemI6 _ _ _ _ _ _ => true
  | .setdShort _ _ _ _ us _ => us != 6#4
  | .setbR _ _ _ _ _ us _ => us != 6#4
  | .setbI6 _ _ _ _ _ us _ => us != 6#4
  | .setwR _ _ _ _ _ us _ => us != 6#4
  | .setwI6 _ _ _ _ _ us _ => us != 6#4
  | .setdR _ _ _ _ _ us _ => us != 6#4
  | .setdI6 _ _ _ _ bu us _ => bu != 3#2 && us != 6#4
  | .setlR _ _ _ _ _ us _ => us != 6#4
  | .setlI6 _ _ _ _ _ us _ => us != 6#4
  | .msetd _ _ _ _ _ => true
  | .msetl _ _ _ _ _ => true
  | .movbRaR _ _ _ _ _ _ => true
  | .movbRaI6 _ _ _ _ _ _ => true
  | .movwRaR _ _ _ _ _ _ => true
  | .movwRaI6 _ _ _ _ _ _ => true
  | .movdRaR _ _ _ _ _ _ => true
  | .movdRaI6 _ _ _ _ _ _ => true
  | .movlRaR _ _ _ _ _ _ => true
  | .movlRaI6 _ _ _ _ _ _ => true
  | .getdShort _ _ _ _ ud _ => ud != 6#4
  | .getbR _ _ _ _ _ ud _ => ud != 6#4
  | .getbI6 _ _ _ _ _ ud _ => ud != 6#4
  | .getwR _ _ _ _ _ ud _ => ud != 6#4
  | .getwI6 _ _ _ _ _ ud _ => ud != 6#4
  | .getdR _ _ _ _ _ ud _ => ud != 6#4
  | .getdI6 _ _ _ _ bu ud _ => bu != 3#2 && ud != 6#4
  | .getlR _ _ _ _ _ ud _ => ud != 6#4
  | .getlI6 _ _ _ _ _ ud _ => ud != 6#4
  | .mgetd _ _ _ _ _ => true
  | .mgetl _ _ _ _ _ => true
  | .mmovdRa _ _ _ _ => true
  | .mmovlRa _ _ _ _ => true
  | .mdrd _ => true
  | .mmovdRd _ _ _ => true
  | .mmovlRd _ _ _ => true
  | .cprdr0 _ _ _ _ _ => true
  | .cprdr1 _ _ _ _ _ => true
  | .cprdr2 _ _ _ _ _ => true
  | .cprdr3 _ _ _ _ _ => true
  | .cprlr0 _ _ _ _ _ => true
  | .cprlr1 _ _ _ _ _ => true
  | .cprlr2 _ _ _ _ _ => true
  | .cprlr3 _ _ _ _ _ => true
  | .xfrd01 _ _ _ _ _ _ _ => true
  | .xfrd02 _ _ _ _ _ _ _ => true
  | .xfrd03 _ _ _ _ _ _ _ => true
  | .xfrd10 _ _ _ _ _ _ _ => true
  | .xfrd12 _ _ _ _ _ _ _ => true
  | .xfrd13 _ _ _ _ _ _ _ => true
  | .xfrd20 _ _ _ _ _ _ _ => true
  | .xfrd21 _ _ _ _ _ _ _ => true
  | .xfrd23 _ _ _ _ _ _ _ => true
  | .xfrd30 _ _ _ _ _ _ _ => true
  | .xfrd31 _ _ _ _ _ _ _ => true
  | .xfrd32 _ _ _ _ _ _ _ => true
  | .xfrl01 _ _ _ _ _ _ _ => true
  | .xfrl02 _ _ _ _ _ _ _ => true
  | .xfrl03 _ _ _ _ _ _ _ => true
  | .xfrl10 _ _ _ _ _ _ _ => true
  | .xfrl12 _ _ _ _ _ _ _ => true
  | .xfrl13 _ _ _ _ _ _ _ => true
  | .xfrl20 _ _ _ _ _ _ _ => true
  | .xfrl21 _ _ _ _ _ _ _ => true
  | .xfrl23 _ _ _ _ _ _ _ => true
  | .xfrl30 _ _ _ _ _ _ _ => true
  | .xfrl31 _ _ _ _ _ _ _ => true
  | .xfrl32 _ _ _ _ _ _ _ => true
  | .cpxl _ _ _ => true
  | .cpwlRR _ _ _ _ => true
  | .cpwlRI _ _ _ _ => true
  | .cpwlMemR _ _ _ _ _ _ _ => true
  | .cpwlMemI8 _ _ _ _ _ _ _ => true
  | .movr _ => false
  | .swapr _ => false

end Sys2Proof
end

