-- ==== Sys2Proof/Decode.lean ====
section
/-! DEFINITION. The decoder, total on any word, and the encoder. Both follow the formats of 30_encoding.md R200 to R217 and
the masks, matches and fields of spec/opcode_table.json; the rows of a group are tried in the order of the table (R218).
The compiled runtime of Lean numbers no more than 244 constructors with fields, and the table has more rows, so what builds
the last ones is not compiled (noncomputable); the kernel evaluates it. -/

namespace Sys2Proof

/-- `w[lo+n-1:lo]` as a number (30_encoding.md R158). -/
def bits (w lo n : Nat) : Nat := w / 2 ^ lo % 2 ^ n

/-- `w[lo+n-1:lo]` as a field of an instruction. -/
def fld (w lo n : Nat) : BitVec n := BitVec.ofNat n (bits w lo n)

/-- `w[lo]`. -/
def bit (w lo : Nat) : Bool := bits w lo 1 == 1

/-- ADD and MOV, primary opcode 0x0: C and I select the form (30_encoding.md R218). -/
def decodeAdd (w : Nat) : Option Instr :=
  match bits w 25 2 with
  | 0 =>
    if bits w 0 9 = 0 then some (.addRR (bit w 27) (bit w 24) (fld w 19 5) (fld w 14 5) (fld w 9 5))
    else if bits w 0 9 = 1 then some (.addRX (bit w 27) (bit w 24) (fld w 19 5) (fld w 14 5) (fld w 12 2) (fld w 9 3))
    else if bits w 0 9 = 4 then some (.movRR (bit w 27) (bit w 24) (fld w 19 5) (fld w 9 5))
    else if bits w 0 9 = 5 then some (.movRX (bit w 27) (bit w 24) (fld w 19 5) (fld w 12 2) (fld w 9 3))
    else none
  | 1 =>
    if bits w 2 1 = 0 then some (.addI16 (bit w 27) (bit w 24) (fld w 19 5) (fld w 3 16) (bit w 1) (bit w 0))
    else if bits w 2 1 = 1 then some (.movI16 (bit w 27) (bit w 24) (fld w 19 5) (fld w 3 16) (bit w 1) (bit w 0))
    else none
  | 2 =>
    if bits w 0 1 = 0 then some (.addCR (bit w 27) (bit w 24) (fld w 19 5) (fld w 14 5) (fld w 9 5) (fld w 5 4) (fld w 1 4))
    else if bits w 0 1 = 1 then some (.addCX (bit w 27) (bit w 24) (fld w 19 5) (fld w 14 5) (fld w 12 2) (fld w 9 3) (fld w 5 4) (fld w 1 4))
    else none
  | _ =>
    if bits w 0 1 = 0 ∧ bits w 5 1 = 1 then some (.addUX8 (bit w 27) (bit w 24) (fld w 19 5) (fld w 14 5) (fld w 6 8) (fld w 1 4))
    else if bits w 0 1 = 0 ∧ bits w 5 1 = 0 then some (.addCX8 (bit w 27) (bit w 24) (fld w 19 5) (fld w 14 5) (fld w 6 8) (fld w 1 4))
    else none

/-- SUB and NEG, primary opcode 0x1: C and I select the form (30_encoding.md R218). -/
def decodeSub (w : Nat) : Option Instr :=
  match bits w 25 2 with
  | 0 =>
    if bits w 0 9 = 0 then some (.subRR (bit w 27) (bit w 24) (fld w 19 5) (fld w 14 5) (fld w 9 5))
    else if bits w 0 9 = 1 then some (.subRX (bit w 27) (bit w 24) (fld w 19 5) (fld w 14 5) (fld w 12 2) (fld w 9 3))
    else if bits w 0 9 = 4 then some (.negRR (bit w 27) (bit w 24) (fld w 19 5) (fld w 9 5))
    else if bits w 0 9 = 5 then some (.negRX (bit w 27) (bit w 24) (fld w 19 5) (fld w 12 2) (fld w 9 3))
    else none
  | 1 =>
    if bits w 2 1 = 0 then some (.subI16 (bit w 27) (bit w 24) (fld w 19 5) (fld w 3 16) (bit w 1) (bit w 0))
    else if bits w 2 1 = 1 then some (.negI16 (bit w 27) (bit w 24) (fld w 19 5) (fld w 3 16) (bit w 1) (bit w 0))
    else none
  | 2 =>
    if bits w 0 1 = 0 then some (.subCR (bit w 27) (bit w 24) (fld w 19 5) (fld w 14 5) (fld w 9 5) (fld w 5 4) (fld w 1 4))
    else if bits w 0 1 = 1 then some (.subCX (bit w 27) (bit w 24) (fld w 19 5) (fld w 14 5) (fld w 12 2) (fld w 9 3) (fld w 5 4) (fld w 1 4))
    else none
  | _ =>
    if bits w 0 1 = 0 ∧ bits w 5 1 = 1 then some (.subUX8 (bit w 27) (bit w 24) (fld w 19 5) (fld w 14 5) (fld w 6 8) (fld w 1 4))
    else if bits w 0 1 = 0 ∧ bits w 5 1 = 0 then some (.subCX8 (bit w 27) (bit w 24) (fld w 19 5) (fld w 14 5) (fld w 6 8) (fld w 1 4))
    else none

/-- AND, primary opcode 0x2: C and I select the form (30_encoding.md R218). -/
def decodeAnd (w : Nat) : Option Instr :=
  match bits w 25 2 with
  | 0 =>
    if bits w 0 9 = 0 then some (.andRR (bit w 27) (bit w 24) (fld w 19 5) (fld w 14 5) (fld w 9 5))
    else if bits w 0 9 = 1 then some (.andRX (bit w 27) (bit w 24) (fld w 19 5) (fld w 14 5) (fld w 12 2) (fld w 9 3))
    else none
  | 1 =>
    some (.andI16 (bit w 27) (bit w 24) (fld w 19 5) (fld w 3 16) (bit w 2) (bit w 1) (bit w 0))
  | 2 =>
    if bits w 0 1 = 0 then some (.andCR (bit w 27) (bit w 24) (fld w 19 5) (fld w 14 5) (fld w 9 5) (fld w 5 4) (fld w 1 4))
    else if bits w 0 1 = 1 then some (.andCX (bit w 27) (bit w 24) (fld w 19 5) (fld w 14 5) (fld w 12 2) (fld w 9 3) (fld w 5 4) (fld w 1 4))
    else none
  | _ =>
    if bits w 5 1 = 1 then some (.andUX8 (bit w 27) (bit w 24) (fld w 19 5) (fld w 14 5) (fld w 6 8) (fld w 1 4))
    else if bits w 5 1 = 0 then some (.andCX8 (bit w 27) (bit w 24) (fld w 19 5) (fld w 14 5) (fld w 6 8) (fld w 1 4))
    else none

/-- OR, primary opcode 0x3: C and I select the form (30_encoding.md R218). -/
def decodeOr (w : Nat) : Option Instr :=
  match bits w 25 2 with
  | 0 =>
    if bits w 0 9 = 0 then some (.orRR (bit w 27) (bit w 24) (fld w 19 5) (fld w 14 5) (fld w 9 5))
    else if bits w 0 9 = 1 then some (.orRX (bit w 27) (bit w 24) (fld w 19 5) (fld w 14 5) (fld w 12 2) (fld w 9 3))
    else none
  | 1 =>
    some (.orI16 (bit w 27) (bit w 24) (fld w 19 5) (fld w 3 16) (bit w 2) (bit w 1) (bit w 0))
  | 2 =>
    if bits w 0 1 = 0 then some (.orCR (bit w 27) (bit w 24) (fld w 19 5) (fld w 14 5) (fld w 9 5) (fld w 5 4) (fld w 1 4))
    else if bits w 0 1 = 1 then some (.orCX (bit w 27) (bit w 24) (fld w 19 5) (fld w 14 5) (fld w 12 2) (fld w 9 3) (fld w 5 4) (fld w 1 4))
    else none
  | _ =>
    if bits w 5 1 = 1 then some (.orUX8 (bit w 27) (bit w 24) (fld w 19 5) (fld w 14 5) (fld w 6 8) (fld w 1 4))
    else if bits w 5 1 = 0 then some (.orCX8 (bit w 27) (bit w 24) (fld w 19 5) (fld w 14 5) (fld w 6 8) (fld w 1 4))
    else none

/-- XOR, primary opcode 0x4: C and I select the form (30_encoding.md R218). -/
def decodeXor (w : Nat) : Option Instr :=
  match bits w 25 2 with
  | 0 =>
    if bits w 0 9 = 0 then some (.xorRR (bit w 27) (bit w 24) (fld w 19 5) (fld w 14 5) (fld w 9 5))
    else if bits w 0 9 = 1 then some (.xorRX (bit w 27) (bit w 24) (fld w 19 5) (fld w 14 5) (fld w 12 2) (fld w 9 3))
    else none
  | 1 =>
    some (.xorI16 (bit w 27) (bit w 24) (fld w 19 5) (fld w 3 16) (bit w 2) (bit w 1) (bit w 0))
  | 2 =>
    if bits w 0 1 = 0 then some (.xorCR (bit w 27) (bit w 24) (fld w 19 5) (fld w 14 5) (fld w 9 5) (fld w 5 4) (fld w 1 4))
    else if bits w 0 1 = 1 then some (.xorCX (bit w 27) (bit w 24) (fld w 19 5) (fld w 14 5) (fld w 12 2) (fld w 9 3) (fld w 5 4) (fld w 1 4))
    else none
  | _ =>
    if bits w 5 1 = 1 then some (.xorUX8 (bit w 27) (bit w 24) (fld w 19 5) (fld w 14 5) (fld w 6 8) (fld w 1 4))
    else if bits w 5 1 = 0 then some (.xorCX8 (bit w 27) (bit w 24) (fld w 19 5) (fld w 14 5) (fld w 6 8) (fld w 1 4))
    else none

/-- The shifts, primary opcode 0x5: C and I select the form (30_encoding.md R218). -/
def decodeShift (w : Nat) : Option Instr :=
  match bits w 25 2 with
  | 0 =>
    if bits w 0 9 = 0 then some (.lslRR (bit w 27) (bit w 24) (fld w 19 5) (fld w 14 5) (fld w 9 5))
    else if bits w 0 9 = 64 then some (.lsrRR (bit w 27) (bit w 24) (fld w 19 5) (fld w 14 5) (fld w 9 5))
    else if bits w 0 9 = 128 then some (.aslRR (bit w 27) (bit w 24) (fld w 19 5) (fld w 14 5) (fld w 9 5))
    else if bits w 0 9 = 192 then some (.asrRR (bit w 27) (bit w 24) (fld w 19 5) (fld w 14 5) (fld w 9 5))
    else none
  | 1 =>
    if bits w 0 9 = 0 then some (.lslI5 (bit w 27) (bit w 24) (fld w 19 5) (fld w 14 5) (fld w 9 5))
    else if bits w 0 9 = 64 then some (.lsrI5 (bit w 27) (bit w 24) (fld w 19 5) (fld w 14 5) (fld w 9 5))
    else if bits w 0 9 = 128 then some (.aslI5 (bit w 27) (bit w 24) (fld w 19 5) (fld w 14 5) (fld w 9 5))
    else if bits w 0 9 = 192 then some (.asrI5 (bit w 27) (bit w 24) (fld w 19 5) (fld w 14 5) (fld w 9 5))
    else none
  | 2 =>
    if bits w 0 1 = 0 ∧ bits w 5 4 = 1 then some (.lslUR (bit w 27) (bit w 24) (fld w 19 5) (fld w 14 5) (fld w 9 5) (fld w 1 4))
    else if bits w 0 1 = 0 ∧ bits w 5 4 = 0 then some (.lslCR (bit w 27) (bit w 24) (fld w 19 5) (fld w 14 5) (fld w 9 5) (fld w 1 4))
    else if bits w 0 1 = 0 ∧ bits w 5 4 = 3 then some (.lsrUR (bit w 27) (bit w 24) (fld w 19 5) (fld w 14 5) (fld w 9 5) (fld w 1 4))
    else if bits w 0 1 = 0 ∧ bits w 5 4 = 2 then some (.lsrCR (bit w 27) (bit w 24) (fld w 19 5) (fld w 14 5) (fld w 9 5) (fld w 1 4))
    else if bits w 0 1 = 0 ∧ bits w 5 4 = 5 then some (.aslUR (bit w 27) (bit w 24) (fld w 19 5) (fld w 14 5) (fld w 9 5) (fld w 1 4))
    else if bits w 0 1 = 0 ∧ bits w 5 4 = 4 then some (.aslCR (bit w 27) (bit w 24) (fld w 19 5) (fld w 14 5) (fld w 9 5) (fld w 1 4))
    else if bits w 0 1 = 0 ∧ bits w 5 4 = 7 then some (.asrUR (bit w 27) (bit w 24) (fld w 19 5) (fld w 14 5) (fld w 9 5) (fld w 1 4))
    else if bits w 0 1 = 0 ∧ bits w 5 4 = 6 then some (.asrCR (bit w 27) (bit w 24) (fld w 19 5) (fld w 14 5) (fld w 9 5) (fld w 1 4))
    else none
  | _ =>
    if bits w 0 1 = 0 ∧ bits w 5 4 = 1 then some (.lslUI5 (bit w 27) (bit w 24) (fld w 19 5) (fld w 14 5) (fld w 9 5) (fld w 1 4))
    else if bits w 0 1 = 0 ∧ bits w 5 4 = 0 then some (.lslCI5 (bit w 27) (bit w 24) (fld w 19 5) (fld w 14 5) (fld w 9 5) (fld w 1 4))
    else if bits w 0 1 = 0 ∧ bits w 5 4 = 3 then some (.lsrUI5 (bit w 27) (bit w 24) (fld w 19 5) (fld w 14 5) (fld w 9 5) (fld w 1 4))
    else if bits w 0 1 = 0 ∧ bits w 5 4 = 2 then some (.lsrCI5 (bit w 27) (bit w 24) (fld w 19 5) (fld w 14 5) (fld w 9 5) (fld w 1 4))
    else if bits w 0 1 = 0 ∧ bits w 5 4 = 5 then some (.aslUI5 (bit w 27) (bit w 24) (fld w 19 5) (fld w 14 5) (fld w 9 5) (fld w 1 4))
    else if bits w 0 1 = 0 ∧ bits w 5 4 = 4 then some (.aslCI5 (bit w 27) (bit w 24) (fld w 19 5) (fld w 14 5) (fld w 9 5) (fld w 1 4))
    else if bits w 0 1 = 0 ∧ bits w 5 4 = 7 then some (.asrUI5 (bit w 27) (bit w 24) (fld w 19 5) (fld w 14 5) (fld w 9 5) (fld w 1 4))
    else if bits w 0 1 = 0 ∧ bits w 5 4 = 6 then some (.asrCI5 (bit w 27) (bit w 24) (fld w 19 5) (fld w 14 5) (fld w 9 5) (fld w 1 4))
    else none

/-- The multiplies, primary opcode 0x6: C and I select the form (30_encoding.md R218). -/
def decodeMul (w : Nat) : Option Instr :=
  match bits w 25 2 with
  | 0 =>
    if bits w 0 9 = 0 ∧ bits w 27 1 = 0 then some (.mulwRR (bit w 24) (fld w 19 5) (fld w 14 5) (fld w 9 5))
    else if bits w 0 9 = 1 ∧ bits w 27 1 = 0 then some (.mulwRX (bit w 24) (fld w 19 5) (fld w 14 5) (fld w 12 2) (fld w 9 3))
    else if bits w 0 9 = 64 ∧ bits w 27 1 = 0 then some (.muldRR (bit w 24) (fld w 19 5) (fld w 14 5) (fld w 9 5))
    else if bits w 0 9 = 65 ∧ bits w 27 1 = 0 then some (.muldRX (bit w 24) (fld w 19 5) (fld w 14 5) (fld w 12 2) (fld w 9 3))
    else none
  | 1 =>
    if bits w 2 1 = 0 ∧ bits w 27 1 = 0 then some (.mulwI16 (bit w 24) (fld w 19 5) (fld w 3 16) (bit w 1) (bit w 0))
    else if bits w 2 1 = 1 ∧ bits w 27 1 = 0 then some (.muldI16 (bit w 24) (fld w 19 5) (fld w 3 16) (bit w 1) (bit w 0))
    else none
  | 2 =>
    if bits w 0 1 = 0 ∧ bits w 5 4 = 1 ∧ bits w 27 1 = 0 then some (.mulwUR (bit w 24) (fld w 19 5) (fld w 14 5) (fld w 9 5) (fld w 1 4))
    else if bits w 0 1 = 1 ∧ bits w 5 4 = 1 ∧ bits w 27 1 = 0 then some (.mulwUX (bit w 24) (fld w 19 5) (fld w 14 5) (fld w 12 2) (fld w 9 3) (fld w 1 4))
    else if bits w 0 1 = 0 ∧ bits w 5 4 = 0 ∧ bits w 27 1 = 0 then some (.mulwCR (bit w 24) (fld w 19 5) (fld w 14 5) (fld w 9 5) (fld w 1 4))
    else if bits w 0 1 = 1 ∧ bits w 5 4 = 0 ∧ bits w 27 1 = 0 then some (.mulwCX (bit w 24) (fld w 19 5) (fld w 14 5) (fld w 12 2) (fld w 9 3) (fld w 1 4))
    else if bits w 0 1 = 0 ∧ bits w 5 4 = 3 ∧ bits w 27 1 = 0 then some (.muldUR (bit w 24) (fld w 19 5) (fld w 14 5) (fld w 9 5) (fld w 1 4))
    else if bits w 0 1 = 1 ∧ bits w 5 4 = 3 ∧ bits w 27 1 = 0 then some (.muldUX (bit w 24) (fld w 19 5) (fld w 14 5) (fld w 12 2) (fld w 9 3) (fld w 1 4))
    else if bits w 0 1 = 0 ∧ bits w 5 4 = 2 ∧ bits w 27 1 = 0 then some (.muldCR (bit w 24) (fld w 19 5) (fld w 14 5) (fld w 9 5) (fld w 1 4))
    else if bits w 0 1 = 1 ∧ bits w 5 4 = 2 ∧ bits w 27 1 = 0 then some (.muldCX (bit w 24) (fld w 19 5) (fld w 14 5) (fld w 12 2) (fld w 9 3) (fld w 1 4))
    else none
  | _ =>
    if bits w 0 1 = 0 ∧ bits w 5 1 = 1 ∧ bits w 27 1 = 0 then some (.mulwUX8 (bit w 24) (fld w 19 5) (fld w 14 5) (fld w 6 8) (fld w 1 4))
    else if bits w 0 1 = 0 ∧ bits w 5 1 = 0 ∧ bits w 27 1 = 0 then some (.mulwCX8 (bit w 24) (fld w 19 5) (fld w 14 5) (fld w 6 8) (fld w 1 4))
    else if bits w 0 1 = 1 ∧ bits w 5 1 = 1 ∧ bits w 27 1 = 0 then some (.muldUX8 (bit w 24) (fld w 19 5) (fld w 14 5) (fld w 6 8) (fld w 1 4))
    else if bits w 0 1 = 1 ∧ bits w 5 1 = 0 ∧ bits w 27 1 = 0 then some (.muldCX8 (bit w 24) (fld w 19 5) (fld w 14 5) (fld w 6 8) (fld w 1 4))
    else none

/-- CMP and the data unit extended group, primary opcode 0x7 with T = 0 (30_encoding.md R204, R205). -/
def decodeCmpDux (w : Nat) : Option Instr :=
  match bits w 25 2 with
  | 0 =>
    if bits w 0 14 = 40 then some (.absRR (bit w 24) (fld w 19 5) (fld w 14 5))
    else if bits w 0 14 = 4 then some (.ffbRR (bit w 24) (fld w 19 5) (fld w 14 5))
    else if bits w 0 9 = 36 then some (.maxRR (bit w 24) (fld w 19 5) (fld w 14 5) (fld w 9 5))
    else if bits w 0 9 = 32 then some (.minRR (bit w 24) (fld w 19 5) (fld w 14 5) (fld w 9 5))
    else if bits w 0 9 = 88 then some (.mortRR (bit w 24) (fld w 19 5) (fld w 14 5) (fld w 9 5))
    else if bits w 0 9 = 89 then some (.mortRX (bit w 24) (fld w 19 5) (fld w 14 5) (fld w 12 2) (fld w 9 3))
    else if bits w 0 9 = 44 then some (.nminRR (bit w 24) (fld w 19 5) (fld w 14 5) (fld w 9 5))
    else if bits w 0 14 = 8 then some (.normRR (bit w 24) (fld w 19 5) (fld w 14 5))
    else if bits w 0 9 = 24 then some (.vpackRR (bit w 24) (fld w 19 5) (fld w 14 5) (fld w 9 5))
    else if bits w 0 9 = 25 then some (.vpackRX (bit w 24) (fld w 19 5) (fld w 14 5) (fld w 12 2) (fld w 9 3))
    else if bits w 0 9 = 0 ∧ bits w 19 5 = 0 then some (.cmpRR (bit w 24) (fld w 14 5) (fld w 9 5))
    else if bits w 0 9 = 1 ∧ bits w 19 5 = 0 then some (.cmpRX (bit w 24) (fld w 14 5) (fld w 12 2) (fld w 9 3))
    else none
  | 1 =>
    some (.cmpI16 (bit w 24) (fld w 19 5) (fld w 3 16) (bit w 2) (bit w 1) (bit w 0))
  | 2 =>
    if bits w 0 1 = 0 ∧ bits w 5 4 = 0 ∧ bits w 19 5 = 0 then some (.cmpCR (bit w 24) (fld w 14 5) (fld w 9 5) (fld w 1 4))
    else if bits w 0 1 = 1 ∧ bits w 5 4 = 0 ∧ bits w 19 5 = 0 then some (.cmpCX (bit w 24) (fld w 14 5) (fld w 12 2) (fld w 9 3) (fld w 1 4))
    else none
  | _ =>
    if bits w 0 1 = 0 ∧ bits w 5 1 = 0 ∧ bits w 19 5 = 0 then some (.cmpCX8 (bit w 24) (fld w 14 5) (fld w 6 8) (fld w 1 4))
    else none

/-- TST, primary opcode 0x7 with T = 1 (30_encoding.md R204, R205). -/
def decodeTst (w : Nat) : Option Instr :=
  match bits w 25 2 with
  | 0 =>
    if bits w 0 9 = 0 ∧ bits w 19 5 = 0 then some (.tstRR (bit w 24) (fld w 14 5) (fld w 9 5))
    else if bits w 0 9 = 1 ∧ bits w 19 5 = 0 then some (.tstRX (bit w 24) (fld w 14 5) (fld w 12 2) (fld w 9 3))
    else none
  | 1 =>
    some (.tstI16 (bit w 24) (fld w 19 5) (fld w 3 16) (bit w 2) (bit w 1) (bit w 0))
  | 2 =>
    if bits w 0 1 = 0 ∧ bits w 5 4 = 0 ∧ bits w 19 5 = 0 then some (.tstCR (bit w 24) (fld w 14 5) (fld w 9 5) (fld w 1 4))
    else if bits w 0 1 = 1 ∧ bits w 5 4 = 0 ∧ bits w 19 5 = 0 then some (.tstCX (bit w 24) (fld w 14 5) (fld w 12 2) (fld w 9 3) (fld w 1 4))
    else none
  | _ =>
    if bits w 0 1 = 0 ∧ bits w 5 1 = 0 ∧ bits w 19 5 = 0 then some (.tstCX8 (bit w 24) (fld w 14 5) (fld w 6 8) (fld w 1 4))
    else none

/-- Primary opcode 0x7: T selects (30_encoding.md R204). -/
def decodeCmp (w : Nat) : Option Instr :=
  if bits w 27 1 = 0 then decodeCmpDux w else decodeTst w

/-- ADD and MOV of the address unit, primary opcode 0x8 with PM = 0 (30_encoding.md R200 to R203). -/
def decodeAddrAdd (w : Nat) : Option Instr :=
  match bits w 25 2 with
  | 0 =>
    if bits w 0 9 = 0 ∧ bits w 23 1 = 0 then some (.addARR (bit w 24) (fld w 19 4) (bit w 18) (fld w 14 4) (bit w 13) (fld w 9 4))
    else if bits w 0 9 = 1 ∧ bits w 23 1 = 0 then some (.addARX (bit w 24) (fld w 19 4) (bit w 18) (fld w 14 4) (fld w 12 2) (fld w 9 3))
    else if bits w 0 9 = 4 ∧ bits w 23 1 = 0 then some (.movARR (bit w 24) (fld w 19 4) (bit w 13) (fld w 9 4))
    else if bits w 0 9 = 5 ∧ bits w 23 1 = 0 then some (.movARX (bit w 24) (fld w 19 4) (fld w 12 2) (fld w 9 3))
    else none
  | 1 =>
    if bits w 2 1 = 0 then some (.addAI16 (bit w 24) (bit w 23) (fld w 19 4) (fld w 3 16) (bit w 1) (bit w 0))
    else if bits w 2 1 = 1 then some (.movAI16 (bit w 24) (bit w 23) (fld w 19 4) (fld w 3 16) (bit w 1) (bit w 0))
    else none
  | 2 =>
    if bits w 0 1 = 0 then some (.addACR (bit w 24) (fld w 19 5) (bit w 18) (fld w 14 4) (bit w 13) (fld w 9 4) (fld w 5 4) (fld w 1 4))
    else if bits w 0 1 = 1 then some (.addACX (bit w 24) (fld w 19 5) (bit w 18) (fld w 14 4) (fld w 12 2) (fld w 9 3) (fld w 5 4) (fld w 1 4))
    else none
  | _ =>
    if bits w 0 1 = 0 ∧ bits w 5 1 = 1 then some (.addAUX8 (bit w 24) (fld w 19 5) (bit w 18) (fld w 14 4) (fld w 6 8) (fld w 1 4))
    else if bits w 0 1 = 0 ∧ bits w 5 1 = 0 then some (.addACX8 (bit w 24) (fld w 19 5) (bit w 18) (fld w 14 4) (fld w 6 8) (fld w 1 4))
    else none

/-- SUB and NEG of the address unit, primary opcode 0x8 with PM = 1 (30_encoding.md R200 to R203). -/
def decodeAddrSub (w : Nat) : Option Instr :=
  match bits w 25 2 with
  | 0 =>
    if bits w 0 9 = 0 ∧ bits w 23 1 = 0 then some (.subARR (bit w 24) (fld w 19 4) (bit w 18) (fld w 14 4) (bit w 13) (fld w 9 4))
    else if bits w 0 9 = 1 ∧ bits w 23 1 = 0 then some (.subARX (bit w 24) (fld w 19 4) (bit w 18) (fld w 14 4) (fld w 12 2) (fld w 9 3))
    else if bits w 0 9 = 4 ∧ bits w 23 1 = 0 then some (.negARR (bit w 24) (fld w 19 4) (bit w 13) (fld w 9 4))
    else if bits w 0 9 = 5 ∧ bits w 23 1 = 0 then some (.negARX (bit w 24) (fld w 19 4) (fld w 12 2) (fld w 9 3))
    else none
  | 1 =>
    if bits w 2 1 = 0 then some (.subAI16 (bit w 24) (bit w 23) (fld w 19 4) (fld w 3 16) (bit w 1) (bit w 0))
    else if bits w 2 1 = 1 then some (.negAI16 (bit w 24) (bit w 23) (fld w 19 4) (fld w 3 16) (bit w 1) (bit w 0))
    else none
  | 2 =>
    if bits w 0 1 = 0 then some (.subACR (bit w 24) (fld w 19 5) (bit w 18) (fld w 14 4) (bit w 13) (fld w 9 4) (fld w 5 4) (fld w 1 4))
    else if bits w 0 1 = 1 then some (.subACX (bit w 24) (fld w 19 5) (bit w 18) (fld w 14 4) (fld w 12 2) (fld w 9 3) (fld w 5 4) (fld w 1 4))
    else none
  | _ =>
    if bits w 0 1 = 0 ∧ bits w 5 1 = 1 then some (.subAUX8 (bit w 24) (fld w 19 5) (bit w 18) (fld w 14 4) (fld w 6 8) (fld w 1 4))
    else if bits w 0 1 = 0 ∧ bits w 5 1 = 0 then some (.subACX8 (bit w 24) (fld w 19 5) (bit w 18) (fld w 14 4) (fld w 6 8) (fld w 1 4))
    else none

/-- The address unit group, primary opcode 0x8: PM selects (30_encoding.md R154). -/
def decodeAddr (w : Nat) : Option Instr :=
  if bits w 27 1 = 0 then decodeAddrAdd w else decodeAddrSub w

/-- Opcode byte 0xA0 (30_encoding.md R218). -/
def decodeA0 (w : Nat) : Option Instr :=
  if bits w 0 24 = 16777214 then some (.nop)
  else if bits w 1 4 = 0 then some (.branch (fld w 5 19) (bit w 0))
  else some (.branchCc (fld w 5 19) (fld w 1 4) (bit w 0))

/-- Opcode byte 0xA1 (30_encoding.md R218). -/
def decodeA1 (w : Nat) : Option Instr :=
  if bits w 0 1 = 0 ∧ bits w 9 10 = 512 then some (.movbRd (fld w 19 5) (fld w 5 4) (fld w 1 4))
  else if bits w 0 1 = 0 ∧ bits w 9 10 = 520 then some (.movwRd (fld w 19 5) (fld w 5 4) (fld w 1 4))
  else if bits w 0 1 = 0 ∧ bits w 9 10 = 528 then some (.movdRd (fld w 19 5) (fld w 5 4) (fld w 1 4))
  else if bits w 0 1 = 0 ∧ bits w 9 5 = 0 ∧ bits w 17 2 = 0 then some (.cprbUnit (fld w 19 5) (fld w 14 3) (fld w 5 4) (fld w 1 4))
  else if bits w 0 1 = 0 ∧ bits w 9 5 = 8 ∧ bits w 17 2 = 0 then some (.cprwUnit (fld w 19 5) (fld w 14 3) (fld w 5 4) (fld w 1 4))
  else if bits w 0 1 = 0 ∧ bits w 9 5 = 16 ∧ bits w 17 2 = 0 then some (.cprdUnit (fld w 19 5) (fld w 14 3) (fld w 5 4) (fld w 1 4))
  else none

/-- Opcode byte 0xA2 (30_encoding.md R218). -/
def decodeA2 (w : Nat) : Option Instr :=
  if bits w 0 1 = 1 ∧ bits w 7 7 = 64 then some (.movlTtrec (fld w 19 5) (fld w 14 5) (fld w 5 2) (fld w 1 4))
  else if bits w 0 1 = 0 ∧ bits w 7 2 = 0 ∧ bits w 14 5 = 16 then some (.movlRd (fld w 19 5) (fld w 9 5) (fld w 5 2) (fld w 1 4))
  else if bits w 0 1 = 0 ∧ bits w 7 2 = 0 ∧ bits w 17 2 = 0 then some (.cprlPair (fld w 19 5) (fld w 14 3) (fld w 9 5) (fld w 5 2) (fld w 1 4))
  else none

/-- Opcode byte 0xA3 (30_encoding.md R218). -/
def decodeA3 (w : Nat) : Option Instr :=
  if bits w 0 24 = 16777215 then some (.rti)
  else if bits w 0 24 = 8388607 then some (.rth)
  else if bits w 0 1 = 1 ∧ bits w 9 1 = 1 then some (.ttmov (fld w 19 5) (fld w 14 5) (fld w 10 4) (fld w 5 4) (fld w 1 4))
  else if bits w 0 1 = 1 ∧ bits w 9 5 = 0 then some (.kick (fld w 19 5) (fld w 14 5) (fld w 5 4) (fld w 1 4))
  else if bits w 0 1 = 1 ∧ bits w 9 5 = 16 then some (.defr (fld w 19 5) (fld w 14 5) (fld w 5 4) (fld w 1 4))
  else if bits w 0 5 = 1 ∧ bits w 9 1 = 0 then some (.swap (fld w 19 5) (fld w 14 5) (fld w 10 4) (fld w 5 4))
  else if bits w 0 1 = 1 ∧ bits w 9 1 = 0 then some (.swapCc (fld w 19 5) (fld w 14 5) (fld w 10 4) (fld w 5 4) (fld w 1 4))
  else if bits w 0 5 = 0 ∧ bits w 9 1 = 0 then some (.movUnit (fld w 19 5) (fld w 14 5) (fld w 10 4) (fld w 5 4))
  else if bits w 0 1 = 0 ∧ bits w 9 1 = 0 then some (.movUnitCc (fld w 19 5) (fld w 14 5) (fld w 10 4) (fld w 5 4) (fld w 1 4))
  else none

/-- Opcode byte 0xA4 (30_encoding.md R218). -/
def decodeA4 (w : Nat) : Option Instr :=
  if bits w 0 1 = 0 ∧ bits w 7 7 = 48 then some (.cprbMemCc (fld w 19 5) (fld w 14 5) (fld w 5 2) (fld w 1 4))
  else if bits w 0 1 = 0 ∧ bits w 7 7 = 50 then some (.cprwMemCc (fld w 19 5) (fld w 14 5) (fld w 5 2) (fld w 1 4))
  else if bits w 0 1 = 0 ∧ bits w 7 7 = 52 then some (.cprdMemCc (fld w 19 5) (fld w 14 5) (fld w 5 2) (fld w 1 4))
  else if bits w 0 1 = 0 ∧ bits w 7 7 = 54 then some (.cprlMemCc (fld w 19 5) (fld w 14 5) (fld w 5 2) (fld w 1 4))
  else if bits w 0 1 = 0 ∧ bits w 7 3 = 0 then some (.setbCc (fld w 19 5) (fld w 14 5) (fld w 10 4) (fld w 5 2) (fld w 1 4))
  else if bits w 0 1 = 0 ∧ bits w 7 3 = 2 then some (.setwCc (fld w 19 5) (fld w 14 5) (fld w 10 4) (fld w 5 2) (fld w 1 4))
  else if bits w 0 1 = 0 ∧ bits w 7 3 = 4 then some (.setdCc (fld w 19 5) (fld w 14 5) (fld w 10 4) (fld w 5 2) (fld w 1 4))
  else if bits w 0 1 = 0 ∧ bits w 7 3 = 6 then some (.setlCc (fld w 19 5) (fld w 14 5) (fld w 10 4) (fld w 5 2) (fld w 1 4))
  else if bits w 0 1 = 1 ∧ bits w 7 3 = 0 then some (.lnksetb (fld w 19 5) (fld w 14 5) (fld w 10 4) (fld w 5 2) (fld w 1 4))
  else if bits w 0 1 = 1 ∧ bits w 7 3 = 2 then some (.lnksetw (fld w 19 5) (fld w 14 5) (fld w 10 4) (fld w 5 2) (fld w 1 4))
  else if bits w 0 1 = 1 ∧ bits w 7 3 = 4 then some (.lnksetd (fld w 19 5) (fld w 14 5) (fld w 10 4) (fld w 5 2) (fld w 1 4))
  else if bits w 0 1 = 1 ∧ bits w 7 3 = 6 then some (.lnksetl (fld w 19 5) (fld w 14 5) (fld w 10 4) (fld w 5 2) (fld w 1 4))
  else none

/-- Opcode byte 0xA5 (30_encoding.md R218). -/
def decodeA5 (w : Nat) : Option Instr :=
  if bits w 1 2 = 0 then some (.setbS12 (fld w 19 5) (fld w 7 12) (fld w 5 2) (fld w 3 2) (fld w 0 1))
  else if bits w 1 2 = 1 then some (.setwS12 (fld w 19 5) (fld w 7 12) (fld w 5 2) (fld w 3 2) (fld w 0 1))
  else if bits w 1 2 = 2 then some (.setdS12 (fld w 19 5) (fld w 7 12) (fld w 5 2) (fld w 3 2) (fld w 0 1))
  else if bits w 1 2 = 3 then some (.setlS12 (fld w 19 5) (fld w 7 12) (fld w 5 2) (fld w 3 2) (fld w 0 1))
  else none

/-- Opcode byte 0xA6 (30_encoding.md R218). -/
def decodeA6 (w : Nat) : Option Instr :=
  if bits w 1 4 = 0 then some (.movbRaS12 (fld w 19 5) (fld w 7 12) (fld w 5 2) (fld w 0 1))
  else if bits w 1 4 = 1 then some (.movwRaS12 (fld w 19 5) (fld w 7 12) (fld w 5 2) (fld w 0 1))
  else if bits w 1 4 = 2 then some (.movdRaS12 (fld w 19 5) (fld w 7 12) (fld w 5 2) (fld w 0 1))
  else if bits w 1 4 = 3 then some (.movlRaS12 (fld w 19 5) (fld w 7 12) (fld w 5 2) (fld w 0 1))
  else none

/-- Opcode byte 0xA7 (30_encoding.md R218). -/
def decodeA7 (w : Nat) : Option Instr :=
  if bits w 1 2 = 0 then some (.getbS12 (fld w 19 5) (fld w 7 12) (fld w 5 2) (fld w 3 2) (fld w 0 1))
  else if bits w 1 2 = 1 then some (.getwS12 (fld w 19 5) (fld w 7 12) (fld w 5 2) (fld w 3 2) (fld w 0 1))
  else if bits w 1 2 = 2 then some (.getdS12 (fld w 19 5) (fld w 7 12) (fld w 5 2) (fld w 3 2) (fld w 0 1))
  else if bits w 1 2 = 3 then some (.getlS12 (fld w 19 5) (fld w 7 12) (fld w 5 2) (fld w 3 2) (fld w 0 1))
  else none

/-- Opcode byte 0xA8 (30_encoding.md R218). -/
def decodeA8 (w : Nat) : Option Instr :=
  if bits w 0 24 = 0 then some (.lock0)
  else if bits w 0 24 = 1 then some (.lock1)
  else if bits w 0 24 = 3 then some (.lock2)
  else none

/-- Opcode byte 0xA9 (30_encoding.md R218). -/
def decodeA9 (w : Nat) : Option Instr :=
  if bits w 2 1 = 0 then some (.movCt (fld w 19 5) (fld w 3 16) (bit w 1) (bit w 0))
  else if bits w 2 1 = 1 then some (.movTt (fld w 19 5) (fld w 3 16) (bit w 1) (bit w 0))
  else none

/-- Opcode byte 0xAA (30_encoding.md R218). -/
def decodeAA (w : Nat) : Option Instr :=
  if bits w 1 2 = 0 ∧ bits w 4 10 = 0 then some (.xsdb (fld w 19 5) (fld w 14 5) (bit w 3) (bit w 0))
  else if bits w 1 2 = 1 ∧ bits w 4 10 = 0 then some (.xsdw (fld w 19 5) (fld w 14 5) (bit w 3) (bit w 0))
  else if bits w 1 2 = 2 ∧ bits w 4 10 = 0 then some (.bexd (fld w 19 5) (fld w 14 5) (bit w 3) (bit w 0))
  else if bits w 1 2 = 2 ∧ bits w 4 10 = 1 then some (.bexl (fld w 19 5) (fld w 14 5) (bit w 3) (bit w 0))
  else if bits w 1 2 = 3 ∧ bits w 4 10 = 0 then some (.rtdw (fld w 19 5) (fld w 14 5) (bit w 3) (bit w 0))
  else none

/-- Opcode byte 0xAB (30_encoding.md R218). -/
def decodeAB (w : Nat) : Option Instr :=
  some (.callr (fld w 5 19) (fld w 3 2) (fld w 0 3))

/-- Opcode byte 0xAC (30_encoding.md R218). -/
def decodeAC (w : Nat) : Option Instr :=
  if bits w 2 1 = 0 then some (.jump (fld w 19 5) (fld w 3 16) (fld w 0 2))
  else if bits w 2 1 = 1 then some (.call (fld w 19 5) (fld w 3 16) (fld w 0 2))
  else none

/-- Opcode byte 0xAD (30_encoding.md R218). -/
def decodeAD (w : Nat) : Option Instr :=
  if bits w 0 3 = 0 ∧ bits w 7 7 = 1 then some (.lnkgetb (fld w 19 5) (fld w 14 5) (fld w 5 2) (fld w 3 2))
  else if bits w 0 3 = 2 ∧ bits w 7 7 = 1 then some (.lnkgetw (fld w 19 5) (fld w 14 5) (fld w 5 2) (fld w 3 2))
  else if bits w 0 3 = 4 ∧ bits w 7 7 = 1 then some (.lnkgetd (fld w 19 5) (fld w 14 5) (fld w 5 2) (fld w 3 2))
  else if bits w 0 3 = 6 ∧ bits w 7 7 = 1 then some (.lnkgetl (fld w 19 5) (fld w 14 5) (fld w 5 2) (fld w 3 2))
  else if bits w 0 3 = 3 ∧ bits w 7 1 = 1 then some (.cacherl (fld w 19 5) (fld w 14 5) (fld w 8 6) (fld w 5 2) (fld w 3 2))
  else if bits w 0 3 = 1 ∧ bits w 7 1 = 1 then some (.cacherd (fld w 19 5) (fld w 14 5) (fld w 8 6) (fld w 5 2) (fld w 3 2))
  else if bits w 0 3 = 3 ∧ bits w 7 1 = 0 then some (.cachewl (fld w 19 5) (fld w 14 5) (fld w 8 6) (fld w 5 2) (fld w 3 2))
  else if bits w 0 3 = 1 ∧ bits w 7 1 = 0 then some (.cachewd (fld w 19 5) (fld w 14 5) (fld w 8 6) (fld w 5 2) (fld w 3 2))
  else if bits w 0 3 = 0 ∧ bits w 7 1 = 0 then some (.dcache (fld w 19 5) (fld w 14 5) (fld w 8 6) (fld w 5 2) (fld w 3 2))
  else none

/-- Opcode byte 0xAE (30_encoding.md R218). -/
def decodeAE (w : Nat) : Option Instr :=
  if bits w 0 4 = 0 ∧ bits w 5 19 = 0 then some (.icacheExit (bit w 4))
  else if bits w 0 4 = 0 then some (.icache (fld w 9 15) (fld w 5 4) (bit w 4))
  else none

/-- Opcode byte 0xAF (30_encoding.md R218). -/
def decodeAF (w : Nat) : Option Instr :=
  some (.switch (fld w 0 24))

/-- Primary opcode 0xA: the secondary nibble selects. -/
def decodeU2UMisc (w : Nat) : Option Instr :=
  match bits w 24 4 with
  | 0 => decodeA0 w
  | 1 => decodeA1 w
  | 2 => decodeA2 w
  | 3 => decodeA3 w
  | 4 => decodeA4 w
  | 5 => decodeA5 w
  | 6 => decodeA6 w
  | 7 => decodeA7 w
  | 8 => decodeA8 w
  | 9 => decodeA9 w
  | 10 => decodeAA w
  | 11 => decodeAB w
  | 12 => decodeAC w
  | 13 => decodeAD w
  | 14 => decodeAE w
  | _ => decodeAF w

/-- Opcode byte 0xB0 (30_encoding.md R207, R208). -/
def decodeB0 (w : Nat) : Option Instr :=
  if bits w 1 4 = 6 ∧ bits w 8 1 = 0 then some (.cprbMemR (fld w 14 5) (fld w 9 5) (bit w 7) (fld w 5 2) (bit w 0) (fld w 19 5))
  else if bits w 8 1 = 0 then some (.setbR (fld w 19 5) (fld w 14 5) (fld w 9 5) (bit w 7) (fld w 5 2) (fld w 1 4) (bit w 0))
  else none

/-- Opcode byte 0xB1 (30_encoding.md R207, R208). -/
def decodeB1 (w : Nat) : Option Instr :=
  if bits w 1 4 = 6 ∧ bits w 8 1 = 0 then some (.cprwMemR (fld w 14 5) (fld w 9 5) (bit w 7) (fld w 5 2) (bit w 0) (fld w 19 5))
  else if bits w 8 1 = 0 then some (.setwR (fld w 19 5) (fld w 14 5) (fld w 9 5) (bit w 7) (fld w 5 2) (fld w 1 4) (bit w 0))
  else none

/-- Opcode byte 0xB2 (30_encoding.md R207, R208). -/
def decodeB2 (w : Nat) : Option Instr :=
  if bits w 1 4 = 6 ∧ bits w 8 1 = 0 then some (.cprdMemR (fld w 14 5) (fld w 9 5) (bit w 7) (fld w 5 2) (bit w 0) (fld w 19 5))
  else if bits w 8 1 = 0 then some (.setdR (fld w 19 5) (fld w 14 5) (fld w 9 5) (bit w 7) (fld w 5 2) (fld w 1 4) (bit w 0))
  else none

/-- Opcode byte 0xB3 (30_encoding.md R207, R208). -/
def decodeB3 (w : Nat) : Option Instr :=
  if bits w 1 4 = 6 ∧ bits w 8 1 = 0 then some (.cprlMemR (fld w 14 5) (fld w 9 5) (bit w 7) (fld w 5 2) (bit w 0) (fld w 19 5))
  else if bits w 8 1 = 0 then some (.setlR (fld w 19 5) (fld w 14 5) (fld w 9 5) (bit w 7) (fld w 5 2) (fld w 1 4) (bit w 0))
  else none

/-- Opcode byte 0xB4 (30_encoding.md R207, R208). -/
def decodeB4 (w : Nat) : Option Instr :=
  if bits w 1 4 = 6 then some (.cprbMemI6 (fld w 14 5) (fld w 8 6) (bit w 7) (fld w 5 2) (bit w 0) (fld w 19 5))
  else some (.setbI6 (fld w 19 5) (fld w 14 5) (fld w 8 6) (bit w 7) (fld w 5 2) (fld w 1 4) (bit w 0))

/-- Opcode byte 0xB5 (30_encoding.md R207, R208). -/
def decodeB5 (w : Nat) : Option Instr :=
  if bits w 1 4 = 6 then some (.cprwMemI6 (fld w 14 5) (fld w 8 6) (bit w 7) (fld w 5 2) (bit w 0) (fld w 19 5))
  else some (.setwI6 (fld w 19 5) (fld w 14 5) (fld w 8 6) (bit w 7) (fld w 5 2) (fld w 1 4) (bit w 0))

/-- Opcode byte 0xB6 (30_encoding.md R207, R208). -/
def decodeB6 (w : Nat) : Option Instr :=
  if bits w 1 4 = 6 then some (.cprdMemI6 (fld w 14 5) (fld w 8 6) (bit w 7) (fld w 5 2) (bit w 0) (fld w 19 5))
  else if bits w 5 2 = 3 then some (.setdShort (fld w 19 5) (fld w 14 5) (fld w 8 6) (bit w 7) (fld w 1 4) (bit w 0))
  else some (.setdI6 (fld w 19 5) (fld w 14 5) (fld w 8 6) (bit w 7) (fld w 5 2) (fld w 1 4) (bit w 0))

/-- Opcode byte 0xB7 (30_encoding.md R207, R208). -/
def decodeB7 (w : Nat) : Option Instr :=
  if bits w 1 4 = 6 then some (.cprlMemI6 (fld w 14 5) (fld w 8 6) (bit w 7) (fld w 5 2) (bit w 0) (fld w 19 5))
  else some (.setlI6 (fld w 19 5) (fld w 14 5) (fld w 8 6) (bit w 7) (fld w 5 2) (fld w 1 4) (bit w 0))

/-- Opcode byte 0xB8 (30_encoding.md R207, R208). -/
def decodeB8 (w : Nat) : Option Instr :=
  if bits w 0 3 = 0 then some (.msetd (fld w 19 5) (fld w 14 5) (fld w 7 7) (fld w 5 2) (fld w 3 2))
  else none

/-- Opcode byte 0xB9 (30_encoding.md R207, R208). -/
def decodeB9 (w : Nat) : Option Instr :=
  if bits w 0 3 = 0 then some (.msetl (fld w 19 5) (fld w 14 5) (fld w 7 7) (fld w 5 2) (fld w 3 2))
  else none

/-- Primary opcode 0xB: the secondary nibble selects. -/
def decodeSet (w : Nat) : Option Instr :=
  match bits w 24 4 with
  | 0 => decodeB0 w
  | 1 => decodeB1 w
  | 2 => decodeB2 w
  | 3 => decodeB3 w
  | 4 => decodeB4 w
  | 5 => decodeB5 w
  | 6 => decodeB6 w
  | 7 => decodeB7 w
  | 8 => decodeB8 w
  | 9 => decodeB9 w
  | _ => none

/-- Opcode byte 0xC0 (30_encoding.md R207, R208). -/
def decodeC0 (w : Nat) : Option Instr :=
  if bits w 1 4 = 6 ∧ bits w 8 1 = 0 then some (.movbRaR (fld w 14 5) (fld w 9 5) (bit w 7) (fld w 5 2) (bit w 0) (fld w 19 5))
  else if bits w 8 1 = 0 then some (.getbR (fld w 19 5) (fld w 14 5) (fld w 9 5) (bit w 7) (fld w 5 2) (fld w 1 4) (bit w 0))
  else none

/-- Opcode byte 0xC1 (30_encoding.md R207, R208). -/
def decodeC1 (w : Nat) : Option Instr :=
  if bits w 1 4 = 6 ∧ bits w 8 1 = 0 then some (.movwRaR (fld w 14 5) (fld w 9 5) (bit w 7) (fld w 5 2) (bit w 0) (fld w 19 5))
  else if bits w 8 1 = 0 then some (.getwR (fld w 19 5) (fld w 14 5) (fld w 9 5) (bit w 7) (fld w 5 2) (fld w 1 4) (bit w 0))
  else none

/-- Opcode byte 0xC2 (30_encoding.md R207, R208). -/
def decodeC2 (w : Nat) : Option Instr :=
  if bits w 1 4 = 6 ∧ bits w 8 1 = 0 then some (.movdRaR (fld w 14 5) (fld w 9 5) (bit w 7) (fld w 5 2) (bit w 0) (fld w 19 5))
  else if bits w 8 1 = 0 then some (.getdR (fld w 19 5) (fld w 14 5) (fld w 9 5) (bit w 7) (fld w 5 2) (fld w 1 4) (bit w 0))
  else none

/-- Opcode byte 0xC3 (30_encoding.md R207, R208). -/
def decodeC3 (w : Nat) : Option Instr :=
  if bits w 1 4 = 6 ∧ bits w 8 1 = 0 then some (.movlRaR (fld w 14 5) (fld w 9 5) (bit w 7) (fld w 5 2) (bit w 0) (fld w 19 5))
  else if bits w 8 1 = 0 then some (.getlR (fld w 19 5) (fld w 14 5) (fld w 9 5) (bit w 7) (fld w 5 2) (fld w 1 4) (bit w 0))
  else none

/-- Opcode byte 0xC4 (30_encoding.md R207, R208). -/
def decodeC4 (w : Nat) : Option Instr :=
  if bits w 1 4 = 6 then some (.movbRaI6 (fld w 14 5) (fld w 8 6) (bit w 7) (fld w 5 2) (bit w 0) (fld w 19 5))
  else some (.getbI6 (fld w 19 5) (fld w 14 5) (fld w 8 6) (bit w 7) (fld w 5 2) (fld w 1 4) (bit w 0))

/-- Opcode byte 0xC5 (30_encoding.md R207, R208). -/
def decodeC5 (w : Nat) : Option Instr :=
  if bits w 1 4 = 6 then some (.movwRaI6 (fld w 14 5) (fld w 8 6) (bit w 7) (fld w 5 2) (bit w 0) (fld w 19 5))
  else some (.getwI6 (fld w 19 5) (fld w 14 5) (fld w 8 6) (bit w 7) (fld w 5 2) (fld w 1 4) (bit w 0))

/-- Opcode byte 0xC6 (30_encoding.md R207, R208). -/
def decodeC6 (w : Nat) : Option Instr :=
  if bits w 1 4 = 6 then some (.movdRaI6 (fld w 14 5) (fld w 8 6) (bit w 7) (fld w 5 2) (bit w 0) (fld w 19 5))
  else if bits w 5 2 = 3 then some (.getdShort (fld w 19 5) (fld w 14 5) (fld w 8 6) (bit w 7) (fld w 1 4) (bit w 0))
  else some (.getdI6 (fld w 19 5) (fld w 14 5) (fld w 8 6) (bit w 7) (fld w 5 2) (fld w 1 4) (bit w 0))

/-- Opcode byte 0xC7 (30_encoding.md R207, R208). -/
def decodeC7 (w : Nat) : Option Instr :=
  if bits w 1 4 = 6 then some (.movlRaI6 (fld w 14 5) (fld w 8 6) (bit w 7) (fld w 5 2) (bit w 0) (fld w 19 5))
  else some (.getlI6 (fld w 19 5) (fld w 14 5) (fld w 8 6) (bit w 7) (fld w 5 2) (fld w 1 4) (bit w 0))

/-- Opcode byte 0xC8 (30_encoding.md R207, R208). -/
def decodeC8 (w : Nat) : Option Instr :=
  if bits w 0 3 = 0 then some (.mgetd (fld w 19 5) (fld w 14 5) (fld w 7 7) (fld w 5 2) (fld w 3 2))
  else none

/-- Opcode byte 0xC9 (30_encoding.md R207, R208). -/
def decodeC9 (w : Nat) : Option Instr :=
  if bits w 0 3 = 0 then some (.mgetl (fld w 19 5) (fld w 14 5) (fld w 7 7) (fld w 5 2) (fld w 3 2))
  else none

/-- Opcode byte 0xCA (30_encoding.md R207, R208). -/
def decodeCA (w : Nat) : Option Instr :=
  if bits w 0 5 = 0 then some (.mmovdRa (fld w 19 5) (fld w 14 5) (fld w 7 7) (fld w 5 2))
  else none

/-- Opcode byte 0xCB (30_encoding.md R207, R208). -/
def decodeCB (w : Nat) : Option Instr :=
  if bits w 0 5 = 0 then some (.mmovlRa (fld w 19 5) (fld w 14 5) (fld w 7 7) (fld w 5 2))
  else none

/-- Opcode byte 0xCC (30_encoding.md R207, R208). -/
def decodeCC (w : Nat) : Option Instr :=
  if bits w 0 7 = 2 ∧ bits w 14 10 = 0 then some (.mdrd (fld w 7 7))
  else if bits w 0 3 = 0 ∧ bits w 5 2 = 0 ∧ bits w 14 5 = 0 then some (.mmovdRd (fld w 19 5) (fld w 7 7) (fld w 3 2))
  else none

/-- Opcode byte 0xCD (30_encoding.md R207, R208). -/
def decodeCD (w : Nat) : Option Instr :=
  if bits w 0 3 = 0 ∧ bits w 5 2 = 0 ∧ bits w 14 5 = 0 then some (.mmovlRd (fld w 19 5) (fld w 7 7) (fld w 3 2))
  else none

/-- Primary opcode 0xC: the secondary nibble selects. -/
def decodeGet (w : Nat) : Option Instr :=
  match bits w 24 4 with
  | 0 => decodeC0 w
  | 1 => decodeC1 w
  | 2 => decodeC2 w
  | 3 => decodeC3 w
  | 4 => decodeC4 w
  | 5 => decodeC5 w
  | 6 => decodeC6 w
  | 7 => decodeC7 w
  | 8 => decodeC8 w
  | 9 => decodeC9 w
  | 10 => decodeCA w
  | 11 => decodeCB w
  | 12 => decodeCC w
  | 13 => decodeCD w
  | _ => none

/-- CPRR and XFR of size D: equal base units select CPRR (30_encoding.md R216). -/
noncomputable def decodeXfrD (w : Nat) : Option Instr :=
  match bits w 0 4 with
  | 0 =>
    if bits w 4 5 = 0 ∧ bits w 12 2 = 0 ∧ bits w 26 1 = 0 then some (.cprdr0 (bit w 27) (bit w 25) (fld w 19 5) (fld w 14 5) (fld w 9 3))
    else none
  | 1 =>
    some (.xfrd01 (bit w 27) (bit w 26) (bit w 25) (fld w 19 5) (fld w 14 5) (fld w 9 5) (fld w 4 5))
  | 2 =>
    some (.xfrd02 (bit w 27) (bit w 26) (bit w 25) (fld w 19 5) (fld w 14 5) (fld w 9 5) (fld w 4 5))
  | 3 =>
    some (.xfrd03 (bit w 27) (bit w 26) (bit w 25) (fld w 19 5) (fld w 14 5) (fld w 9 5) (fld w 4 5))
  | 4 =>
    some (.xfrd10 (bit w 27) (bit w 26) (bit w 25) (fld w 19 5) (fld w 14 5) (fld w 9 5) (fld w 4 5))
  | 5 =>
    if bits w 4 5 = 0 ∧ bits w 12 2 = 0 ∧ bits w 26 1 = 0 then some (.cprdr1 (bit w 27) (bit w 25) (fld w 19 5) (fld w 14 5) (fld w 9 3))
    else none
  | 6 =>
    some (.xfrd12 (bit w 27) (bit w 26) (bit w 25) (fld w 19 5) (fld w 14 5) (fld w 9 5) (fld w 4 5))
  | 7 =>
    some (.xfrd13 (bit w 27) (bit w 26) (bit w 25) (fld w 19 5) (fld w 14 5) (fld w 9 5) (fld w 4 5))
  | 8 =>
    some (.xfrd20 (bit w 27) (bit w 26) (bit w 25) (fld w 19 5) (fld w 14 5) (fld w 9 5) (fld w 4 5))
  | 9 =>
    some (.xfrd21 (bit w 27) (bit w 26) (bit w 25) (fld w 19 5) (fld w 14 5) (fld w 9 5) (fld w 4 5))
  | 10 =>
    if bits w 4 5 = 0 ∧ bits w 12 2 = 0 ∧ bits w 26 1 = 0 then some (.cprdr2 (bit w 27) (bit w 25) (fld w 19 5) (fld w 14 5) (fld w 9 3))
    else none
  | 11 =>
    some (.xfrd23 (bit w 27) (bit w 26) (bit w 25) (fld w 19 5) (fld w 14 5) (fld w 9 5) (fld w 4 5))
  | 12 =>
    some (.xfrd30 (bit w 27) (bit w 26) (bit w 25) (fld w 19 5) (fld w 14 5) (fld w 9 5) (fld w 4 5))
  | 13 =>
    some (.xfrd31 (bit w 27) (bit w 26) (bit w 25) (fld w 19 5) (fld w 14 5) (fld w 9 5) (fld w 4 5))
  | 14 =>
    some (.xfrd32 (bit w 27) (bit w 26) (bit w 25) (fld w 19 5) (fld w 14 5) (fld w 9 5) (fld w 4 5))
  | _ =>
    if bits w 4 5 = 0 ∧ bits w 12 2 = 0 ∧ bits w 26 1 = 0 then some (.cprdr3 (bit w 27) (bit w 25) (fld w 19 5) (fld w 14 5) (fld w 9 3))
    else none

/-- CPRR and XFR of size L: equal base units select CPRR (30_encoding.md R216). -/
noncomputable def decodeXfrL (w : Nat) : Option Instr :=
  match bits w 0 4 with
  | 0 =>
    if bits w 4 5 = 0 ∧ bits w 12 2 = 0 ∧ bits w 26 1 = 0 then some (.cprlr0 (bit w 27) (bit w 25) (fld w 19 5) (fld w 14 5) (fld w 9 3))
    else none
  | 1 =>
    some (.xfrl01 (bit w 27) (bit w 26) (bit w 25) (fld w 19 5) (fld w 14 5) (fld w 9 5) (fld w 4 5))
  | 2 =>
    some (.xfrl02 (bit w 27) (bit w 26) (bit w 25) (fld w 19 5) (fld w 14 5) (fld w 9 5) (fld w 4 5))
  | 3 =>
    some (.xfrl03 (bit w 27) (bit w 26) (bit w 25) (fld w 19 5) (fld w 14 5) (fld w 9 5) (fld w 4 5))
  | 4 =>
    some (.xfrl10 (bit w 27) (bit w 26) (bit w 25) (fld w 19 5) (fld w 14 5) (fld w 9 5) (fld w 4 5))
  | 5 =>
    if bits w 4 5 = 0 ∧ bits w 12 2 = 0 ∧ bits w 26 1 = 0 then some (.cprlr1 (bit w 27) (bit w 25) (fld w 19 5) (fld w 14 5) (fld w 9 3))
    else none
  | 6 =>
    some (.xfrl12 (bit w 27) (bit w 26) (bit w 25) (fld w 19 5) (fld w 14 5) (fld w 9 5) (fld w 4 5))
  | 7 =>
    some (.xfrl13 (bit w 27) (bit w 26) (bit w 25) (fld w 19 5) (fld w 14 5) (fld w 9 5) (fld w 4 5))
  | 8 =>
    some (.xfrl20 (bit w 27) (bit w 26) (bit w 25) (fld w 19 5) (fld w 14 5) (fld w 9 5) (fld w 4 5))
  | 9 =>
    some (.xfrl21 (bit w 27) (bit w 26) (bit w 25) (fld w 19 5) (fld w 14 5) (fld w 9 5) (fld w 4 5))
  | 10 =>
    if bits w 4 5 = 0 ∧ bits w 12 2 = 0 ∧ bits w 26 1 = 0 then some (.cprlr2 (bit w 27) (bit w 25) (fld w 19 5) (fld w 14 5) (fld w 9 3))
    else none
  | 11 =>
    some (.xfrl23 (bit w 27) (bit w 26) (bit w 25) (fld w 19 5) (fld w 14 5) (fld w 9 5) (fld w 4 5))
  | 12 =>
    some (.xfrl30 (bit w 27) (bit w 26) (bit w 25) (fld w 19 5) (fld w 14 5) (fld w 9 5) (fld w 4 5))
  | 13 =>
    some (.xfrl31 (bit w 27) (bit w 26) (bit w 25) (fld w 19 5) (fld w 14 5) (fld w 9 5) (fld w 4 5))
  | 14 =>
    some (.xfrl32 (bit w 27) (bit w 26) (bit w 25) (fld w 19 5) (fld w 14 5) (fld w 9 5) (fld w 4 5))
  | _ =>
    if bits w 4 5 = 0 ∧ bits w 12 2 = 0 ∧ bits w 26 1 = 0 then some (.cprlr3 (bit w 27) (bit w 25) (fld w 19 5) (fld w 14 5) (fld w 9 3))
    else none

/-- Primary opcode 0xD: L1 selects the size (30_encoding.md R216). -/
noncomputable def decodeXfr (w : Nat) : Option Instr :=
  if bits w 24 1 = 0 then decodeXfrD w else decodeXfrL w

/-- Primary opcode 0xE: coprocessor writes and transfers (30_encoding.md R217). -/
noncomputable def decodeCpw (w : Nat) : Option Instr :=
  if bits w 0 3 = 1 ∧ bits w 4 12 = 0 ∧ bits w 19 2 = 0 ∧ bits w 24 4 = 1 then some (.cpxl (fld w 21 3) (fld w 16 3) (bit w 3))
  else if bits w 0 11 = 0 ∧ bits w 24 1 = 0 ∧ bits w 27 1 = 0 then some (.cpwlRR (fld w 25 2) (fld w 21 3) (fld w 16 5) (fld w 11 5))
  else if bits w 24 1 = 0 ∧ bits w 27 1 = 1 then some (.cpwlRI (fld w 25 2) (fld w 21 3) (fld w 16 5) (fld w 0 16))
  else if bits w 0 1 = 0 ∧ bits w 4 7 = 0 ∧ bits w 24 1 = 1 ∧ bits w 27 1 = 0 then some (.cpwlMemR (fld w 25 2) (fld w 21 3) (fld w 16 5) (fld w 11 5) (bit w 3) (bit w 2) (bit w 1))
  else if bits w 3 5 = 0 ∧ bits w 24 1 = 1 ∧ bits w 27 1 = 1 then some (.cpwlMemI8 (fld w 25 2) (fld w 21 3) (fld w 16 5) (fld w 8 8) (bit w 2) (bit w 1) (bit w 0))
  else none

/-- The instruction of the word `w`, or none for a reserved one (30_encoding.md R215, R218): primary opcodes 0x9 and 0xF
and words that fail the constants of their format. -/
noncomputable def decode (w : Nat) : Option Instr :=
  match bits w 28 4 with
  | 0 => decodeAdd w
  | 1 => decodeSub w
  | 2 => decodeAnd w
  | 3 => decodeOr w
  | 4 => decodeXor w
  | 5 => decodeShift w
  | 6 => decodeMul w
  | 7 => decodeCmp w
  | 8 => decodeAddr w
  | 10 => decodeU2UMisc w
  | 11 => decodeSet w
  | 12 => decodeGet w
  | 13 => decodeXfr w
  | 14 => decodeCpw w
  | _ => none

/-- A constant word with fields, given as their values and the numbers of their low bits, put into it. -/
def place : Nat → List (Nat × Nat) → Nat
  | w, [] => w
  | w, (v, lo) :: fields => place (w + v * 2 ^ lo) fields

/-- The word of an instruction, from the constants and fields of its row; zero where the decoder ignores a field. -/
def encode : Instr → Nat
  | .addRR sf du rd rs1 rs2 =>
    place 0x00000000 [(sf.toNat, 27), (du.toNat, 24), (rd.toNat, 19), (rs1.toNat, 14), (rs2.toNat, 9)]
  | .addRX sf du rd rs1 osel oreg =>
    place 0x00000001 [(sf.toNat, 27), (du.toNat, 24), (rd.toNat, 19), (rs1.toNat, 14), (osel.toNat, 12), (oreg.toNat, 9)]
  | .movRR sf du rd rs2 =>
    place 0x00000004 [(sf.toNat, 27), (du.toNat, 24), (rd.toNat, 19), (rs2.toNat, 9)]
  | .movRX sf du rd osel oreg =>
    place 0x00000005 [(sf.toNat, 27), (du.toNat, 24), (rd.toNat, 19), (osel.toNat, 12), (oreg.toNat, 9)]
  | .addI16 sf du rd imm se h =>
    place 0x02000000 [(sf.toNat, 27), (du.toNat, 24), (rd.toNat, 19), (imm.toNat, 3), (se.toNat, 1), (h.toNat, 0)]
  | .movI16 sf du rd imm se h =>
    place 0x02000004 [(sf.toNat, 27), (du.toNat, 24), (rd.toNat, 19), (imm.toNat, 3), (se.toNat, 1), (h.toNat, 0)]
  | .addCR sf du rd rs1 rs2 ud cc =>
    place 0x04000000 [(sf.toNat, 27), (du.toNat, 24), (rd.toNat, 19), (rs1.toNat, 14), (rs2.toNat, 9), (ud.toNat, 5), (cc.toNat, 1)]
  | .addCX sf du rd rs1 osel oreg ud cc =>
    place 0x04000001 [(sf.toNat, 27), (du.toNat, 24), (rd.toNat, 19), (rs1.toNat, 14), (osel.toNat, 12), (oreg.toNat, 9), (ud.toNat, 5), (cc.toNat, 1)]
  | .addUX8 sf du rd rs imm ud =>
    place 0x06000020 [(sf.toNat, 27), (du.toNat, 24), (rd.toNat, 19), (rs.toNat, 14), (imm.toNat, 6), (ud.toNat, 1)]
  | .addCX8 sf du rd rs imm cc =>
    place 0x06000000 [(sf.toNat, 27), (du.toNat, 24), (rd.toNat, 19), (rs.toNat, 14), (imm.toNat, 6), (cc.toNat, 1)]
  | .subRR sf du rd rs1 rs2 =>
    place 0x10000000 [(sf.toNat, 27), (du.toNat, 24), (rd.toNat, 19), (rs1.toNat, 14), (rs2.toNat, 9)]
  | .subRX sf du rd rs1 osel oreg =>
    place 0x10000001 [(sf.toNat, 27), (du.toNat, 24), (rd.toNat, 19), (rs1.toNat, 14), (osel.toNat, 12), (oreg.toNat, 9)]
  | .negRR sf du rd rs2 =>
    place 0x10000004 [(sf.toNat, 27), (du.toNat, 24), (rd.toNat, 19), (rs2.toNat, 9)]
  | .negRX sf du rd osel oreg =>
    place 0x10000005 [(sf.toNat, 27), (du.toNat, 24), (rd.toNat, 19), (osel.toNat, 12), (oreg.toNat, 9)]
  | .subI16 sf du rd imm se h =>
    place 0x12000000 [(sf.toNat, 27), (du.toNat, 24), (rd.toNat, 19), (imm.toNat, 3), (se.toNat, 1), (h.toNat, 0)]
  | .negI16 sf du rd imm se h =>
    place 0x12000004 [(sf.toNat, 27), (du.toNat, 24), (rd.toNat, 19), (imm.toNat, 3), (se.toNat, 1), (h.toNat, 0)]
  | .subCR sf du rd rs1 rs2 ud cc =>
    place 0x14000000 [(sf.toNat, 27), (du.toNat, 24), (rd.toNat, 19), (rs1.toNat, 14), (rs2.toNat, 9), (ud.toNat, 5), (cc.toNat, 1)]
  | .subCX sf du rd rs1 osel oreg ud cc =>
    place 0x14000001 [(sf.toNat, 27), (du.toNat, 24), (rd.toNat, 19), (rs1.toNat, 14), (osel.toNat, 12), (oreg.toNat, 9), (ud.toNat, 5), (cc.toNat, 1)]
  | .subUX8 sf du rd rs imm ud =>
    place 0x16000020 [(sf.toNat, 27), (du.toNat, 24), (rd.toNat, 19), (rs.toNat, 14), (imm.toNat, 6), (ud.toNat, 1)]
  | .subCX8 sf du rd rs imm cc =>
    place 0x16000000 [(sf.toNat, 27), (du.toNat, 24), (rd.toNat, 19), (rs.toNat, 14), (imm.toNat, 6), (cc.toNat, 1)]
  | .andRR sf du rd rs1 rs2 =>
    place 0x20000000 [(sf.toNat, 27), (du.toNat, 24), (rd.toNat, 19), (rs1.toNat, 14), (rs2.toNat, 9)]
  | .andRX sf du rd rs1 osel oreg =>
    place 0x20000001 [(sf.toNat, 27), (du.toNat, 24), (rd.toNat, 19), (rs1.toNat, 14), (osel.toNat, 12), (oreg.toNat, 9)]
  | .andI16 sf du rd imm m se h =>
    place 0x22000000 [(sf.toNat, 27), (du.toNat, 24), (rd.toNat, 19), (imm.toNat, 3), (m.toNat, 2), (se.toNat, 1), (h.toNat, 0)]
  | .andCR sf du rd rs1 rs2 ud cc =>
    place 0x24000000 [(sf.toNat, 27), (du.toNat, 24), (rd.toNat, 19), (rs1.toNat, 14), (rs2.toNat, 9), (ud.toNat, 5), (cc.toNat, 1)]
  | .andCX sf du rd rs1 osel oreg ud cc =>
    place 0x24000001 [(sf.toNat, 27), (du.toNat, 24), (rd.toNat, 19), (rs1.toNat, 14), (osel.toNat, 12), (oreg.toNat, 9), (ud.toNat, 5), (cc.toNat, 1)]
  | .andUX8 sf du rd rs imm ud =>
    place 0x26000021 [(sf.toNat, 27), (du.toNat, 24), (rd.toNat, 19), (rs.toNat, 14), (imm.toNat, 6), (ud.toNat, 1)]
  | .andCX8 sf du rd rs imm cc =>
    place 0x26000000 [(sf.toNat, 27), (du.toNat, 24), (rd.toNat, 19), (rs.toNat, 14), (imm.toNat, 6), (cc.toNat, 1)]
  | .orRR sf du rd rs1 rs2 =>
    place 0x30000000 [(sf.toNat, 27), (du.toNat, 24), (rd.toNat, 19), (rs1.toNat, 14), (rs2.toNat, 9)]
  | .orRX sf du rd rs1 osel oreg =>
    place 0x30000001 [(sf.toNat, 27), (du.toNat, 24), (rd.toNat, 19), (rs1.toNat, 14), (osel.toNat, 12), (oreg.toNat, 9)]
  | .orI16 sf du rd imm m se h =>
    place 0x32000000 [(sf.toNat, 27), (du.toNat, 24), (rd.toNat, 19), (imm.toNat, 3), (m.toNat, 2), (se.toNat, 1), (h.toNat, 0)]
  | .orCR sf du rd rs1 rs2 ud cc =>
    place 0x34000000 [(sf.toNat, 27), (du.toNat, 24), (rd.toNat, 19), (rs1.toNat, 14), (rs2.toNat, 9), (ud.toNat, 5), (cc.toNat, 1)]
  | .orCX sf du rd rs1 osel oreg ud cc =>
    place 0x34000001 [(sf.toNat, 27), (du.toNat, 24), (rd.toNat, 19), (rs1.toNat, 14), (osel.toNat, 12), (oreg.toNat, 9), (ud.toNat, 5), (cc.toNat, 1)]
  | .orUX8 sf du rd rs imm ud =>
    place 0x36000021 [(sf.toNat, 27), (du.toNat, 24), (rd.toNat, 19), (rs.toNat, 14), (imm.toNat, 6), (ud.toNat, 1)]
  | .orCX8 sf du rd rs imm cc =>
    place 0x36000000 [(sf.toNat, 27), (du.toNat, 24), (rd.toNat, 19), (rs.toNat, 14), (imm.toNat, 6), (cc.toNat, 1)]
  | .xorRR sf du rd rs1 rs2 =>
    place 0x40000000 [(sf.toNat, 27), (du.toNat, 24), (rd.toNat, 19), (rs1.toNat, 14), (rs2.toNat, 9)]
  | .xorRX sf du rd rs1 osel oreg =>
    place 0x40000001 [(sf.toNat, 27), (du.toNat, 24), (rd.toNat, 19), (rs1.toNat, 14), (osel.toNat, 12), (oreg.toNat, 9)]
  | .xorI16 sf du rd imm m se h =>
    place 0x42000000 [(sf.toNat, 27), (du.toNat, 24), (rd.toNat, 19), (imm.toNat, 3), (m.toNat, 2), (se.toNat, 1), (h.toNat, 0)]
  | .xorCR sf du rd rs1 rs2 ud cc =>
    place 0x44000000 [(sf.toNat, 27), (du.toNat, 24), (rd.toNat, 19), (rs1.toNat, 14), (rs2.toNat, 9), (ud.toNat, 5), (cc.toNat, 1)]
  | .xorCX sf du rd rs1 osel oreg ud cc =>
    place 0x44000001 [(sf.toNat, 27), (du.toNat, 24), (rd.toNat, 19), (rs1.toNat, 14), (osel.toNat, 12), (oreg.toNat, 9), (ud.toNat, 5), (cc.toNat, 1)]
  | .xorUX8 sf du rd rs imm ud =>
    place 0x46000021 [(sf.toNat, 27), (du.toNat, 24), (rd.toNat, 19), (rs.toNat, 14), (imm.toNat, 6), (ud.toNat, 1)]
  | .xorCX8 sf du rd rs imm cc =>
    place 0x46000000 [(sf.toNat, 27), (du.toNat, 24), (rd.toNat, 19), (rs.toNat, 14), (imm.toNat, 6), (cc.toNat, 1)]
  | .addARR au rd pc1 rs1 pc2 rs2 =>
    place 0x80000000 [(au.toNat, 24), (rd.toNat, 19), (pc1.toNat, 18), (rs1.toNat, 14), (pc2.toNat, 13), (rs2.toNat, 9)]
  | .addARX au rd pc1 rs1 osel oreg =>
    place 0x80000001 [(au.toNat, 24), (rd.toNat, 19), (pc1.toNat, 18), (rs1.toNat, 14), (osel.toNat, 12), (oreg.toNat, 9)]
  | .movARR au rd pc2 rs2 =>
    place 0x80000004 [(au.toNat, 24), (rd.toNat, 19), (pc2.toNat, 13), (rs2.toNat, 9)]
  | .movARX au rd osel oreg =>
    place 0x80000005 [(au.toNat, 24), (rd.toNat, 19), (osel.toNat, 12), (oreg.toNat, 9)]
  | .addAI16 au pcb rd imm se h =>
    place 0x82000000 [(au.toNat, 24), (pcb.toNat, 23), (rd.toNat, 19), (imm.toNat, 3), (se.toNat, 1), (h.toNat, 0)]
  | .movAI16 au pcb rd imm se h =>
    place 0x82000004 [(au.toNat, 24), (pcb.toNat, 23), (rd.toNat, 19), (imm.toNat, 3), (se.toNat, 1), (h.toNat, 0)]
  | .addACR au rd pc1 rs1 pc2 rs2 ud cc =>
    place 0x84000000 [(au.toNat, 24), (rd.toNat, 19), (pc1.toNat, 18), (rs1.toNat, 14), (pc2.toNat, 13), (rs2.toNat, 9), (ud.toNat, 5), (cc.toNat, 1)]
  | .addACX au rd pc1 rs1 osel oreg ud cc =>
    place 0x84000001 [(au.toNat, 24), (rd.toNat, 19), (pc1.toNat, 18), (rs1.toNat, 14), (osel.toNat, 12), (oreg.toNat, 9), (ud.toNat, 5), (cc.toNat, 1)]
  | .addAUX8 au rd pc1 rs imm ud =>
    place 0x86000020 [(au.toNat, 24), (rd.toNat, 19), (pc1.toNat, 18), (rs.toNat, 14), (imm.toNat, 6), (ud.toNat, 1)]
  | .addACX8 au rd pc1 rs imm cc =>
    place 0x86000000 [(au.toNat, 24), (rd.toNat, 19), (pc1.toNat, 18), (rs.toNat, 14), (imm.toNat, 6), (cc.toNat, 1)]
  | .subARR au rd pc1 rs1 pc2 rs2 =>
    place 0x88000000 [(au.toNat, 24), (rd.toNat, 19), (pc1.toNat, 18), (rs1.toNat, 14), (pc2.toNat, 13), (rs2.toNat, 9)]
  | .subARX au rd pc1 rs1 osel oreg =>
    place 0x88000001 [(au.toNat, 24), (rd.toNat, 19), (pc1.toNat, 18), (rs1.toNat, 14), (osel.toNat, 12), (oreg.toNat, 9)]
  | .negARR au rd pc2 rs2 =>
    place 0x88000004 [(au.toNat, 24), (rd.toNat, 19), (pc2.toNat, 13), (rs2.toNat, 9)]
  | .negARX au rd osel oreg =>
    place 0x88000005 [(au.toNat, 24), (rd.toNat, 19), (osel.toNat, 12), (oreg.toNat, 9)]
  | .subAI16 au pcb rd imm se h =>
    place 0x8A000000 [(au.toNat, 24), (pcb.toNat, 23), (rd.toNat, 19), (imm.toNat, 3), (se.toNat, 1), (h.toNat, 0)]
  | .negAI16 au pcb rd imm se h =>
    place 0x8A000004 [(au.toNat, 24), (pcb.toNat, 23), (rd.toNat, 19), (imm.toNat, 3), (se.toNat, 1), (h.toNat, 0)]
  | .subACR au rd pc1 rs1 pc2 rs2 ud cc =>
    place 0x8C000000 [(au.toNat, 24), (rd.toNat, 19), (pc1.toNat, 18), (rs1.toNat, 14), (pc2.toNat, 13), (rs2.toNat, 9), (ud.toNat, 5), (cc.toNat, 1)]
  | .subACX au rd pc1 rs1 osel oreg ud cc =>
    place 0x8C000001 [(au.toNat, 24), (rd.toNat, 19), (pc1.toNat, 18), (rs1.toNat, 14), (osel.toNat, 12), (oreg.toNat, 9), (ud.toNat, 5), (cc.toNat, 1)]
  | .subAUX8 au rd pc1 rs imm ud =>
    place 0x8E000020 [(au.toNat, 24), (rd.toNat, 19), (pc1.toNat, 18), (rs.toNat, 14), (imm.toNat, 6), (ud.toNat, 1)]
  | .subACX8 au rd pc1 rs imm cc =>
    place 0x8E000000 [(au.toNat, 24), (rd.toNat, 19), (pc1.toNat, 18), (rs.toNat, 14), (imm.toNat, 6), (cc.toNat, 1)]
  | .lslRR sf du rd rs1 rs2 =>
    place 0x50000000 [(sf.toNat, 27), (du.toNat, 24), (rd.toNat, 19), (rs1.toNat, 14), (rs2.toNat, 9)]
  | .lslI5 sf du rd rs1 imm =>
    place 0x52000000 [(sf.toNat, 27), (du.toNat, 24), (rd.toNat, 19), (rs1.toNat, 14), (imm.toNat, 9)]
  | .lslUR sf du rd rs1 rs2 ud =>
    place 0x54000020 [(sf.toNat, 27), (du.toNat, 24), (rd.toNat, 19), (rs1.toNat, 14), (rs2.toNat, 9), (ud.toNat, 1)]
  | .lslUI5 sf du rd rs1 imm ud =>
    place 0x56000020 [(sf.toNat, 27), (du.toNat, 24), (rd.toNat, 19), (rs1.toNat, 14), (imm.toNat, 9), (ud.toNat, 1)]
  | .lslCR sf du rd rs1 rs2 cc =>
    place 0x54000000 [(sf.toNat, 27), (du.toNat, 24), (rd.toNat, 19), (rs1.toNat, 14), (rs2.toNat, 9), (cc.toNat, 1)]
  | .lslCI5 sf du rd rs1 imm cc =>
    place 0x56000000 [(sf.toNat, 27), (du.toNat, 24), (rd.toNat, 19), (rs1.toNat, 14), (imm.toNat, 9), (cc.toNat, 1)]
  | .lsrRR sf du rd rs1 rs2 =>
    place 0x50000040 [(sf.toNat, 27), (du.toNat, 24), (rd.toNat, 19), (rs1.toNat, 14), (rs2.toNat, 9)]
  | .lsrI5 sf du rd rs1 imm =>
    place 0x52000040 [(sf.toNat, 27), (du.toNat, 24), (rd.toNat, 19), (rs1.toNat, 14), (imm.toNat, 9)]
  | .lsrUR sf du rd rs1 rs2 ud =>
    place 0x54000060 [(sf.toNat, 27), (du.toNat, 24), (rd.toNat, 19), (rs1.toNat, 14), (rs2.toNat, 9), (ud.toNat, 1)]
  | .lsrUI5 sf du rd rs1 imm ud =>
    place 0x56000060 [(sf.toNat, 27), (du.toNat, 24), (rd.toNat, 19), (rs1.toNat, 14), (imm.toNat, 9), (ud.toNat, 1)]
  | .lsrCR sf du rd rs1 rs2 cc =>
    place 0x54000040 [(sf.toNat, 27), (du.toNat, 24), (rd.toNat, 19), (rs1.toNat, 14), (rs2.toNat, 9), (cc.toNat, 1)]
  | .lsrCI5 sf du rd rs1 imm cc =>
    place 0x56000040 [(sf.toNat, 27), (du.toNat, 24), (rd.toNat, 19), (rs1.toNat, 14), (imm.toNat, 9), (cc.toNat, 1)]
  | .aslRR sf du rd rs1 rs2 =>
    place 0x50000080 [(sf.toNat, 27), (du.toNat, 24), (rd.toNat, 19), (rs1.toNat, 14), (rs2.toNat, 9)]
  | .aslI5 sf du rd rs1 imm =>
    place 0x52000080 [(sf.toNat, 27), (du.toNat, 24), (rd.toNat, 19), (rs1.toNat, 14), (imm.toNat, 9)]
  | .aslUR sf du rd rs1 rs2 ud =>
    place 0x540000A0 [(sf.toNat, 27), (du.toNat, 24), (rd.toNat, 19), (rs1.toNat, 14), (rs2.toNat, 9), (ud.toNat, 1)]
  | .aslUI5 sf du rd rs1 imm ud =>
    place 0x560000A0 [(sf.toNat, 27), (du.toNat, 24), (rd.toNat, 19), (rs1.toNat, 14), (imm.toNat, 9), (ud.toNat, 1)]
  | .aslCR sf du rd rs1 rs2 cc =>
    place 0x54000080 [(sf.toNat, 27), (du.toNat, 24), (rd.toNat, 19), (rs1.toNat, 14), (rs2.toNat, 9), (cc.toNat, 1)]
  | .aslCI5 sf du rd rs1 imm cc =>
    place 0x56000080 [(sf.toNat, 27), (du.toNat, 24), (rd.toNat, 19), (rs1.toNat, 14), (imm.toNat, 9), (cc.toNat, 1)]
  | .asrRR sf du rd rs1 rs2 =>
    place 0x500000C0 [(sf.toNat, 27), (du.toNat, 24), (rd.toNat, 19), (rs1.toNat, 14), (rs2.toNat, 9)]
  | .asrI5 sf du rd rs1 imm =>
    place 0x520000C0 [(sf.toNat, 27), (du.toNat, 24), (rd.toNat, 19), (rs1.toNat, 14), (imm.toNat, 9)]
  | .asrUR sf du rd rs1 rs2 ud =>
    place 0x540000E0 [(sf.toNat, 27), (du.toNat, 24), (rd.toNat, 19), (rs1.toNat, 14), (rs2.toNat, 9), (ud.toNat, 1)]
  | .asrUI5 sf du rd rs1 imm ud =>
    place 0x560000E0 [(sf.toNat, 27), (du.toNat, 24), (rd.toNat, 19), (rs1.toNat, 14), (imm.toNat, 9), (ud.toNat, 1)]
  | .asrCR sf du rd rs1 rs2 cc =>
    place 0x540000C0 [(sf.toNat, 27), (du.toNat, 24), (rd.toNat, 19), (rs1.toNat, 14), (rs2.toNat, 9), (cc.toNat, 1)]
  | .asrCI5 sf du rd rs1 imm cc =>
    place 0x560000C0 [(sf.toNat, 27), (du.toNat, 24), (rd.toNat, 19), (rs1.toNat, 14), (imm.toNat, 9), (cc.toNat, 1)]
  | .mulwRR du rd rs1 rs2 =>
    place 0x60000000 [(du.toNat, 24), (rd.toNat, 19), (rs1.toNat, 14), (rs2.toNat, 9)]
  | .mulwRX du rd rs1 osel oreg =>
    place 0x60000001 [(du.toNat, 24), (rd.toNat, 19), (rs1.toNat, 14), (osel.toNat, 12), (oreg.toNat, 9)]
  | .mulwI16 du rd imm se h =>
    place 0x62000000 [(du.toNat, 24), (rd.toNat, 19), (imm.toNat, 3), (se.toNat, 1), (h.toNat, 0)]
  | .mulwUR du rd rs1 rs2 ud =>
    place 0x64000020 [(du.toNat, 24), (rd.toNat, 19), (rs1.toNat, 14), (rs2.toNat, 9), (ud.toNat, 1)]
  | .mulwUX du rd rs1 osel oreg ud =>
    place 0x64000021 [(du.toNat, 24), (rd.toNat, 19), (rs1.toNat, 14), (osel.toNat, 12), (oreg.toNat, 9), (ud.toNat, 1)]
  | .mulwUX8 du rd rs imm ud =>
    place 0x66000020 [(du.toNat, 24), (rd.toNat, 19), (rs.toNat, 14), (imm.toNat, 6), (ud.toNat, 1)]
  | .mulwCR du rd rs1 rs2 cc =>
    place 0x64000000 [(du.toNat, 24), (rd.toNat, 19), (rs1.toNat, 14), (rs2.toNat, 9), (cc.toNat, 1)]
  | .mulwCX du rd rs1 osel oreg cc =>
    place 0x64000001 [(du.toNat, 24), (rd.toNat, 19), (rs1.toNat, 14), (osel.toNat, 12), (oreg.toNat, 9), (cc.toNat, 1)]
  | .mulwCX8 du rd rs imm cc =>
    place 0x66000000 [(du.toNat, 24), (rd.toNat, 19), (rs.toNat, 14), (imm.toNat, 6), (cc.toNat, 1)]
  | .muldRR du rd rs1 rs2 =>
    place 0x60000040 [(du.toNat, 24), (rd.toNat, 19), (rs1.toNat, 14), (rs2.toNat, 9)]
  | .muldRX du rd rs1 osel oreg =>
    place 0x60000041 [(du.toNat, 24), (rd.toNat, 19), (rs1.toNat, 14), (osel.toNat, 12), (oreg.toNat, 9)]
  | .muldI16 du rd imm se h =>
    place 0x62000004 [(du.toNat, 24), (rd.toNat, 19), (imm.toNat, 3), (se.toNat, 1), (h.toNat, 0)]
  | .muldUR du rd rs1 rs2 ud =>
    place 0x64000060 [(du.toNat, 24), (rd.toNat, 19), (rs1.toNat, 14), (rs2.toNat, 9), (ud.toNat, 1)]
  | .muldUX du rd rs1 osel oreg ud =>
    place 0x64000061 [(du.toNat, 24), (rd.toNat, 19), (rs1.toNat, 14), (osel.toNat, 12), (oreg.toNat, 9), (ud.toNat, 1)]
  | .muldUX8 du rd rs imm ud =>
    place 0x66000021 [(du.toNat, 24), (rd.toNat, 19), (rs.toNat, 14), (imm.toNat, 6), (ud.toNat, 1)]
  | .muldCR du rd rs1 rs2 cc =>
    place 0x64000040 [(du.toNat, 24), (rd.toNat, 19), (rs1.toNat, 14), (rs2.toNat, 9), (cc.toNat, 1)]
  | .muldCX du rd rs1 osel oreg cc =>
    place 0x64000041 [(du.toNat, 24), (rd.toNat, 19), (rs1.toNat, 14), (osel.toNat, 12), (oreg.toNat, 9), (cc.toNat, 1)]
  | .muldCX8 du rd rs imm cc =>
    place 0x66000001 [(du.toNat, 24), (rd.toNat, 19), (rs.toNat, 14), (imm.toNat, 6), (cc.toNat, 1)]
  | .absRR du rd rs =>
    place 0x70000028 [(du.toNat, 24), (rd.toNat, 19), (rs.toNat, 14)]
  | .ffbRR du rd rs =>
    place 0x70000004 [(du.toNat, 24), (rd.toNat, 19), (rs.toNat, 14)]
  | .maxRR du rd rs1 rs2 =>
    place 0x70000024 [(du.toNat, 24), (rd.toNat, 19), (rs1.toNat, 14), (rs2.toNat, 9)]
  | .minRR du rd rs1 rs2 =>
    place 0x70000020 [(du.toNat, 24), (rd.toNat, 19), (rs1.toNat, 14), (rs2.toNat, 9)]
  | .mortRR du rd rs1 rs2 =>
    place 0x70000058 [(du.toNat, 24), (rd.toNat, 19), (rs1.toNat, 14), (rs2.toNat, 9)]
  | .mortRX du rd rs1 osel oreg =>
    place 0x70000059 [(du.toNat, 24), (rd.toNat, 19), (rs1.toNat, 14), (osel.toNat, 12), (oreg.toNat, 9)]
  | .nminRR du rd rs1 rs2 =>
    place 0x7000002C [(du.toNat, 24), (rd.toNat, 19), (rs1.toNat, 14), (rs2.toNat, 9)]
  | .normRR du rd rs =>
    place 0x70000008 [(du.toNat, 24), (rd.toNat, 19), (rs.toNat, 14)]
  | .vpackRR du rd rs1 rs2 =>
    place 0x70000018 [(du.toNat, 24), (rd.toNat, 19), (rs1.toNat, 14), (rs2.toNat, 9)]
  | .vpackRX du rd rs1 osel oreg =>
    place 0x70000019 [(du.toNat, 24), (rd.toNat, 19), (rs1.toNat, 14), (osel.toNat, 12), (oreg.toNat, 9)]
  | .cmpRR du rs1 rs2 =>
    place 0x70000000 [(du.toNat, 24), (rs1.toNat, 14), (rs2.toNat, 9)]
  | .cmpRX du rs1 osel oreg =>
    place 0x70000001 [(du.toNat, 24), (rs1.toNat, 14), (osel.toNat, 12), (oreg.toNat, 9)]
  | .cmpI16 du rs imm m se h =>
    place 0x72000000 [(du.toNat, 24), (rs.toNat, 19), (imm.toNat, 3), (m.toNat, 2), (se.toNat, 1), (h.toNat, 0)]
  | .cmpCR du rs1 rs2 cc =>
    place 0x74000000 [(du.toNat, 24), (rs1.toNat, 14), (rs2.toNat, 9), (cc.toNat, 1)]
  | .cmpCX du rs1 osel oreg cc =>
    place 0x74000001 [(du.toNat, 24), (rs1.toNat, 14), (osel.toNat, 12), (oreg.toNat, 9), (cc.toNat, 1)]
  | .cmpCX8 du rs imm cc =>
    place 0x76000000 [(du.toNat, 24), (rs.toNat, 14), (imm.toNat, 6), (cc.toNat, 1)]
  | .tstRR du rs1 rs2 =>
    place 0x78000000 [(du.toNat, 24), (rs1.toNat, 14), (rs2.toNat, 9)]
  | .tstRX du rs1 osel oreg =>
    place 0x78000001 [(du.toNat, 24), (rs1.toNat, 14), (osel.toNat, 12), (oreg.toNat, 9)]
  | .tstI16 du rs imm m se h =>
    place 0x7A000000 [(du.toNat, 24), (rs.toNat, 19), (imm.toNat, 3), (m.toNat, 2), (se.toNat, 1), (h.toNat, 0)]
  | .tstCR du rs1 rs2 cc =>
    place 0x7C000000 [(du.toNat, 24), (rs1.toNat, 14), (rs2.toNat, 9), (cc.toNat, 1)]
  | .tstCX du rs1 osel oreg cc =>
    place 0x7C000001 [(du.toNat, 24), (rs1.toNat, 14), (osel.toNat, 12), (oreg.toNat, 9), (cc.toNat, 1)]
  | .tstCX8 du rs imm cc =>
    place 0x7E000000 [(du.toNat, 24), (rs.toNat, 14), (imm.toNat, 6), (cc.toNat, 1)]
  | .nop =>
    place 0xA0FFFFFE []
  | .branch off rep =>
    place 0xA0000000 [(off.toNat, 5), (rep.toNat, 0)]
  | .branchCc off cc rep =>
    place 0xA0000000 [(off.toNat, 5), (cc.toNat, 1), (rep.toNat, 0)]
  | .movbRd rd ud cc =>
    place 0xA1040000 [(rd.toNat, 19), (ud.toNat, 5), (cc.toNat, 1)]
  | .movwRd rd ud cc =>
    place 0xA1041000 [(rd.toNat, 19), (ud.toNat, 5), (cc.toNat, 1)]
  | .movdRd rd ud cc =>
    place 0xA1042000 [(rd.toNat, 19), (ud.toNat, 5), (cc.toNat, 1)]
  | .cprbUnit rd cp ud cc =>
    place 0xA1000000 [(rd.toNat, 19), (cp.toNat, 14), (ud.toNat, 5), (cc.toNat, 1)]
  | .cprwUnit rd cp ud cc =>
    place 0xA1001000 [(rd.toNat, 19), (cp.toNat, 14), (ud.toNat, 5), (cc.toNat, 1)]
  | .cprdUnit rd cp ud cc =>
    place 0xA1002000 [(rd.toNat, 19), (cp.toNat, 14), (ud.toNat, 5), (cc.toNat, 1)]
  | .movlTtrec rs1 rs2 bu cc =>
    place 0xA2002001 [(rs1.toNat, 19), (rs2.toNat, 14), (bu.toNat, 5), (cc.toNat, 1)]
  | .movlRd rd1 rd2 bu cc =>
    place 0xA2040000 [(rd1.toNat, 19), (rd2.toNat, 9), (bu.toNat, 5), (cc.toNat, 1)]
  | .cprlPair rd1 cp rd2 bu cc =>
    place 0xA2000000 [(rd1.toNat, 19), (cp.toNat, 14), (rd2.toNat, 9), (bu.toNat, 5), (cc.toNat, 1)]
  | .rti =>
    place 0xA3FFFFFF []
  | .rth =>
    place 0xA37FFFFF []
  | .ttmov rd rs us ud cc =>
    place 0xA3000201 [(rd.toNat, 19), (rs.toNat, 14), (us.toNat, 10), (ud.toNat, 5), (cc.toNat, 1)]
  | .kick rd rs ud cc =>
    place 0xA3000001 [(rd.toNat, 19), (rs.toNat, 14), (ud.toNat, 5), (cc.toNat, 1)]
  | .defr rd rs ud cc =>
    place 0xA3002001 [(rd.toNat, 19), (rs.toNat, 14), (ud.toNat, 5), (cc.toNat, 1)]
  | .swap rd rs us ud =>
    place 0xA3000001 [(rd.toNat, 19), (rs.toNat, 14), (us.toNat, 10), (ud.toNat, 5)]
  | .swapCc rd rs us ud cc =>
    place 0xA3000001 [(rd.toNat, 19), (rs.toNat, 14), (us.toNat, 10), (ud.toNat, 5), (cc.toNat, 1)]
  | .movUnit rd rs us ud =>
    place 0xA3000000 [(rd.toNat, 19), (rs.toNat, 14), (us.toNat, 10), (ud.toNat, 5)]
  | .movUnitCc rd rs us ud cc =>
    place 0xA3000000 [(rd.toNat, 19), (rs.toNat, 14), (us.toNat, 10), (ud.toNat, 5), (cc.toNat, 1)]
  | .cprbMemCc cp rb bu cc =>
    place 0xA4001800 [(cp.toNat, 19), (rb.toNat, 14), (bu.toNat, 5), (cc.toNat, 1)]
  | .cprwMemCc cp rb bu cc =>
    place 0xA4001900 [(cp.toNat, 19), (rb.toNat, 14), (bu.toNat, 5), (cc.toNat, 1)]
  | .cprdMemCc cp rb bu cc =>
    place 0xA4001A00 [(cp.toNat, 19), (rb.toNat, 14), (bu.toNat, 5), (cc.toNat, 1)]
  | .cprlMemCc cp rb bu cc =>
    place 0xA4001B00 [(cp.toNat, 19), (rb.toNat, 14), (bu.toNat, 5), (cc.toNat, 1)]
  | .setbCc rs rb us bu cc =>
    place 0xA4000000 [(rs.toNat, 19), (rb.toNat, 14), (us.toNat, 10), (bu.toNat, 5), (cc.toNat, 1)]
  | .setwCc rs rb us bu cc =>
    place 0xA4000100 [(rs.toNat, 19), (rb.toNat, 14), (us.toNat, 10), (bu.toNat, 5), (cc.toNat, 1)]
  | .setdCc rs rb us bu cc =>
    place 0xA4000200 [(rs.toNat, 19), (rb.toNat, 14), (us.toNat, 10), (bu.toNat, 5), (cc.toNat, 1)]
  | .setlCc rs rb us bu cc =>
    place 0xA4000300 [(rs.toNat, 19), (rb.toNat, 14), (us.toNat, 10), (bu.toNat, 5), (cc.toNat, 1)]
  | .lnksetb rs rb us bu cc =>
    place 0xA4000001 [(rs.toNat, 19), (rb.toNat, 14), (us.toNat, 10), (bu.toNat, 5), (cc.toNat, 1)]
  | .lnksetw rs rb us bu cc =>
    place 0xA4000101 [(rs.toNat, 19), (rb.toNat, 14), (us.toNat, 10), (bu.toNat, 5), (cc.toNat, 1)]
  | .lnksetd rs rb us bu cc =>
    place 0xA4000201 [(rs.toNat, 19), (rb.toNat, 14), (us.toNat, 10), (bu.toNat, 5), (cc.toNat, 1)]
  | .lnksetl rs rb us bu cc =>
    place 0xA4000301 [(rs.toNat, 19), (rb.toNat, 14), (us.toNat, 10), (bu.toNat, 5), (cc.toNat, 1)]
  | .setbS12 rs imm bua bus rb =>
    place 0xA5000000 [(rs.toNat, 19), (imm.toNat, 7), (bua.toNat, 5), (bus.toNat, 3), (rb.toNat, 0)]
  | .setwS12 rs imm bua bus rb =>
    place 0xA5000002 [(rs.toNat, 19), (imm.toNat, 7), (bua.toNat, 5), (bus.toNat, 3), (rb.toNat, 0)]
  | .setdS12 rs imm bua bus rb =>
    place 0xA5000004 [(rs.toNat, 19), (imm.toNat, 7), (bua.toNat, 5), (bus.toNat, 3), (rb.toNat, 0)]
  | .setlS12 rs imm bua bus rb =>
    place 0xA5000006 [(rs.toNat, 19), (imm.toNat, 7), (bua.toNat, 5), (bus.toNat, 3), (rb.toNat, 0)]
  | .movbRaS12 port imm bua rb =>
    place 0xA6000000 [(port.toNat, 19), (imm.toNat, 7), (bua.toNat, 5), (rb.toNat, 0)]
  | .movwRaS12 port imm bua rb =>
    place 0xA6000002 [(port.toNat, 19), (imm.toNat, 7), (bua.toNat, 5), (rb.toNat, 0)]
  | .movdRaS12 port imm bua rb =>
    place 0xA6000004 [(port.toNat, 19), (imm.toNat, 7), (bua.toNat, 5), (rb.toNat, 0)]
  | .movlRaS12 port imm bua rb =>
    place 0xA6000006 [(port.toNat, 19), (imm.toNat, 7), (bua.toNat, 5), (rb.toNat, 0)]
  | .getbS12 rd imm bua bud rb =>
    place 0xA7000000 [(rd.toNat, 19), (imm.toNat, 7), (bua.toNat, 5), (bud.toNat, 3), (rb.toNat, 0)]
  | .getwS12 rd imm bua bud rb =>
    place 0xA7000002 [(rd.toNat, 19), (imm.toNat, 7), (bua.toNat, 5), (bud.toNat, 3), (rb.toNat, 0)]
  | .getdS12 rd imm bua bud rb =>
    place 0xA7000004 [(rd.toNat, 19), (imm.toNat, 7), (bua.toNat, 5), (bud.toNat, 3), (rb.toNat, 0)]
  | .getlS12 rd imm bua bud rb =>
    place 0xA7000006 [(rd.toNat, 19), (imm.toNat, 7), (bua.toNat, 5), (bud.toNat, 3), (rb.toNat, 0)]
  | .lock0 =>
    place 0xA8000000 []
  | .lock1 =>
    place 0xA8000001 []
  | .lock2 =>
    place 0xA8000003 []
  | .movCt rd imm se h =>
    place 0xA9000000 [(rd.toNat, 19), (imm.toNat, 3), (se.toNat, 1), (h.toNat, 0)]
  | .movTt rd imm se h =>
    place 0xA9000004 [(rd.toNat, 19), (imm.toNat, 3), (se.toNat, 1), (h.toNat, 0)]
  | .xsdb rd rs sf du =>
    place 0xAA000000 [(rd.toNat, 19), (rs.toNat, 14), (sf.toNat, 3), (du.toNat, 0)]
  | .xsdw rd rs sf du =>
    place 0xAA000002 [(rd.toNat, 19), (rs.toNat, 14), (sf.toNat, 3), (du.toNat, 0)]
  | .bexd rd rs sf du =>
    place 0xAA000004 [(rd.toNat, 19), (rs.toNat, 14), (sf.toNat, 3), (du.toNat, 0)]
  | .bexl rd rs sf du =>
    place 0xAA000014 [(rd.toNat, 19), (rs.toNat, 14), (sf.toNat, 3), (du.toNat, 0)]
  | .rtdw rd rs sf du =>
    place 0xAA000006 [(rd.toNat, 19), (rs.toNat, 14), (sf.toNat, 3), (du.toNat, 0)]
  | .callr off bu rr =>
    place 0xAB000000 [(off.toNat, 5), (bu.toNat, 3), (rr.toNat, 0)]
  | .jump rs imm bu =>
    place 0xAC000000 [(rs.toNat, 19), (imm.toNat, 3), (bu.toNat, 0)]
  | .call rs imm bu =>
    place 0xAC000004 [(rs.toNat, 19), (imm.toNat, 3), (bu.toNat, 0)]
  | .lnkgetb rd rb bua bur =>
    place 0xAD000080 [(rd.toNat, 19), (rb.toNat, 14), (bua.toNat, 5), (bur.toNat, 3)]
  | .lnkgetw rd rb bua bur =>
    place 0xAD000082 [(rd.toNat, 19), (rb.toNat, 14), (bua.toNat, 5), (bur.toNat, 3)]
  | .lnkgetd rd rb bua bur =>
    place 0xAD000084 [(rd.toNat, 19), (rb.toNat, 14), (bua.toNat, 5), (bur.toNat, 3)]
  | .lnkgetl rd rb bua bur =>
    place 0xAD000086 [(rd.toNat, 19), (rb.toNat, 14), (bua.toNat, 5), (bur.toNat, 3)]
  | .cacherl rd rb imm bua bur =>
    place 0xAD000083 [(rd.toNat, 19), (rb.toNat, 14), (imm.toNat, 8), (bua.toNat, 5), (bur.toNat, 3)]
  | .cacherd rd rb imm bua bur =>
    place 0xAD000081 [(rd.toNat, 19), (rb.toNat, 14), (imm.toNat, 8), (bua.toNat, 5), (bur.toNat, 3)]
  | .cachewl rs rb imm bua bur =>
    place 0xAD000003 [(rs.toNat, 19), (rb.toNat, 14), (imm.toNat, 8), (bua.toNat, 5), (bur.toNat, 3)]
  | .cachewd rs rb imm bua bur =>
    place 0xAD000001 [(rs.toNat, 19), (rb.toNat, 14), (imm.toNat, 8), (bua.toNat, 5), (bur.toNat, 3)]
  | .dcache rs rb imm bua bur =>
    place 0xAD000000 [(rs.toNat, 19), (rb.toNat, 14), (imm.toNat, 8), (bua.toNat, 5), (bur.toNat, 3)]
  | .icacheExit pri =>
    place 0xAE000000 [(pri.toNat, 4)]
  | .icache off count pri =>
    place 0xAE000000 [(off.toNat, 9), (count.toNat, 5), (pri.toNat, 4)]
  | .switch value =>
    place 0xAF000000 [(value.toNat, 0)]
  | .cprbMemR rb ro ua bu pp cp =>
    place 0xB000000C [(rb.toNat, 14), (ro.toNat, 9), (ua.toNat, 7), (bu.toNat, 5), (pp.toNat, 0), (cp.toNat, 19)]
  | .cprbMemI6 rb imm ua bu pp cp =>
    place 0xB400000C [(rb.toNat, 14), (imm.toNat, 8), (ua.toNat, 7), (bu.toNat, 5), (pp.toNat, 0), (cp.toNat, 19)]
  | .cprwMemR rb ro ua bu pp cp =>
    place 0xB100000C [(rb.toNat, 14), (ro.toNat, 9), (ua.toNat, 7), (bu.toNat, 5), (pp.toNat, 0), (cp.toNat, 19)]
  | .cprwMemI6 rb imm ua bu pp cp =>
    place 0xB500000C [(rb.toNat, 14), (imm.toNat, 8), (ua.toNat, 7), (bu.toNat, 5), (pp.toNat, 0), (cp.toNat, 19)]
  | .cprdMemR rb ro ua bu pp cp =>
    place 0xB200000C [(rb.toNat, 14), (ro.toNat, 9), (ua.toNat, 7), (bu.toNat, 5), (pp.toNat, 0), (cp.toNat, 19)]
  | .cprdMemI6 rb imm ua bu pp cp =>
    place 0xB600000C [(rb.toNat, 14), (imm.toNat, 8), (ua.toNat, 7), (bu.toNat, 5), (pp.toNat, 0), (cp.toNat, 19)]
  | .cprlMemR rb ro ua bu pp cp =>
    place 0xB300000C [(rb.toNat, 14), (ro.toNat, 9), (ua.toNat, 7), (bu.toNat, 5), (pp.toNat, 0), (cp.toNat, 19)]
  | .cprlMemI6 rb imm ua bu pp cp =>
    place 0xB700000C [(rb.toNat, 14), (imm.toNat, 8), (ua.toNat, 7), (bu.toNat, 5), (pp.toNat, 0), (cp.toNat, 19)]
  | .setdShort rs rb imm ua us pp =>
    place 0xB6000060 [(rs.toNat, 19), (rb.toNat, 14), (imm.toNat, 8), (ua.toNat, 7), (us.toNat, 1), (pp.toNat, 0)]
  | .setbR rs rb ro ua bu us pp =>
    place 0xB0000000 [(rs.toNat, 19), (rb.toNat, 14), (ro.toNat, 9), (ua.toNat, 7), (bu.toNat, 5), (us.toNat, 1), (pp.toNat, 0)]
  | .setbI6 rs rb imm ua bu us pp =>
    place 0xB4000000 [(rs.toNat, 19), (rb.toNat, 14), (imm.toNat, 8), (ua.toNat, 7), (bu.toNat, 5), (us.toNat, 1), (pp.toNat, 0)]
  | .setwR rs rb ro ua bu us pp =>
    place 0xB1000000 [(rs.toNat, 19), (rb.toNat, 14), (ro.toNat, 9), (ua.toNat, 7), (bu.toNat, 5), (us.toNat, 1), (pp.toNat, 0)]
  | .setwI6 rs rb imm ua bu us pp =>
    place 0xB5000000 [(rs.toNat, 19), (rb.toNat, 14), (imm.toNat, 8), (ua.toNat, 7), (bu.toNat, 5), (us.toNat, 1), (pp.toNat, 0)]
  | .setdR rs rb ro ua bu us pp =>
    place 0xB2000000 [(rs.toNat, 19), (rb.toNat, 14), (ro.toNat, 9), (ua.toNat, 7), (bu.toNat, 5), (us.toNat, 1), (pp.toNat, 0)]
  | .setdI6 rs rb imm ua bu us pp =>
    place 0xB6000000 [(rs.toNat, 19), (rb.toNat, 14), (imm.toNat, 8), (ua.toNat, 7), (bu.toNat, 5), (us.toNat, 1), (pp.toNat, 0)]
  | .setlR rs rb ro ua bu us pp =>
    place 0xB3000000 [(rs.toNat, 19), (rb.toNat, 14), (ro.toNat, 9), (ua.toNat, 7), (bu.toNat, 5), (us.toNat, 1), (pp.toNat, 0)]
  | .setlI6 rs rb imm ua bu us pp =>
    place 0xB7000000 [(rs.toNat, 19), (rb.toNat, 14), (imm.toNat, 8), (ua.toNat, 7), (bu.toNat, 5), (us.toNat, 1), (pp.toNat, 0)]
  | .msetd rs rb rmask bua bus =>
    place 0xB8000000 [(rs.toNat, 19), (rb.toNat, 14), (rmask.toNat, 7), (bua.toNat, 5), (bus.toNat, 3)]
  | .msetl rs rb rmask bua bus =>
    place 0xB9000000 [(rs.toNat, 19), (rb.toNat, 14), (rmask.toNat, 7), (bua.toNat, 5), (bus.toNat, 3)]
  | .movbRaR rb ro ua bu pp port =>
    place 0xC000000C [(rb.toNat, 14), (ro.toNat, 9), (ua.toNat, 7), (bu.toNat, 5), (pp.toNat, 0), (port.toNat, 19)]
  | .movbRaI6 rb imm ua bu pp port =>
    place 0xC400000C [(rb.toNat, 14), (imm.toNat, 8), (ua.toNat, 7), (bu.toNat, 5), (pp.toNat, 0), (port.toNat, 19)]
  | .movwRaR rb ro ua bu pp port =>
    place 0xC100000C [(rb.toNat, 14), (ro.toNat, 9), (ua.toNat, 7), (bu.toNat, 5), (pp.toNat, 0), (port.toNat, 19)]
  | .movwRaI6 rb imm ua bu pp port =>
    place 0xC500000C [(rb.toNat, 14), (imm.toNat, 8), (ua.toNat, 7), (bu.toNat, 5), (pp.toNat, 0), (port.toNat, 19)]
  | .movdRaR rb ro ua bu pp port =>
    place 0xC200000C [(rb.toNat, 14), (ro.toNat, 9), (ua.toNat, 7), (bu.toNat, 5), (pp.toNat, 0), (port.toNat, 19)]
  | .movdRaI6 rb imm ua bu pp port =>
    place 0xC600000C [(rb.toNat, 14), (imm.toNat, 8), (ua.toNat, 7), (bu.toNat, 5), (pp.toNat, 0), (port.toNat, 19)]
  | .movlRaR rb ro ua bu pp port =>
    place 0xC300000C [(rb.toNat, 14), (ro.toNat, 9), (ua.toNat, 7), (bu.toNat, 5), (pp.toNat, 0), (port.toNat, 19)]
  | .movlRaI6 rb imm ua bu pp port =>
    place 0xC700000C [(rb.toNat, 14), (imm.toNat, 8), (ua.toNat, 7), (bu.toNat, 5), (pp.toNat, 0), (port.toNat, 19)]
  | .getdShort rd rb imm ua ud pp =>
    place 0xC6000060 [(rd.toNat, 19), (rb.toNat, 14), (imm.toNat, 8), (ua.toNat, 7), (ud.toNat, 1), (pp.toNat, 0)]
  | .getbR rd rb ro ua bu ud pp =>
    place 0xC0000000 [(rd.toNat, 19), (rb.toNat, 14), (ro.toNat, 9), (ua.toNat, 7), (bu.toNat, 5), (ud.toNat, 1), (pp.toNat, 0)]
  | .getbI6 rd rb imm ua bu ud pp =>
    place 0xC4000000 [(rd.toNat, 19), (rb.toNat, 14), (imm.toNat, 8), (ua.toNat, 7), (bu.toNat, 5), (ud.toNat, 1), (pp.toNat, 0)]
  | .getwR rd rb ro ua bu ud pp =>
    place 0xC1000000 [(rd.toNat, 19), (rb.toNat, 14), (ro.toNat, 9), (ua.toNat, 7), (bu.toNat, 5), (ud.toNat, 1), (pp.toNat, 0)]
  | .getwI6 rd rb imm ua bu ud pp =>
    place 0xC5000000 [(rd.toNat, 19), (rb.toNat, 14), (imm.toNat, 8), (ua.toNat, 7), (bu.toNat, 5), (ud.toNat, 1), (pp.toNat, 0)]
  | .getdR rd rb ro ua bu ud pp =>
    place 0xC2000000 [(rd.toNat, 19), (rb.toNat, 14), (ro.toNat, 9), (ua.toNat, 7), (bu.toNat, 5), (ud.toNat, 1), (pp.toNat, 0)]
  | .getdI6 rd rb imm ua bu ud pp =>
    place 0xC6000000 [(rd.toNat, 19), (rb.toNat, 14), (imm.toNat, 8), (ua.toNat, 7), (bu.toNat, 5), (ud.toNat, 1), (pp.toNat, 0)]
  | .getlR rd rb ro ua bu ud pp =>
    place 0xC3000000 [(rd.toNat, 19), (rb.toNat, 14), (ro.toNat, 9), (ua.toNat, 7), (bu.toNat, 5), (ud.toNat, 1), (pp.toNat, 0)]
  | .getlI6 rd rb imm ua bu ud pp =>
    place 0xC7000000 [(rd.toNat, 19), (rb.toNat, 14), (imm.toNat, 8), (ua.toNat, 7), (bu.toNat, 5), (ud.toNat, 1), (pp.toNat, 0)]
  | .mgetd rd rb rmask bua bud =>
    place 0xC8000000 [(rd.toNat, 19), (rb.toNat, 14), (rmask.toNat, 7), (bua.toNat, 5), (bud.toNat, 3)]
  | .mgetl rd rb rmask bua bud =>
    place 0xC9000000 [(rd.toNat, 19), (rb.toNat, 14), (rmask.toNat, 7), (bua.toNat, 5), (bud.toNat, 3)]
  | .mmovdRa port rb rmask bua =>
    place 0xCA000000 [(port.toNat, 19), (rb.toNat, 14), (rmask.toNat, 7), (bua.toNat, 5)]
  | .mmovlRa port rb rmask bua =>
    place 0xCB000000 [(port.toNat, 19), (rb.toNat, 14), (rmask.toNat, 7), (bua.toNat, 5)]
  | .mdrd rmask =>
    place 0xCC000002 [(rmask.toNat, 7)]
  | .mmovdRd rd rmask bur =>
    place 0xCC000000 [(rd.toNat, 19), (rmask.toNat, 7), (bur.toNat, 3)]
  | .mmovlRd rd rmask bur =>
    place 0xCD000000 [(rd.toNat, 19), (rmask.toNat, 7), (bur.toNat, 3)]
  | .cprdr0 updD pp rdb rdo cp =>
    place 0xD0000000 [(updD.toNat, 27), (pp.toNat, 25), (rdb.toNat, 19), (rdo.toNat, 14), (cp.toNat, 9)]
  | .cprdr1 updD pp rdb rdo cp =>
    place 0xD0000005 [(updD.toNat, 27), (pp.toNat, 25), (rdb.toNat, 19), (rdo.toNat, 14), (cp.toNat, 9)]
  | .cprdr2 updD pp rdb rdo cp =>
    place 0xD000000A [(updD.toNat, 27), (pp.toNat, 25), (rdb.toNat, 19), (rdo.toNat, 14), (cp.toNat, 9)]
  | .cprdr3 updD pp rdb rdo cp =>
    place 0xD000000F [(updD.toNat, 27), (pp.toNat, 25), (rdb.toNat, 19), (rdo.toNat, 14), (cp.toNat, 9)]
  | .cprlr0 updD pp rdb rdo cp =>
    place 0xD1000000 [(updD.toNat, 27), (pp.toNat, 25), (rdb.toNat, 19), (rdo.toNat, 14), (cp.toNat, 9)]
  | .cprlr1 updD pp rdb rdo cp =>
    place 0xD1000005 [(updD.toNat, 27), (pp.toNat, 25), (rdb.toNat, 19), (rdo.toNat, 14), (cp.toNat, 9)]
  | .cprlr2 updD pp rdb rdo cp =>
    place 0xD100000A [(updD.toNat, 27), (pp.toNat, 25), (rdb.toNat, 19), (rdo.toNat, 14), (cp.toNat, 9)]
  | .cprlr3 updD pp rdb rdo cp =>
    place 0xD100000F [(updD.toNat, 27), (pp.toNat, 25), (rdb.toNat, 19), (rdo.toNat, 14), (cp.toNat, 9)]
  | .xfrd01 updD updS pp rdb rdo rsb rso =>
    place 0xD0000001 [(updD.toNat, 27), (updS.toNat, 26), (pp.toNat, 25), (rdb.toNat, 19), (rdo.toNat, 14), (rsb.toNat, 9), (rso.toNat, 4)]
  | .xfrd02 updD updS pp rdb rdo rsb rso =>
    place 0xD0000002 [(updD.toNat, 27), (updS.toNat, 26), (pp.toNat, 25), (rdb.toNat, 19), (rdo.toNat, 14), (rsb.toNat, 9), (rso.toNat, 4)]
  | .xfrd03 updD updS pp rdb rdo rsb rso =>
    place 0xD0000003 [(updD.toNat, 27), (updS.toNat, 26), (pp.toNat, 25), (rdb.toNat, 19), (rdo.toNat, 14), (rsb.toNat, 9), (rso.toNat, 4)]
  | .xfrd10 updD updS pp rdb rdo rsb rso =>
    place 0xD0000004 [(updD.toNat, 27), (updS.toNat, 26), (pp.toNat, 25), (rdb.toNat, 19), (rdo.toNat, 14), (rsb.toNat, 9), (rso.toNat, 4)]
  | .xfrd12 updD updS pp rdb rdo rsb rso =>
    place 0xD0000006 [(updD.toNat, 27), (updS.toNat, 26), (pp.toNat, 25), (rdb.toNat, 19), (rdo.toNat, 14), (rsb.toNat, 9), (rso.toNat, 4)]
  | .xfrd13 updD updS pp rdb rdo rsb rso =>
    place 0xD0000007 [(updD.toNat, 27), (updS.toNat, 26), (pp.toNat, 25), (rdb.toNat, 19), (rdo.toNat, 14), (rsb.toNat, 9), (rso.toNat, 4)]
  | .xfrd20 updD updS pp rdb rdo rsb rso =>
    place 0xD0000008 [(updD.toNat, 27), (updS.toNat, 26), (pp.toNat, 25), (rdb.toNat, 19), (rdo.toNat, 14), (rsb.toNat, 9), (rso.toNat, 4)]
  | .xfrd21 updD updS pp rdb rdo rsb rso =>
    place 0xD0000009 [(updD.toNat, 27), (updS.toNat, 26), (pp.toNat, 25), (rdb.toNat, 19), (rdo.toNat, 14), (rsb.toNat, 9), (rso.toNat, 4)]
  | .xfrd23 updD updS pp rdb rdo rsb rso =>
    place 0xD000000B [(updD.toNat, 27), (updS.toNat, 26), (pp.toNat, 25), (rdb.toNat, 19), (rdo.toNat, 14), (rsb.toNat, 9), (rso.toNat, 4)]
  | .xfrd30 updD updS pp rdb rdo rsb rso =>
    place 0xD000000C [(updD.toNat, 27), (updS.toNat, 26), (pp.toNat, 25), (rdb.toNat, 19), (rdo.toNat, 14), (rsb.toNat, 9), (rso.toNat, 4)]
  | .xfrd31 updD updS pp rdb rdo rsb rso =>
    place 0xD000000D [(updD.toNat, 27), (updS.toNat, 26), (pp.toNat, 25), (rdb.toNat, 19), (rdo.toNat, 14), (rsb.toNat, 9), (rso.toNat, 4)]
  | .xfrd32 updD updS pp rdb rdo rsb rso =>
    place 0xD000000E [(updD.toNat, 27), (updS.toNat, 26), (pp.toNat, 25), (rdb.toNat, 19), (rdo.toNat, 14), (rsb.toNat, 9), (rso.toNat, 4)]
  | .xfrl01 updD updS pp rdb rdo rsb rso =>
    place 0xD1000001 [(updD.toNat, 27), (updS.toNat, 26), (pp.toNat, 25), (rdb.toNat, 19), (rdo.toNat, 14), (rsb.toNat, 9), (rso.toNat, 4)]
  | .xfrl02 updD updS pp rdb rdo rsb rso =>
    place 0xD1000002 [(updD.toNat, 27), (updS.toNat, 26), (pp.toNat, 25), (rdb.toNat, 19), (rdo.toNat, 14), (rsb.toNat, 9), (rso.toNat, 4)]
  | .xfrl03 updD updS pp rdb rdo rsb rso =>
    place 0xD1000003 [(updD.toNat, 27), (updS.toNat, 26), (pp.toNat, 25), (rdb.toNat, 19), (rdo.toNat, 14), (rsb.toNat, 9), (rso.toNat, 4)]
  | .xfrl10 updD updS pp rdb rdo rsb rso =>
    place 0xD1000004 [(updD.toNat, 27), (updS.toNat, 26), (pp.toNat, 25), (rdb.toNat, 19), (rdo.toNat, 14), (rsb.toNat, 9), (rso.toNat, 4)]
  | .xfrl12 updD updS pp rdb rdo rsb rso =>
    place 0xD1000006 [(updD.toNat, 27), (updS.toNat, 26), (pp.toNat, 25), (rdb.toNat, 19), (rdo.toNat, 14), (rsb.toNat, 9), (rso.toNat, 4)]
  | .xfrl13 updD updS pp rdb rdo rsb rso =>
    place 0xD1000007 [(updD.toNat, 27), (updS.toNat, 26), (pp.toNat, 25), (rdb.toNat, 19), (rdo.toNat, 14), (rsb.toNat, 9), (rso.toNat, 4)]
  | .xfrl20 updD updS pp rdb rdo rsb rso =>
    place 0xD1000008 [(updD.toNat, 27), (updS.toNat, 26), (pp.toNat, 25), (rdb.toNat, 19), (rdo.toNat, 14), (rsb.toNat, 9), (rso.toNat, 4)]
  | .xfrl21 updD updS pp rdb rdo rsb rso =>
    place 0xD1000009 [(updD.toNat, 27), (updS.toNat, 26), (pp.toNat, 25), (rdb.toNat, 19), (rdo.toNat, 14), (rsb.toNat, 9), (rso.toNat, 4)]
  | .xfrl23 updD updS pp rdb rdo rsb rso =>
    place 0xD100000B [(updD.toNat, 27), (updS.toNat, 26), (pp.toNat, 25), (rdb.toNat, 19), (rdo.toNat, 14), (rsb.toNat, 9), (rso.toNat, 4)]
  | .xfrl30 updD updS pp rdb rdo rsb rso =>
    place 0xD100000C [(updD.toNat, 27), (updS.toNat, 26), (pp.toNat, 25), (rdb.toNat, 19), (rdo.toNat, 14), (rsb.toNat, 9), (rso.toNat, 4)]
  | .xfrl31 updD updS pp rdb rdo rsb rso =>
    place 0xD100000D [(updD.toNat, 27), (updS.toNat, 26), (pp.toNat, 25), (rdb.toNat, 19), (rdo.toNat, 14), (rsb.toNat, 9), (rso.toNat, 4)]
  | .xfrl32 updD updS pp rdb rdo rsb rso =>
    place 0xD100000E [(updD.toNat, 27), (updS.toNat, 26), (pp.toNat, 25), (rdb.toNat, 19), (rdo.toNat, 14), (rsb.toNat, 9), (rso.toNat, 4)]
  | .cpxl cpd cps rep =>
    place 0xE1000001 [(cpd.toNat, 21), (cps.toNat, 16), (rep.toNat, 3)]
  | .cpwlRR bu cp rs1 rs2 =>
    place 0xE0000000 [(bu.toNat, 25), (cp.toNat, 21), (rs1.toNat, 16), (rs2.toNat, 11)]
  | .cpwlRI bu cp rs1 imm =>
    place 0xE8000000 [(bu.toNat, 25), (cp.toNat, 21), (rs1.toNat, 16), (imm.toNat, 0)]
  | .cpwlMemR bu cp rb ro rep ua pp =>
    place 0xE1000000 [(bu.toNat, 25), (cp.toNat, 21), (rb.toNat, 16), (ro.toNat, 11), (rep.toNat, 3), (ua.toNat, 2), (pp.toNat, 1)]
  | .cpwlMemI8 bu cp rb imm rep ua pp =>
    place 0xE9000000 [(bu.toNat, 25), (cp.toNat, 21), (rb.toNat, 16), (imm.toNat, 8), (rep.toNat, 2), (ua.toNat, 1), (pp.toNat, 0)]
  | .movr x =>
    place 0xA3000000 [(x.toNat, 0)]
  | .swapr x =>
    place 0xA3000000 [(x.toNat, 0)]

/-- The four bytes of a word, the lowest address first (20_memory.md R105, R109). -/
def wordBytes (w : Nat) : List Byte :=
  [BitVec.ofNat 8 w, BitVec.ofNat 8 (w / 2 ^ 8), BitVec.ofNat 8 (w / 2 ^ 16), BitVec.ofNat 8 (w / 2 ^ 24)]

/-- The word of four bytes, the lowest address first (20_memory.md R105, R109). -/
def bytesWord (b0 b1 b2 b3 : Byte) : Nat :=
  b0.toNat + b1.toNat * 2 ^ 8 + b2.toNat * 2 ^ 16 + b3.toNat * 2 ^ 24

/-- The instruction at the head of a list of bytes, and the bytes after it (30_encoding.md R150, R152). -/
noncomputable def decodeBytes : List Byte → Option (Instr × List Byte)
  | b0 :: b1 :: b2 :: b3 :: rest => (decode (bytesWord b0 b1 b2 b3)).map fun i => (i, rest)
  | _ => none

/-- What the decoder reads from an instruction whose bits are `w`, numbered as spec/opcode_table.json numbers them. Every
instruction is one 32-bit word (30_encoding.md R152); bits from `nbits` on are zero. -/
noncomputable def decodeTableWord (nbits w : Nat) : Option Instr :=
  (decodeBytes (wordBytes (w % 2 ^ nbits % 2 ^ 32))).map Prod.fst

end Sys2Proof
end

