-- ==== Sys2Proof/Machine/DataExt.lean ====
section
/-! DEFINITION. The data unit extended instructions ABS, FFB, MAX, MIN, MORT, NMIN, NORM and VPACK. -/

namespace Sys2Proof.Machine

/-- The end of an extended operation: the flags of a comparison of `x` with `y`, and the destination
(44_data_unit_extended.md R420). -/
def endExt (u : BUnit) (rd : BitVec 5) (r x y : Word) (s : State) : State :=
  writeReg ((advance s).setFlags (subFlags x y)) u rd r

/-- One source. -/
def ext1 (f : Word → Word) (y : Word) (du : Bool) (rd rs : BitVec 5) (s : State) : Out :=
  let u := dataUnit du
  let a := readReg s u rs 0
  finish s (.ok () (endExt u rd (f a) a y s))

/-- Two sources that are compared with each other. -/
def ext2 (f : Word → Word → Word) (du : Bool) (rd rs1 rs2 : BitVec 5) (s : State) : Out :=
  let u := dataUnit du
  let a := readReg s u rs1 0
  let b := readReg s u rs2 1
  finish s (.ok () (endExt u rd (f a b) a b s))

/-- MORT and VPACK, register form: unknown on a core without them (44_data_unit_extended.md R431). -/
def pack2 (f : Word → Word → Word) (i : Instr) (du : Bool) (rd rs1 rs2 : BitVec 5) (s : State) : Out :=
  if s.cfg.hasMortVpack then ext2 f du rd rs1 rs2 s
  else finish s (.exc (.unknownInstruction (BitVec.ofNat 32 (encode i))))

/-- MORT and VPACK with operand 2 replaced. -/
def packX (f : Word → Word → Word) (i : Instr) (du : Bool) (rd rs1 : BitVec 5) (osel : BitVec 2) (oreg : BitVec 3)
    (s : State) : Out :=
  let u := dataUnit du
  if s.cfg.hasMortVpack then
    finish s ((readO2R s u osel oreg 1).bind fun b s1 =>
      .ok () (endExt u rd (f (readReg s1 u rs1 0) b) (readReg s1 u rs1 0) b s1))
  else finish s (.exc (.unknownInstruction (BitVec.ofNat 32 (encode i))))

/-- 44_data_unit_extended.md R421. -/
def execAbsRR (du : Bool) (rd : BitVec 5) (rs : BitVec 5) (s : State) : Out := ext1 duAbs 0x80000000#32 du rd rs s

/-- 44_data_unit_extended.md R422. -/
def execFfbRR (du : Bool) (rd : BitVec 5) (rs : BitVec 5) (s : State) : Out := ext1 duFfb 0#32 du rd rs s

/-- 44_data_unit_extended.md R423. -/
def execMaxRR (du : Bool) (rd : BitVec 5) (rs1 : BitVec 5) (rs2 : BitVec 5) (s : State) : Out :=
  ext2 duMax du rd rs1 rs2 s

/-- 44_data_unit_extended.md R424. -/
def execMinRR (du : Bool) (rd : BitVec 5) (rs1 : BitVec 5) (rs2 : BitVec 5) (s : State) : Out :=
  ext2 duMin du rd rs1 rs2 s

/-- 44_data_unit_extended.md R425. -/
def execMortRR (du : Bool) (rd : BitVec 5) (rs1 : BitVec 5) (rs2 : BitVec 5) (s : State) : Out :=
  pack2 duMort (.mortRR du rd rs1 rs2) du rd rs1 rs2 s

/-- 44_data_unit_extended.md R426. -/
def execMortRX (du : Bool) (rd : BitVec 5) (rs1 : BitVec 5) (osel : BitVec 2) (oreg : BitVec 3) (s : State) : Out :=
  packX duMort (.mortRX du rd rs1 osel oreg) du rd rs1 osel oreg s

/-- 44_data_unit_extended.md R427. -/
def execNminRR (du : Bool) (rd : BitVec 5) (rs1 : BitVec 5) (rs2 : BitVec 5) (s : State) : Out :=
  ext1 (fun a => duNmin s.tick a (readReg s (dataUnit du) rs2 1)) 0#32 du rd rs1 s

/-- 44_data_unit_extended.md R428. -/
def execNormRR (du : Bool) (rd : BitVec 5) (rs : BitVec 5) (s : State) : Out := ext1 (duNorm s.tick) 0#32 du rd rs s

/-- 44_data_unit_extended.md R429. -/
def execVpackRR (du : Bool) (rd : BitVec 5) (rs1 : BitVec 5) (rs2 : BitVec 5) (s : State) : Out :=
  pack2 duVpack (.vpackRR du rd rs1 rs2) du rd rs1 rs2 s

/-- 44_data_unit_extended.md R430. -/
def execVpackRX (du : Bool) (rd : BitVec 5) (rs1 : BitVec 5) (osel : BitVec 2) (oreg : BitVec 3) (s : State) : Out :=
  packX duVpack (.vpackRX du rd rs1 osel oreg) du rd rs1 osel oreg s

end Sys2Proof.Machine
end

