-- ==== Sys2Proof/Machine/Memory.lean ====
section
/-! DEFINITION. Loads, stores and issues to the read pipeline. -/

namespace Sys2Proof.Machine

/-- A unit whose registers only 32-bit loads and stores reach (42_extended_gp_a.md R341, 93_implementation_defined.md
I16). -/
def wideOnly (sz : Size) (u : BitVec 4) : Bool := sz != .d && controlUnit u

/-- The destination of a load of up to 32 bits: one of a special unit is left unspecified by a smaller load
(42_extended_gp_a.md R341). -/
def endGet (sz : Size) (ud : BitVec 4) (rd : BitVec 5) (v : DWord) (s : State) : Res Unit :=
  if wideOnly sz ud then writeFree s ud rd 0 else writeUnit s ud rd (lowWord v)

/-- The accesses and destinations of a 64-bit load: a unit without a partner is left unspecified (42_extended_gp_a.md
R340). -/
def endGetPair (p : Source × Option Source) (ud : BitVec 4) (rd : BitVec 5) (s : State) : Res Unit :=
  match BUnit.ofCode ud with
  | some u => .ok () (s.loads p .l (some (u, rd)) (some (u.opp, rd)) id)
  | none => writeFree (s.loads p .l none none id) ud rd 0

/-- An address expression of the 12-bit form: base register 0 or 1, no update (30_encoding.md R211). -/
def exprS (s : State) (bua : BitVec 2) (rb : BitVec 1) (imm : BitVec 12) (sz : Size) : AddrExpr :=
  exprI s (baseUnit bua) (rb.setWidth 5) (scaled imm sz) false false

/-- A load of up to 32 bits: the base is updated first, so that the loaded value wins (20_memory.md R117). -/
def getOne (sz : Size) (e : AddrExpr) (ud : BitVec 4) (rd : BitVec 5) (s : State) : Out :=
  finish s ((memRead s 0 (exprAddr e) sz).bind fun v s1 => endGet sz ud rd v (exprUpdate e (advance s1)))

/-- A 64-bit load, 42_extended_gp_a.md R340. -/
def getPair (e : AddrExpr) (ud : BitVec 4) (rd : BitVec 5) (s : State) : Out :=
  finish s ((locate s 0 (exprAddr e) .l).bind fun p s1 => endGetPair p ud rd (exprUpdate e (advance s1)))

/-- An issue to the read pipeline, 42_extended_gp_a.md R347. -/
def issueOne (sz : Size) (e : AddrExpr) (port : BitVec 5) (s : State) : Out :=
  finish s ((raIssue s port (exprAddr e) sz).bind fun _ s1 => .ok () (exprUpdate e (advance s1)))

/-- A store of data that has been read (20_memory.md R117). -/
def storeOne (sz : Size) (e : AddrExpr) (data : Res DWord) (s : State) : Out :=
  finish s (data.bind fun v s1 => (memWrite s1 1 (exprAddr e) sz v).bind fun _ s2 => .ok () (exprUpdate e (advance s2)))

/-- The data of a store of up to 32 bits: unspecified where `free` says so, and for a small store from a special unit
(43_extended_gp_b.md R385, 93_implementation_defined.md I16). -/
def setData (s : State) (sz : Size) (us : BitVec 4) (rs : BitVec 5) (free : Bool) : Res DWord :=
  (readUnit s us rs 0).bind fun v s1 =>
    .ok (if free || wideOnly sz us then Config.freeDWord s.tick (.dest 0) else v.setWidth 64) s1

/-- The value of a pair: register `n` of the unit is the low half (20_memory.md R106). -/
def readPair (s : State) (u : BUnit) (n1 n2 : BitVec 5) : DWord := readReg s u.opp n2 1 ++ readReg s u n1 0

/-- The data of a 64-bit store: unspecified where `free` says so, and for a unit without a partner
(43_extended_gp_b.md R384). DESIGN CHOICE (entry 59): such a unit is not read, so that a trigger register it names
neither waits nor loses triggers. -/
def setPairData (s : State) (us : BitVec 4) (rs : BitVec 5) (free : Bool) : DWord :=
  match BUnit.ofCode us with
  | some u => if free then Config.freeDWord s.tick (.dest 0) else readPair s u rs rs
  | none => Config.freeDWord s.tick (.dest 0)

/-- Data and offset register come from one unit, which a store forbids (20_memory.md R116). -/
def sameUnit (bu : BitVec 2) (us : BitVec 4) : Bool := (baseUnit bu).code == us

/-- Data and offset register come from one kind of unit, which a 64-bit store forbids (20_memory.md R116). -/
def sameKind (bu : BitVec 2) (us : BitVec 4) : Bool :=
  match BUnit.ofCode us with
  | some u => u.isData == (baseUnit bu).isData
  | none => false

/-- The data of a store from the ports unit: a coprocessor read, the read pipeline, or a number that names neither
(42_extended_gp_a.md R339, 10_state.md R55, R83). -/
def portData (s : State) (cp : BitVec 5) (sz : Size) : Res DWord :=
  if cp.toNat < 8 then let (v, s1) := cpRead s (cp.setWidth 3) sz; .ok v s1
  else if cp = 16#5 then rdPop s
  else .ok (Config.freeDWord s.tick (.dest 0)) s

/-- A conditional store of data that has been read: no offset and no update (47_long_gp_b.md R501). -/
def storeIf (c : Bool) (sz : Size) (a : Word) (data : Res DWord) (s : State) : Out :=
  finish s (data.bind fun v s1 =>
    if c then (memWrite s1 1 a sz v).bind fun _ s2 => .ok () (advance s2) else .ok () (advance s1))

/-- A conditional store of up to 32 bits: a small one from a special unit is reserved (47_long_gp_b.md R501). -/
def setIf (sz : Size) (i : Instr) (rs rb : BitVec 5) (us : BitVec 4) (bu : BitVec 2) (cc : BitVec 4)
    (s : State) : Out :=
  if wideOnly sz us then finish s (.exc (.unknownInstruction (BitVec.ofNat 32 (encode i))))
  else storeIf (s.passes cc) sz (readReg s (baseUnit bu) rb 2) (setData s sz us rs false) s

/-- 46_long_gp_a.md R456. -/
def execCprbMemCc (cp : BitVec 5) (rb : BitVec 5) (bu : BitVec 2) (cc : BitVec 4) (s : State) : Out :=
  storeIf (s.passes cc) .b (readReg s (baseUnit bu) rb 2) (portData s cp .b) s

/-- 46_long_gp_a.md R456. -/
def execCprwMemCc (cp : BitVec 5) (rb : BitVec 5) (bu : BitVec 2) (cc : BitVec 4) (s : State) : Out :=
  storeIf (s.passes cc) .w (readReg s (baseUnit bu) rb 2) (portData s cp .w) s

/-- 46_long_gp_a.md R456. -/
def execCprdMemCc (cp : BitVec 5) (rb : BitVec 5) (bu : BitVec 2) (cc : BitVec 4) (s : State) : Out :=
  storeIf (s.passes cc) .d (readReg s (baseUnit bu) rb 2) (portData s cp .d) s

/-- 46_long_gp_a.md R456. -/
def execCprlMemCc (cp : BitVec 5) (rb : BitVec 5) (bu : BitVec 2) (cc : BitVec 4) (s : State) : Out :=
  storeIf (s.passes cc) .l (readReg s (baseUnit bu) rb 2) (portData s cp .l) s

/-- 47_long_gp_b.md R501. -/
def execSetbCc (rs : BitVec 5) (rb : BitVec 5) (us : BitVec 4) (bu : BitVec 2) (cc : BitVec 4) (s : State) : Out :=
  setIf .b (.setbCc rs rb us bu cc) rs rb us bu cc s

/-- 47_long_gp_b.md R501. -/
def execSetwCc (rs : BitVec 5) (rb : BitVec 5) (us : BitVec 4) (bu : BitVec 2) (cc : BitVec 4) (s : State) : Out :=
  setIf .w (.setwCc rs rb us bu cc) rs rb us bu cc s

/-- 47_long_gp_b.md R501. -/
def execSetdCc (rs : BitVec 5) (rb : BitVec 5) (us : BitVec 4) (bu : BitVec 2) (cc : BitVec 4) (s : State) : Out :=
  setIf .d (.setdCc rs rb us bu cc) rs rb us bu cc s

/-- 47_long_gp_b.md R500. -/
def execSetlCc (rs : BitVec 5) (rb : BitVec 5) (us : BitVec 4) (bu : BitVec 2) (cc : BitVec 4) (s : State) : Out :=
  storeIf (s.passes cc) .l (readReg s (baseUnit bu) rb 2) (.ok (setPairData s us rs false) s) s

/-- 47_long_gp_b.md R499. -/
def execSetbS12 (rs : BitVec 5) (imm : BitVec 12) (bua : BitVec 2) (bus : BitVec 2) (rb : BitVec 1)
    (s : State) : Out :=
  storeOne .b (exprS s bua rb imm .b) (setData s .b (baseUnit bus).code rs false) s

/-- 47_long_gp_b.md R499. -/
def execSetwS12 (rs : BitVec 5) (imm : BitVec 12) (bua : BitVec 2) (bus : BitVec 2) (rb : BitVec 1)
    (s : State) : Out :=
  storeOne .w (exprS s bua rb imm .w) (setData s .w (baseUnit bus).code rs false) s

/-- 47_long_gp_b.md R499. -/
def execSetdS12 (rs : BitVec 5) (imm : BitVec 12) (bua : BitVec 2) (bus : BitVec 2) (rb : BitVec 1)
    (s : State) : Out :=
  storeOne .d (exprS s bua rb imm .d) (setData s .d (baseUnit bus).code rs false) s

/-- 47_long_gp_b.md R498. -/
def execSetlS12 (rs : BitVec 5) (imm : BitVec 12) (bua : BitVec 2) (bus : BitVec 2) (rb : BitVec 1)
    (s : State) : Out :=
  storeOne .l (exprS s bua rb imm .l) (.ok (setPairData s (baseUnit bus).code rs false) s) s

/-- 47_long_gp_b.md R493. -/
def execMovbRaS12 (port : BitVec 5) (imm : BitVec 12) (bua : BitVec 2) (rb : BitVec 1) (s : State) : Out :=
  issueOne .b (exprS s bua rb imm .b) port s

/-- 47_long_gp_b.md R493. -/
def execMovwRaS12 (port : BitVec 5) (imm : BitVec 12) (bua : BitVec 2) (rb : BitVec 1) (s : State) : Out :=
  issueOne .w (exprS s bua rb imm .w) port s

/-- 47_long_gp_b.md R493. -/
def execMovdRaS12 (port : BitVec 5) (imm : BitVec 12) (bua : BitVec 2) (rb : BitVec 1) (s : State) : Out :=
  issueOne .d (exprS s bua rb imm .d) port s

/-- 47_long_gp_b.md R493. -/
def execMovlRaS12 (port : BitVec 5) (imm : BitVec 12) (bua : BitVec 2) (rb : BitVec 1) (s : State) : Out :=
  issueOne .l (exprS s bua rb imm .l) port s

/-- 46_long_gp_a.md R462. -/
def execGetbS12 (rd : BitVec 5) (imm : BitVec 12) (bua : BitVec 2) (bud : BitVec 2) (rb : BitVec 1)
    (s : State) : Out :=
  getOne .b (exprS s bua rb imm .b) (baseUnit bud).code rd s

/-- 46_long_gp_a.md R462. -/
def execGetwS12 (rd : BitVec 5) (imm : BitVec 12) (bua : BitVec 2) (bud : BitVec 2) (rb : BitVec 1)
    (s : State) : Out :=
  getOne .w (exprS s bua rb imm .w) (baseUnit bud).code rd s

/-- 46_long_gp_a.md R462. -/
def execGetdS12 (rd : BitVec 5) (imm : BitVec 12) (bua : BitVec 2) (bud : BitVec 2) (rb : BitVec 1)
    (s : State) : Out :=
  getOne .d (exprS s bua rb imm .d) (baseUnit bud).code rd s

/-- 46_long_gp_a.md R461. -/
def execGetlS12 (rd : BitVec 5) (imm : BitVec 12) (bua : BitVec 2) (bud : BitVec 2) (rb : BitVec 1)
    (s : State) : Out :=
  getPair (exprS s bua rb imm .l) (baseUnit bud).code rd s

/-- 42_extended_gp_a.md R339. -/
def execCprbMemR (rb : BitVec 5) (ro : BitVec 5) (ua : Bool) (bu : BitVec 2) (pp : Bool) (cp : BitVec 5)
    (s : State) : Out :=
  storeOne .b (exprR s bu rb ro ua pp) (portData s cp .b) s

/-- 42_extended_gp_a.md R339. -/
def execCprbMemI6 (rb : BitVec 5) (imm : BitVec 6) (ua : Bool) (bu : BitVec 2) (pp : Bool) (cp : BitVec 5)
    (s : State) : Out :=
  storeOne .b (exprI s (baseUnit bu) rb (scaled imm .b) ua pp) (portData s cp .b) s

/-- 42_extended_gp_a.md R339. -/
def execCprwMemR (rb : BitVec 5) (ro : BitVec 5) (ua : Bool) (bu : BitVec 2) (pp : Bool) (cp : BitVec 5)
    (s : State) : Out :=
  storeOne .w (exprR s bu rb ro ua pp) (portData s cp .w) s

/-- 42_extended_gp_a.md R339. -/
def execCprwMemI6 (rb : BitVec 5) (imm : BitVec 6) (ua : Bool) (bu : BitVec 2) (pp : Bool) (cp : BitVec 5)
    (s : State) : Out :=
  storeOne .w (exprI s (baseUnit bu) rb (scaled imm .w) ua pp) (portData s cp .w) s

/-- 42_extended_gp_a.md R339. -/
def execCprdMemR (rb : BitVec 5) (ro : BitVec 5) (ua : Bool) (bu : BitVec 2) (pp : Bool) (cp : BitVec 5)
    (s : State) : Out :=
  storeOne .d (exprR s bu rb ro ua pp) (portData s cp .d) s

/-- 42_extended_gp_a.md R339. -/
def execCprdMemI6 (rb : BitVec 5) (imm : BitVec 6) (ua : Bool) (bu : BitVec 2) (pp : Bool) (cp : BitVec 5)
    (s : State) : Out :=
  storeOne .d (exprI s (baseUnit bu) rb (scaled imm .d) ua pp) (portData s cp .d) s

/-- 42_extended_gp_a.md R339. -/
def execCprlMemR (rb : BitVec 5) (ro : BitVec 5) (ua : Bool) (bu : BitVec 2) (pp : Bool) (cp : BitVec 5)
    (s : State) : Out :=
  storeOne .l (exprR s bu rb ro ua pp) (portData s cp .l) s

/-- 42_extended_gp_a.md R339. -/
def execCprlMemI6 (rb : BitVec 5) (imm : BitVec 6) (ua : Bool) (bu : BitVec 2) (pp : Bool) (cp : BitVec 5)
    (s : State) : Out :=
  storeOne .l (exprI s (baseUnit bu) rb (scaled imm .l) ua pp) (portData s cp .l) s

/-- 41_core_gp_b.md R291. -/
def execSetdShort (rs : BitVec 5) (rb : BitVec 5) (imm : BitVec 6) (ua : Bool) (us : BitVec 4) (pp : Bool)
    (s : State) : Out :=
  storeOne .d (exprI s .a0 rb (scaled imm .d) ua pp) (setData s .d us rs false) s

/-- 43_extended_gp_b.md R385. -/
def execSetbR (rs : BitVec 5) (rb : BitVec 5) (ro : BitVec 5) (ua : Bool) (bu : BitVec 2) (us : BitVec 4)
    (pp : Bool) (s : State) : Out :=
  storeOne .b (exprR s bu rb ro ua pp) (setData s .b us rs (sameUnit bu us)) s

/-- 43_extended_gp_b.md R385. -/
def execSetbI6 (rs : BitVec 5) (rb : BitVec 5) (imm : BitVec 6) (ua : Bool) (bu : BitVec 2) (us : BitVec 4)
    (pp : Bool) (s : State) : Out :=
  storeOne .b (exprI s (baseUnit bu) rb (scaled imm .b) ua pp) (setData s .b us rs false) s

/-- 43_extended_gp_b.md R385. -/
def execSetwR (rs : BitVec 5) (rb : BitVec 5) (ro : BitVec 5) (ua : Bool) (bu : BitVec 2) (us : BitVec 4)
    (pp : Bool) (s : State) : Out :=
  storeOne .w (exprR s bu rb ro ua pp) (setData s .w us rs (sameUnit bu us)) s

/-- 43_extended_gp_b.md R385. -/
def execSetwI6 (rs : BitVec 5) (rb : BitVec 5) (imm : BitVec 6) (ua : Bool) (bu : BitVec 2) (us : BitVec 4)
    (pp : Bool) (s : State) : Out :=
  storeOne .w (exprI s (baseUnit bu) rb (scaled imm .w) ua pp) (setData s .w us rs false) s

/-- 43_extended_gp_b.md R385. -/
def execSetdR (rs : BitVec 5) (rb : BitVec 5) (ro : BitVec 5) (ua : Bool) (bu : BitVec 2) (us : BitVec 4)
    (pp : Bool) (s : State) : Out :=
  storeOne .d (exprR s bu rb ro ua pp) (setData s .d us rs (sameUnit bu us)) s

/-- 43_extended_gp_b.md R385. -/
def execSetdI6 (rs : BitVec 5) (rb : BitVec 5) (imm : BitVec 6) (ua : Bool) (bu : BitVec 2) (us : BitVec 4)
    (pp : Bool) (s : State) : Out :=
  storeOne .d (exprI s (baseUnit bu) rb (scaled imm .d) ua pp) (setData s .d us rs false) s

/-- 43_extended_gp_b.md R384. -/
def execSetlR (rs : BitVec 5) (rb : BitVec 5) (ro : BitVec 5) (ua : Bool) (bu : BitVec 2) (us : BitVec 4)
    (pp : Bool) (s : State) : Out :=
  storeOne .l (exprR s bu rb ro ua pp) (.ok (setPairData s us rs (sameKind bu us)) s) s

/-- 43_extended_gp_b.md R384. -/
def execSetlI6 (rs : BitVec 5) (rb : BitVec 5) (imm : BitVec 6) (ua : Bool) (bu : BitVec 2) (us : BitVec 4)
    (pp : Bool) (s : State) : Out :=
  storeOne .l (exprI s (baseUnit bu) rb (scaled imm .l) ua pp) (.ok (setPairData s us rs false) s) s

/-- 42_extended_gp_a.md R347. -/
def execMovbRaR (rb : BitVec 5) (ro : BitVec 5) (ua : Bool) (bu : BitVec 2) (pp : Bool) (port : BitVec 5)
    (s : State) : Out :=
  issueOne .b (exprR s bu rb ro ua pp) port s

/-- 42_extended_gp_a.md R347. -/
def execMovbRaI6 (rb : BitVec 5) (imm : BitVec 6) (ua : Bool) (bu : BitVec 2) (pp : Bool) (port : BitVec 5)
    (s : State) : Out :=
  issueOne .b (exprI s (baseUnit bu) rb (scaled imm .b) ua pp) port s

/-- 42_extended_gp_a.md R347. -/
def execMovwRaR (rb : BitVec 5) (ro : BitVec 5) (ua : Bool) (bu : BitVec 2) (pp : Bool) (port : BitVec 5)
    (s : State) : Out :=
  issueOne .w (exprR s bu rb ro ua pp) port s

/-- 42_extended_gp_a.md R347. -/
def execMovwRaI6 (rb : BitVec 5) (imm : BitVec 6) (ua : Bool) (bu : BitVec 2) (pp : Bool) (port : BitVec 5)
    (s : State) : Out :=
  issueOne .w (exprI s (baseUnit bu) rb (scaled imm .w) ua pp) port s

/-- 42_extended_gp_a.md R347. -/
def execMovdRaR (rb : BitVec 5) (ro : BitVec 5) (ua : Bool) (bu : BitVec 2) (pp : Bool) (port : BitVec 5)
    (s : State) : Out :=
  issueOne .d (exprR s bu rb ro ua pp) port s

/-- 42_extended_gp_a.md R347. -/
def execMovdRaI6 (rb : BitVec 5) (imm : BitVec 6) (ua : Bool) (bu : BitVec 2) (pp : Bool) (port : BitVec 5)
    (s : State) : Out :=
  issueOne .d (exprI s (baseUnit bu) rb (scaled imm .d) ua pp) port s

/-- 42_extended_gp_a.md R347. -/
def execMovlRaR (rb : BitVec 5) (ro : BitVec 5) (ua : Bool) (bu : BitVec 2) (pp : Bool) (port : BitVec 5)
    (s : State) : Out :=
  issueOne .l (exprR s bu rb ro ua pp) port s

/-- 42_extended_gp_a.md R347. -/
def execMovlRaI6 (rb : BitVec 5) (imm : BitVec 6) (ua : Bool) (bu : BitVec 2) (pp : Bool) (port : BitVec 5)
    (s : State) : Out :=
  issueOne .l (exprI s (baseUnit bu) rb (scaled imm .l) ua pp) port s

/-- 40_core_gp_a.md R252. -/
def execGetdShort (rd : BitVec 5) (rb : BitVec 5) (imm : BitVec 6) (ua : Bool) (ud : BitVec 4) (pp : Bool)
    (s : State) : Out :=
  getOne .d (exprI s .a0 rb (scaled imm .d) ua pp) ud rd s

/-- 42_extended_gp_a.md R341. -/
def execGetbR (rd : BitVec 5) (rb : BitVec 5) (ro : BitVec 5) (ua : Bool) (bu : BitVec 2) (ud : BitVec 4)
    (pp : Bool) (s : State) : Out :=
  getOne .b (exprR s bu rb ro ua pp) ud rd s

/-- 42_extended_gp_a.md R341. -/
def execGetbI6 (rd : BitVec 5) (rb : BitVec 5) (imm : BitVec 6) (ua : Bool) (bu : BitVec 2) (ud : BitVec 4)
    (pp : Bool) (s : State) : Out :=
  getOne .b (exprI s (baseUnit bu) rb (scaled imm .b) ua pp) ud rd s

/-- 42_extended_gp_a.md R341. -/
def execGetwR (rd : BitVec 5) (rb : BitVec 5) (ro : BitVec 5) (ua : Bool) (bu : BitVec 2) (ud : BitVec 4)
    (pp : Bool) (s : State) : Out :=
  getOne .w (exprR s bu rb ro ua pp) ud rd s

/-- 42_extended_gp_a.md R341. -/
def execGetwI6 (rd : BitVec 5) (rb : BitVec 5) (imm : BitVec 6) (ua : Bool) (bu : BitVec 2) (ud : BitVec 4)
    (pp : Bool) (s : State) : Out :=
  getOne .w (exprI s (baseUnit bu) rb (scaled imm .w) ua pp) ud rd s

/-- 42_extended_gp_a.md R341. -/
def execGetdR (rd : BitVec 5) (rb : BitVec 5) (ro : BitVec 5) (ua : Bool) (bu : BitVec 2) (ud : BitVec 4)
    (pp : Bool) (s : State) : Out :=
  getOne .d (exprR s bu rb ro ua pp) ud rd s

/-- 42_extended_gp_a.md R341. -/
def execGetdI6 (rd : BitVec 5) (rb : BitVec 5) (imm : BitVec 6) (ua : Bool) (bu : BitVec 2) (ud : BitVec 4)
    (pp : Bool) (s : State) : Out :=
  getOne .d (exprI s (baseUnit bu) rb (scaled imm .d) ua pp) ud rd s

/-- 42_extended_gp_a.md R340. -/
def execGetlR (rd : BitVec 5) (rb : BitVec 5) (ro : BitVec 5) (ua : Bool) (bu : BitVec 2) (ud : BitVec 4)
    (pp : Bool) (s : State) : Out :=
  getPair (exprR s bu rb ro ua pp) ud rd s

/-- 42_extended_gp_a.md R340. -/
def execGetlI6 (rd : BitVec 5) (rb : BitVec 5) (imm : BitVec 6) (ua : Bool) (bu : BitVec 2) (ud : BitVec 4)
    (pp : Bool) (s : State) : Out :=
  getPair (exprI s (baseUnit bu) rb (scaled imm .l) ua pp) ud rd s

end Sys2Proof.Machine
end

