-- ==== Sys2Proof/Machine/Linked.lean ====
section
/-! DEFINITION. Linked loads and stores: LNKGET, LNKSET. -/

namespace Sys2Proof.Machine

/-- LNKGET associates the access with the thread (20_memory.md R130). -/
def setLink (s : State) (a : Word) (sz : Size) : State :=
  { s with th := { s.th with
      linkFlag := true
      linkHit := false
      linkAddr := some { addr := a, phys := (s.translate 0 a).getD a, size := sz } } }

/-- A linked load, 46_long_gp_a.md R468: the link is there from the first access on. -/
def linkedLoad (sz : Size) (a : Word) (lo hi : Dest) (s : State) : Out :=
  finish s ((locate s 0 a sz).bind fun p s1 => .ok () ((advance s1).loads p sz lo hi fun t => setLink t a sz))

/-- Report that a linked store was performed: 2 in bits 29:24; whether the deferred trigger is raised is unspecified
(60_exceptions.md R592). -/
def reportSuccess (s : State) : State :=
  let s1 := s.reportCode 2#6
  if Config.freeBit s.tick .successTrigger then s1.raiseDeferred else s1

/-- Report that a linked store was not performed: a value other than 2 (20_memory.md R130). -/
def reportNoStore (s : State) : State :=
  let k := (Config.freeWord s.tick .report).extractLsb' 10 6
  ((s.noteStore).reportCode (if k = 2#6 then 0#6 else k)).raiseDeferred

/-- The link flag is set and the link monitor accepts: it refuses after another agent's write, and may refuse spuriously
(20_memory.md R130). -/
def linkAccepts (s : State) : Bool := s.th.linkFlag && !s.th.linkHit && Config.freeBit s.tick .monitor

/-- `LinkedStore`, 20_memory.md R130, 47_long_gp_b.md R490: a failing access is reported through the deferred state. -/
def linkedStore (s0 : State) (a : Word) (sz : Size) (v : DWord) : State :=
  let s := interleave s0
  if linkAccepts s then
    if accessFails s 1 a sz then s.noteStore.reportFailure
    else
      match locateWrite s.noteStore 1 a sz v with
      | .ok (e :: l) s1 => reportSuccess (l.foldl State.event (e.act s1))
      | .ok [] s1 => s1
      | .exc _ => s.noteStore.reportFailure
      | .block _ => s.noteStore.reportFailure
  else reportNoStore s

/-- LNKSET, 47_long_gp_b.md R491: the link flag is cleared whatever the condition (20_memory.md R131). -/
def linkedSet (sz : Size) (a : Word) (data : Res DWord) (cc : BitVec 4) (s : State) : Out :=
  finish s (data.bind fun v s1 =>
    .ok () (advance (if s.passes cc then linkedStore s1 a sz v else s1)).clearLink)

/-- LNKSET of up to 32 bits: any source register (47_long_gp_b.md R491). -/
def linkedSetOne (sz : Size) (rs rb : BitVec 5) (us : BitVec 4) (bu : BitVec 2) (cc : BitVec 4) (s : State) : Out :=
  linkedSet sz (readReg s (baseUnit bu) rb 2) ((readUnit s us rs 0).bind fun v s1 => .ok (v.setWidth 64) s1) cc s

/-- 47_long_gp_b.md R491. -/
def execLnksetb (rs : BitVec 5) (rb : BitVec 5) (us : BitVec 4) (bu : BitVec 2) (cc : BitVec 4) (s : State) : Out :=
  linkedSetOne .b rs rb us bu cc s

/-- 47_long_gp_b.md R491. -/
def execLnksetw (rs : BitVec 5) (rb : BitVec 5) (us : BitVec 4) (bu : BitVec 2) (cc : BitVec 4) (s : State) : Out :=
  linkedSetOne .w rs rb us bu cc s

/-- 47_long_gp_b.md R491. -/
def execLnksetd (rs : BitVec 5) (rb : BitVec 5) (us : BitVec 4) (bu : BitVec 2) (cc : BitVec 4) (s : State) : Out :=
  linkedSetOne .d rs rb us bu cc s

/-- 47_long_gp_b.md R490. -/
def execLnksetl (rs : BitVec 5) (rb : BitVec 5) (us : BitVec 4) (bu : BitVec 2) (cc : BitVec 4) (s : State) : Out :=
  linkedSet .l (readReg s (baseUnit bu) rb 2) (.ok (setPairData s us rs false) s) cc s

/-- 46_long_gp_a.md R468. -/
def execLnkgetb (rd : BitVec 5) (rb : BitVec 5) (bua : BitVec 2) (bur : BitVec 2) (s : State) : Out :=
  linkedLoad .b (readReg s (baseUnit bua) rb 2) (some (baseUnit bur, rd)) none s

/-- 46_long_gp_a.md R468. -/
def execLnkgetw (rd : BitVec 5) (rb : BitVec 5) (bua : BitVec 2) (bur : BitVec 2) (s : State) : Out :=
  linkedLoad .w (readReg s (baseUnit bua) rb 2) (some (baseUnit bur, rd)) none s

/-- 46_long_gp_a.md R468. -/
def execLnkgetd (rd : BitVec 5) (rb : BitVec 5) (bua : BitVec 2) (bur : BitVec 2) (s : State) : Out :=
  linkedLoad .d (readReg s (baseUnit bua) rb 2) (some (baseUnit bur, rd)) none s

/-- 46_long_gp_a.md R467. -/
def execLnkgetl (rd : BitVec 5) (rb : BitVec 5) (bua : BitVec 2) (bur : BitVec 2) (s : State) : Out :=
  linkedLoad .l (readReg s (baseUnit bua) rb 2) (some (baseUnit bur, rd)) (some ((baseUnit bur).opp, rd)) s

end Sys2Proof.Machine
end

