-- ==== Sys2Proof/Machine/Mul.lean ====
section
/-! DEFINITION. The multiplies MULW and MULD. -/

namespace Sys2Proof.Machine

/-- The end of a multiply with a destination in the executing unit: no flags (10_state.md R57). -/
def endMul (u : BUnit) (rd : BitVec 5) (v : Word) (s : State) : State := writeReg (advance s) u rd v

/-- The end of a multiply with a destination in a unit of its own: a code that names none of D0, D1, A0 and A1 leaves
the destination unspecified (43_extended_gp_b.md R371). -/
def endMulOut (ud : BitVec 4) (rd : BitVec 5) (v : Word) (s : State) : Res Unit :=
  match BUnit.ofCode ud with
  | some u => .ok () (writeReg (advance s) u rd v)
  | none => writeFree (advance s) ud rd 0

/-- Register form, 41_core_gp_b.md R281. -/
def mulRR (op : MulOp) (du : Bool) (rd rs1 rs2 : BitVec 5) (s : State) : Out :=
  let u := dataUnit du
  finish s (.ok () (endMul u rd (op.result (readReg s u rs1 0) (readReg s u rs2 1)) s))

/-- Register form with operand 2 replaced, 43_extended_gp_b.md R370. -/
def mulRX (op : MulOp) (du : Bool) (rd rs1 : BitVec 5) (osel : BitVec 2) (oreg : BitVec 3) (s : State) : Out :=
  let u := dataUnit du
  finish s ((readO2R s u osel oreg 1).bind fun b s1 => .ok () (endMul u rd (op.result (readReg s1 u rs1 0) b) s1))

/-- 16-bit immediate form, 41_core_gp_b.md R282. -/
def mulI16 (op : MulOp) (du : Bool) (rd : BitVec 5) (b : Word) (s : State) : Out :=
  let u := dataUnit du
  finish s (.ok () (endMul u rd (op.result (readReg s u rd 0) b) s))

/-- Register form into another unit, 43_extended_gp_b.md R371. -/
def mulUR (op : MulOp) (du : Bool) (rd rs1 rs2 : BitVec 5) (ud : BitVec 4) (s : State) : Out :=
  let u := dataUnit du
  finish s (endMulOut ud rd (op.result (readReg s u rs1 0) (readReg s u rs2 1)) s)

/-- Register form into another unit with operand 2 replaced, 43_extended_gp_b.md R372. -/
def mulUX (op : MulOp) (du : Bool) (rd rs1 : BitVec 5) (osel : BitVec 2) (oreg : BitVec 3) (ud : BitVec 4)
    (s : State) : Out :=
  let u := dataUnit du
  finish s ((readO2R s u osel oreg 1).bind fun b s1 => endMulOut ud rd (op.result (readReg s1 u rs1 0) b) s1)

/-- 8-bit immediate form into another unit, 43_extended_gp_b.md R373. -/
def mulUX8 (op : MulOp) (du : Bool) (rd rs : BitVec 5) (imm : BitVec 8) (ud : BitVec 4) (s : State) : Out :=
  finish s (endMulOut ud rd (op.result (readReg s (dataUnit du) rs 0) (imm.setWidth 32)) s)

/-- Conditional register form, 43_extended_gp_b.md R374. -/
def mulCR (op : MulOp) (du : Bool) (rd rs1 rs2 : BitVec 5) (cc : BitVec 4) (s : State) : Out :=
  let u := dataUnit du
  finish s (.ok () (if s.passes cc then endMul u rd (op.result (readReg s u rs1 0) (readReg s u rs2 1)) s
    else advance s))

/-- Conditional form with operand 2 replaced, 43_extended_gp_b.md R375. -/
def mulCX (op : MulOp) (du : Bool) (rd rs1 : BitVec 5) (osel : BitVec 2) (oreg : BitVec 3) (cc : BitVec 4)
    (s : State) : Out :=
  let u := dataUnit du
  finish s ((readO2R s u osel oreg 1).bind fun b s1 =>
    .ok () (if s1.passes cc then endMul u rd (op.result (readReg s1 u rs1 0) b) s1 else advance s1))

/-- Conditional 8-bit immediate form, 43_extended_gp_b.md R376. -/
def mulCX8 (op : MulOp) (du : Bool) (rd rs : BitVec 5) (imm : BitVec 8) (cc : BitVec 4) (s : State) : Out :=
  let u := dataUnit du
  finish s (.ok () (if s.passes cc then endMul u rd (op.result (readReg s u rs 0) (imm.setWidth 32)) s else advance s))

/-- 41_core_gp_b.md R281. -/
def execMulwRR (du : Bool) (rd : BitVec 5) (rs1 : BitVec 5) (rs2 : BitVec 5) (s : State) : Out :=
  mulRR .w du rd rs1 rs2 s

/-- 43_extended_gp_b.md R370. -/
def execMulwRX (du : Bool) (rd : BitVec 5) (rs1 : BitVec 5) (osel : BitVec 2) (oreg : BitVec 3) (s : State) : Out :=
  mulRX .w du rd rs1 osel oreg s

/-- 41_core_gp_b.md R282. -/
def execMulwI16 (du : Bool) (rd : BitVec 5) (imm : BitVec 16) (se : Bool) (h : Bool) (s : State) : Out :=
  mulI16 .w du rd (imm16 s imm se h) s

/-- 43_extended_gp_b.md R371. -/
def execMulwUR (du : Bool) (rd : BitVec 5) (rs1 : BitVec 5) (rs2 : BitVec 5) (ud : BitVec 4) (s : State) : Out :=
  mulUR .w du rd rs1 rs2 ud s

/-- 43_extended_gp_b.md R372. -/
def execMulwUX (du : Bool) (rd : BitVec 5) (rs1 : BitVec 5) (osel : BitVec 2) (oreg : BitVec 3) (ud : BitVec 4)
    (s : State) : Out :=
  mulUX .w du rd rs1 osel oreg ud s

/-- 43_extended_gp_b.md R373. -/
def execMulwUX8 (du : Bool) (rd : BitVec 5) (rs : BitVec 5) (imm : BitVec 8) (ud : BitVec 4) (s : State) : Out :=
  mulUX8 .w du rd rs imm ud s

/-- 43_extended_gp_b.md R374. -/
def execMulwCR (du : Bool) (rd : BitVec 5) (rs1 : BitVec 5) (rs2 : BitVec 5) (cc : BitVec 4) (s : State) : Out :=
  mulCR .w du rd rs1 rs2 cc s

/-- 43_extended_gp_b.md R375. -/
def execMulwCX (du : Bool) (rd : BitVec 5) (rs1 : BitVec 5) (osel : BitVec 2) (oreg : BitVec 3) (cc : BitVec 4)
    (s : State) : Out :=
  mulCX .w du rd rs1 osel oreg cc s

/-- 43_extended_gp_b.md R376. -/
def execMulwCX8 (du : Bool) (rd : BitVec 5) (rs : BitVec 5) (imm : BitVec 8) (cc : BitVec 4) (s : State) : Out :=
  mulCX8 .w du rd rs imm cc s

/-- 41_core_gp_b.md R281. -/
def execMuldRR (du : Bool) (rd : BitVec 5) (rs1 : BitVec 5) (rs2 : BitVec 5) (s : State) : Out :=
  mulRR .d du rd rs1 rs2 s

/-- 43_extended_gp_b.md R370. -/
def execMuldRX (du : Bool) (rd : BitVec 5) (rs1 : BitVec 5) (osel : BitVec 2) (oreg : BitVec 3) (s : State) : Out :=
  mulRX .d du rd rs1 osel oreg s

/-- 41_core_gp_b.md R282. -/
def execMuldI16 (du : Bool) (rd : BitVec 5) (imm : BitVec 16) (se : Bool) (h : Bool) (s : State) : Out :=
  mulI16 .d du rd (imm16 s imm se h) s

/-- 43_extended_gp_b.md R371. -/
def execMuldUR (du : Bool) (rd : BitVec 5) (rs1 : BitVec 5) (rs2 : BitVec 5) (ud : BitVec 4) (s : State) : Out :=
  mulUR .d du rd rs1 rs2 ud s

/-- 43_extended_gp_b.md R372. -/
def execMuldUX (du : Bool) (rd : BitVec 5) (rs1 : BitVec 5) (osel : BitVec 2) (oreg : BitVec 3) (ud : BitVec 4)
    (s : State) : Out :=
  mulUX .d du rd rs1 osel oreg ud s

/-- 43_extended_gp_b.md R373. -/
def execMuldUX8 (du : Bool) (rd : BitVec 5) (rs : BitVec 5) (imm : BitVec 8) (ud : BitVec 4) (s : State) : Out :=
  mulUX8 .d du rd rs imm ud s

/-- 43_extended_gp_b.md R374. -/
def execMuldCR (du : Bool) (rd : BitVec 5) (rs1 : BitVec 5) (rs2 : BitVec 5) (cc : BitVec 4) (s : State) : Out :=
  mulCR .d du rd rs1 rs2 cc s

/-- 43_extended_gp_b.md R375. -/
def execMuldCX (du : Bool) (rd : BitVec 5) (rs1 : BitVec 5) (osel : BitVec 2) (oreg : BitVec 3) (cc : BitVec 4)
    (s : State) : Out :=
  mulCX .d du rd rs1 osel oreg cc s

/-- 43_extended_gp_b.md R376. -/
def execMuldCX8 (du : Bool) (rd : BitVec 5) (rs : BitVec 5) (imm : BitVec 8) (cc : BitVec 4) (s : State) : Out :=
  mulCX8 .d du rd rs imm cc s

end Sys2Proof.Machine
end

