-- ==== Sys2Proof/Machine/Multi.lean ====
section
/-! DEFINITION. Transfers of several registers: MGET, MSET, MMOV, MDRD. -/

namespace Sys2Proof.Machine

/-- Element `n` of a register list is the base register, or is not a register that a list may hold
(40_core_gp_a.md R255). DESIGN CHOICE (entry 60): a base in a unit of the kind of the list, but not in the list, is none. -/
def badElement (u b : BUnit) (rb : BitVec 5) (n : Nat) : Bool :=
  !listable u n || (u == b && n == rb.toNat)

/-- Some element of the list, or with `pair` of its partner list, is bad. -/
def badList (pair : Bool) (u b : BUnit) (rb : BitVec 5) (l : List Nat) : Bool :=
  l.any fun n => badElement u b rb n || (pair && badElement u.opp b rb n)

/-- Write an element: a bad one is left unspecified, and a number above 31 names no register. -/
def writeElement (s : State) (u : BUnit) (bad : Bool) (slot n : Nat) (v : Word) : State :=
  if n < 32 then writeReg s u (BitVec.ofNat 5 n) (if bad then Config.freeWord s.tick (.dest (slot + n)) else v) else s

/-- Where an element that is loaded goes. -/
def elementDest (u : BUnit) (bad : Bool) (n : Nat) : Dest :=
  if n < 32 && !bad then some (u, BitVec.ofNat 5 n) else none

/-- Leave an element that is loaded unspecified, if it is bad. -/
def freeElement (s : State) (u : BUnit) (bad : Bool) (slot n : Nat) : State :=
  if bad then writeElement s u bad slot n 0#32 else s

/-- Read an element: a bad one is unspecified. -/
def readElement (s : State) (u : BUnit) (bad : Bool) (slot n : Nat) : Word :=
  if bad then Config.freeWord s.tick (.dest (slot + n)) else readReg s u (BitVec.ofNat 5 n) (slot + n)

/-- The size of an element: 64 bits with `pair`. -/
def elementSize (pair : Bool) : Size := if pair then .l else .d

/-- The address after the one of an element. -/
def nextAddr (pair : Bool) (a : Word) : Word := a + (if pair then 8#32 else 4#32)

/-- Element `k`, register `n`, of MGET (40_core_gp_a.md R255): with a bad list the base is left unspecified, and the
addresses step from the value it had. -/
def mgetElement (pair : Bool) (u b : BUnit) (rb : BitVec 5) (bad : Bool) (base : Word) (e : Nat × Nat) (s : State) :
    Res Unit :=
  let (n, k) := e
  let a := if bad then base + BitVec.ofNat 32 ((if pair then 8 else 4) * k) else readReg s b rb 2
  let badHi := badElement u.opp b rb n
  (locate s 0 a (elementSize pair)).bind fun p s1 =>
    let s2 := s1.loads p (elementSize pair) (elementDest u (badElement u b rb n) n)
      (if pair then elementDest u.opp badHi n else none) id
    let s3 := freeElement s2 u (badElement u b rb n) 32 n
    let s4 := if pair then freeElement s3 u.opp badHi 96 n else s3
    .ok () (writeReg s4 b rb (if bad then Config.freeWord s.tick (.dest (200 + k)) else nextAddr pair a))

/-- MGET, 40_core_gp_a.md R255. -/
def mget (pair : Bool) (rd rb : BitVec 5) (rmask : BitVec 7) (bua bud : BitVec 2) (s : State) : Out :=
  let u := baseUnit bud
  let b := baseUnit bua
  let l := regList rd rmask
  runElements s (mgetElement pair u b rb (badList pair u b rb l) (readReg s b rb 2)) l.zipIdx s

/-- The data of element `n` of MSET (40_core_gp_a.md R256): the values before the instruction. -/
def msetData (pair : Bool) (u b : BUnit) (rb : BitVec 5) (s0 : State) (n : Nat) : DWord :=
  let lo := readElement s0 u (badElement u b rb n) 32 n
  if pair then readElement s0 u.opp (badElement u.opp b rb n) 96 n ++ lo else lo.setWidth 64

/-- Element `n` of MSET, 40_core_gp_a.md R256. -/
def msetElement (pair : Bool) (u b : BUnit) (rb : BitVec 5) (s0 : State) (n : Nat) (s : State) : Res Unit :=
  let a := readReg s b rb 2
  (memWrite s 1 a (elementSize pair) (msetData pair u b rb s0 n)).bind fun _ s1 =>
    .ok () (writeReg s1 b rb (nextAddr pair a))

/-- MSET, 40_core_gp_a.md R256. -/
def mset (pair : Bool) (rs rb : BitVec 5) (rmask : BitVec 7) (bua bus : BitVec 2) (s : State) : Out :=
  runElements s (msetElement pair (baseUnit bus) (baseUnit bua) rb s) (regList rs rmask) s

/-- One issue of MMOV to a read address port, 42_extended_gp_a.md R344. -/
def mmovRaElement (pair : Bool) (port : BitVec 5) (b : BUnit) (rb : BitVec 5) (_n : Nat) (s : State) : Res Unit :=
  let a := readReg s b rb 2
  (raIssue s port a (elementSize pair)).bind fun _ s1 => .ok () (writeReg s1 b rb (nextAddr pair a))

/-- MMOV to a read address port: as many issues as the mask names (42_extended_gp_a.md R344). -/
def mmovRa (pair : Bool) (port rb : BitVec 5) (rmask : BitVec 7) (bua : BitVec 2) (s : State) : Out :=
  runElements s (mmovRaElement pair port (baseUnit bua) rb) (regList 0#5 rmask) s

/-- Element `n` of MMOV from RD, 42_extended_gp_a.md R343. -/
def mmovRdElement (pair : Bool) (u : BUnit) (n : Nat) (s : State) : Res Unit :=
  (rdPop s).bind fun v s1 =>
    let s2 := writeElement s1 u (!listable u n) 32 n (lowWord v)
    .ok () (if pair then writeElement s2 u.opp (!listable u n) 96 n (highWord v) else s2)

/-- MMOV from RD, 42_extended_gp_a.md R343. -/
def mmovRd (pair : Bool) (rd : BitVec 5) (rmask : BitVec 7) (bur : BitVec 2) (s : State) : Out :=
  runElements s (mmovRdElement pair (baseUnit bur)) (regList rd rmask) s

/-- 40_core_gp_a.md R256. -/
def execMsetd (rs : BitVec 5) (rb : BitVec 5) (rmask : BitVec 7) (bua : BitVec 2) (bus : BitVec 2)
    (s : State) : Out :=
  mset false rs rb rmask bua bus s

/-- 40_core_gp_a.md R256. -/
def execMsetl (rs : BitVec 5) (rb : BitVec 5) (rmask : BitVec 7) (bua : BitVec 2) (bus : BitVec 2)
    (s : State) : Out :=
  mset true rs rb rmask bua bus s

/-- 40_core_gp_a.md R255. -/
def execMgetd (rd : BitVec 5) (rb : BitVec 5) (rmask : BitVec 7) (bua : BitVec 2) (bud : BitVec 2)
    (s : State) : Out :=
  mget false rd rb rmask bua bud s

/-- 40_core_gp_a.md R255. -/
def execMgetl (rd : BitVec 5) (rb : BitVec 5) (rmask : BitVec 7) (bua : BitVec 2) (bud : BitVec 2)
    (s : State) : Out :=
  mget true rd rb rmask bua bud s

/-- 42_extended_gp_a.md R344. -/
def execMmovdRa (port : BitVec 5) (rb : BitVec 5) (rmask : BitVec 7) (bua : BitVec 2) (s : State) : Out :=
  mmovRa false port rb rmask bua s

/-- 42_extended_gp_a.md R344. -/
def execMmovlRa (port : BitVec 5) (rb : BitVec 5) (rmask : BitVec 7) (bua : BitVec 2) (s : State) : Out :=
  mmovRa true port rb rmask bua s

/-- 42_extended_gp_a.md R342. -/
def execMdrd (rmask : BitVec 7) (s : State) : Out :=
  runElements s (fun _ t => (rdPop t).bind fun _ t1 => .ok () t1) (regList 0#5 rmask) s

/-- 42_extended_gp_a.md R343. -/
def execMmovdRd (rd : BitVec 5) (rmask : BitVec 7) (bur : BitVec 2) (s : State) : Out := mmovRd false rd rmask bur s

/-- 42_extended_gp_a.md R343. -/
def execMmovlRd (rd : BitVec 5) (rmask : BitVec 7) (bur : BitVec 2) (s : State) : Out := mmovRd true rd rmask bur s

end Sys2Proof.Machine
end

