-- ==== Sys2Proof/Machine/Shift.lean ====
section
/-! DEFINITION. The shifts LSL, LSR, ASL and ASR. -/

namespace Sys2Proof.Machine

/-- The end of a shift with a destination in the executing unit, 45_shift.md R441. -/
def endShift (op : ShiftOp) (sf : Bool) (u : BUnit) (rd : BitVec 5) (a : Word) (n : Nat) (s : State) : State :=
  writeReg (setFlagsIf sf (op.flags s.tick a n) (advance s)) u rd (op.result a n)

/-- The shift count in a register: its low five bits (45_shift.md R441). -/
def countReg (s : State) (u : BUnit) (n : BitVec 5) : Nat := ((readReg s u n 1).setWidth 5).toNat

/-- Shift in one unit, 45_shift.md R442. -/
def shiftIn (op : ShiftOp) (sf du : Bool) (rd rs1 : BitVec 5) (n : Nat) (s : State) : Out :=
  let u := dataUnit du
  finish s (.ok () (endShift op sf u rd (readReg s u rs1 0) n s))

/-- Shift into any unit, 45_shift.md R443. -/
def shiftOut (op : ShiftOp) (sf du : Bool) (rd rs1 : BitVec 5) (n : Nat) (ud : BitVec 4) (s : State) : Out :=
  let a := readReg s (dataUnit du) rs1 0
  finish s (writeUnit (setFlagsIf sf (op.flags s.tick a n) (advance s)) ud rd (op.result a n))

/-- Conditional shift, 45_shift.md R444. -/
def shiftCond (op : ShiftOp) (sf du : Bool) (rd rs1 : BitVec 5) (n : Nat) (cc : BitVec 4) (s : State) : Out :=
  let u := dataUnit du
  finish s (.ok () (if s.passes cc then endShift op sf u rd (readReg s u rs1 0) n s else advance s))

/-- 45_shift.md R442. -/
def execLslRR (sf : Bool) (du : Bool) (rd : BitVec 5) (rs1 : BitVec 5) (rs2 : BitVec 5) (s : State) : Out :=
  shiftIn .lsl sf du rd rs1 (countReg s (dataUnit du) rs2) s

/-- 45_shift.md R442. -/
def execLslI5 (sf : Bool) (du : Bool) (rd : BitVec 5) (rs1 : BitVec 5) (imm : BitVec 5) (s : State) : Out :=
  shiftIn .lsl sf du rd rs1 imm.toNat s

/-- 45_shift.md R443. -/
def execLslUR (sf : Bool) (du : Bool) (rd : BitVec 5) (rs1 : BitVec 5) (rs2 : BitVec 5) (ud : BitVec 4)
    (s : State) : Out :=
  shiftOut .lsl sf du rd rs1 (countReg s (dataUnit du) rs2) ud s

/-- 45_shift.md R443. -/
def execLslUI5 (sf : Bool) (du : Bool) (rd : BitVec 5) (rs1 : BitVec 5) (imm : BitVec 5) (ud : BitVec 4)
    (s : State) : Out :=
  shiftOut .lsl sf du rd rs1 imm.toNat ud s

/-- 45_shift.md R444. -/
def execLslCR (sf : Bool) (du : Bool) (rd : BitVec 5) (rs1 : BitVec 5) (rs2 : BitVec 5) (cc : BitVec 4)
    (s : State) : Out :=
  shiftCond .lsl sf du rd rs1 (countReg s (dataUnit du) rs2) cc s

/-- 45_shift.md R444. -/
def execLslCI5 (sf : Bool) (du : Bool) (rd : BitVec 5) (rs1 : BitVec 5) (imm : BitVec 5) (cc : BitVec 4)
    (s : State) : Out :=
  shiftCond .lsl sf du rd rs1 imm.toNat cc s

/-- 45_shift.md R442. -/
def execLsrRR (sf : Bool) (du : Bool) (rd : BitVec 5) (rs1 : BitVec 5) (rs2 : BitVec 5) (s : State) : Out :=
  shiftIn .lsr sf du rd rs1 (countReg s (dataUnit du) rs2) s

/-- 45_shift.md R442. -/
def execLsrI5 (sf : Bool) (du : Bool) (rd : BitVec 5) (rs1 : BitVec 5) (imm : BitVec 5) (s : State) : Out :=
  shiftIn .lsr sf du rd rs1 imm.toNat s

/-- 45_shift.md R443. -/
def execLsrUR (sf : Bool) (du : Bool) (rd : BitVec 5) (rs1 : BitVec 5) (rs2 : BitVec 5) (ud : BitVec 4)
    (s : State) : Out :=
  shiftOut .lsr sf du rd rs1 (countReg s (dataUnit du) rs2) ud s

/-- 45_shift.md R443. -/
def execLsrUI5 (sf : Bool) (du : Bool) (rd : BitVec 5) (rs1 : BitVec 5) (imm : BitVec 5) (ud : BitVec 4)
    (s : State) : Out :=
  shiftOut .lsr sf du rd rs1 imm.toNat ud s

/-- 45_shift.md R444. -/
def execLsrCR (sf : Bool) (du : Bool) (rd : BitVec 5) (rs1 : BitVec 5) (rs2 : BitVec 5) (cc : BitVec 4)
    (s : State) : Out :=
  shiftCond .lsr sf du rd rs1 (countReg s (dataUnit du) rs2) cc s

/-- 45_shift.md R444. -/
def execLsrCI5 (sf : Bool) (du : Bool) (rd : BitVec 5) (rs1 : BitVec 5) (imm : BitVec 5) (cc : BitVec 4)
    (s : State) : Out :=
  shiftCond .lsr sf du rd rs1 imm.toNat cc s

/-- 45_shift.md R442. -/
def execAslRR (sf : Bool) (du : Bool) (rd : BitVec 5) (rs1 : BitVec 5) (rs2 : BitVec 5) (s : State) : Out :=
  shiftIn .asl sf du rd rs1 (countReg s (dataUnit du) rs2) s

/-- 45_shift.md R442. -/
def execAslI5 (sf : Bool) (du : Bool) (rd : BitVec 5) (rs1 : BitVec 5) (imm : BitVec 5) (s : State) : Out :=
  shiftIn .asl sf du rd rs1 imm.toNat s

/-- 45_shift.md R443. -/
def execAslUR (sf : Bool) (du : Bool) (rd : BitVec 5) (rs1 : BitVec 5) (rs2 : BitVec 5) (ud : BitVec 4)
    (s : State) : Out :=
  shiftOut .asl sf du rd rs1 (countReg s (dataUnit du) rs2) ud s

/-- 45_shift.md R443. -/
def execAslUI5 (sf : Bool) (du : Bool) (rd : BitVec 5) (rs1 : BitVec 5) (imm : BitVec 5) (ud : BitVec 4)
    (s : State) : Out :=
  shiftOut .asl sf du rd rs1 imm.toNat ud s

/-- 45_shift.md R444. -/
def execAslCR (sf : Bool) (du : Bool) (rd : BitVec 5) (rs1 : BitVec 5) (rs2 : BitVec 5) (cc : BitVec 4)
    (s : State) : Out :=
  shiftCond .asl sf du rd rs1 (countReg s (dataUnit du) rs2) cc s

/-- 45_shift.md R444. -/
def execAslCI5 (sf : Bool) (du : Bool) (rd : BitVec 5) (rs1 : BitVec 5) (imm : BitVec 5) (cc : BitVec 4)
    (s : State) : Out :=
  shiftCond .asl sf du rd rs1 imm.toNat cc s

/-- 45_shift.md R442. -/
def execAsrRR (sf : Bool) (du : Bool) (rd : BitVec 5) (rs1 : BitVec 5) (rs2 : BitVec 5) (s : State) : Out :=
  shiftIn .asr sf du rd rs1 (countReg s (dataUnit du) rs2) s

/-- 45_shift.md R442. -/
def execAsrI5 (sf : Bool) (du : Bool) (rd : BitVec 5) (rs1 : BitVec 5) (imm : BitVec 5) (s : State) : Out :=
  shiftIn .asr sf du rd rs1 imm.toNat s

/-- 45_shift.md R443. -/
def execAsrUR (sf : Bool) (du : Bool) (rd : BitVec 5) (rs1 : BitVec 5) (rs2 : BitVec 5) (ud : BitVec 4)
    (s : State) : Out :=
  shiftOut .asr sf du rd rs1 (countReg s (dataUnit du) rs2) ud s

/-- 45_shift.md R443. -/
def execAsrUI5 (sf : Bool) (du : Bool) (rd : BitVec 5) (rs1 : BitVec 5) (imm : BitVec 5) (ud : BitVec 4)
    (s : State) : Out :=
  shiftOut .asr sf du rd rs1 imm.toNat ud s

/-- 45_shift.md R444. -/
def execAsrCR (sf : Bool) (du : Bool) (rd : BitVec 5) (rs1 : BitVec 5) (rs2 : BitVec 5) (cc : BitVec 4)
    (s : State) : Out :=
  shiftCond .asr sf du rd rs1 (countReg s (dataUnit du) rs2) cc s

/-- 45_shift.md R444. -/
def execAsrCI5 (sf : Bool) (du : Bool) (rd : BitVec 5) (rs1 : BitVec 5) (imm : BitVec 5) (cc : BitVec 4)
    (s : State) : Out :=
  shiftCond .asr sf du rd rs1 imm.toNat cc s

end Sys2Proof.Machine
end

