-- ==== Sys2Proof/Machine/Shuffle.lean ====
section
/-! DEFINITION. Sign extension and byte exchange: XSD, BEX, RTD. -/

namespace Sys2Proof.Machine

/-- `DUBex`, 46_long_gp_a.md R451. -/
def duBex (x : Word) : Word := x.extractLsb' 0 8 ++ x.extractLsb' 8 8 ++ x.extractLsb' 16 8 ++ x.extractLsb' 24 8

/-- `DUXsdb`, 47_long_gp_b.md R505. -/
def duXsdb (x : Word) : Word := (x.setWidth 8).signExtend 32

/-- `DUXsdw`, 47_long_gp_b.md R506. -/
def duXsdw (x : Word) : Word := (x.setWidth 16).signExtend 32

/-- The exchange of the halves, 47_long_gp_b.md R497. -/
def duRtdw (x : Word) : Word := x.extractLsb' 0 16 ++ x.extractLsb' 16 16

/-- One source and one destination in a data unit, with the flags of a logical result if asked. -/
def shuffle (f : Word → Word) (sf du : Bool) (rd rs : BitVec 5) (s : State) : Out :=
  let u := dataUnit du
  let r := f (readReg s u rs 0)
  finish s (.ok () (writeReg (setFlagsIf sf (logicFlags s.tick r) (advance s)) u rd r))

/-- 47_long_gp_b.md R505. -/
def execXsdb (rd : BitVec 5) (rs : BitVec 5) (sf : Bool) (du : Bool) (s : State) : Out := shuffle duXsdb sf du rd rs s

/-- 47_long_gp_b.md R506. -/
def execXsdw (rd : BitVec 5) (rs : BitVec 5) (sf : Bool) (du : Bool) (s : State) : Out := shuffle duXsdw sf du rd rs s

/-- 46_long_gp_a.md R451. -/
def execBexd (rd : BitVec 5) (rs : BitVec 5) (sf : Bool) (du : Bool) (s : State) : Out := shuffle duBex sf du rd rs s

/-- 46_long_gp_a.md R451. -/
def execBexl (rd : BitVec 5) (rs : BitVec 5) (sf : Bool) (du : Bool) (s : State) : Out :=
  let u := dataUnit du
  let a := duBex (readReg s u rs 0)
  let b := duBex (readReg s u.opp rs 1)
  finish s (.ok () (writeReg (writeReg (setFlagsIf sf (logicFlags s.tick b) (advance s)) u.opp rd b) u rd a))

/-- 47_long_gp_b.md R497. -/
def execRtdw (rd : BitVec 5) (rs : BitVec 5) (sf : Bool) (du : Bool) (s : State) : Out := shuffle duRtdw sf du rd rs s

end Sys2Proof.Machine
end

