-- ==== Sys2Proof/Machine/System.lean ====
section
/-! DEFINITION. Locks, levels, the software trap, and the shadow registers. -/

namespace Sys2Proof.Machine

/-- LOCK, RTH and RTI with a read pipeline that is not empty raise OutstandingReads (10_state.md R69,
60_exceptions.md R581). -/
def drained (s : State) (r : Res Unit) : Out :=
  if s.th.rdq = [] then finish s r else finish s (.exc .outstandingReads)

/-- A lock is free or held by the thread that has the turn. -/
def mayHold (s : State) (owner : Option Nat) : Bool := owner == none || owner == some s.th.tid

/-- A lock after the thread that has the turn has released it. -/
def released (s : State) (owner : Option Nat) : Option Nat := if owner = some s.th.tid then none else owner

/-- 41_core_gp_b.md R295. -/
def execRti (s : State) : Out := drained s (.ok () (returnFromInterrupt s))

/-- 41_core_gp_b.md R290. -/
def execRth (s : State) : Out := drained s (.ok () ((advance s).setIstat (!s.th.istat)).clearLink)

/-- 40_core_gp_a.md R253. -/
def execLock0 (s : State) : Out :=
  drained s (.ok () { advance s with volOwner := released s s.volOwner, globOwner := released s s.globOwner })

/-- 40_core_gp_a.md R253. -/
def execLock1 (s : State) : Out :=
  drained s (if mayHold s s.volOwner then
      .ok () { advance s with volOwner := some s.th.tid, globOwner := released s s.globOwner }
    else .block .lock)

/-- 40_core_gp_a.md R253. -/
def execLock2 (s : State) : Out :=
  drained s (if mayHold s s.volOwner && mayHold s s.globOwner then
      .ok () { advance s with volOwner := some s.th.tid, globOwner := some s.th.tid }
    else .block .lock)

/-- 41_core_gp_b.md R298. -/
def execSwitch (value : BitVec 24) (s : State) : Out := finish s (.exc (.switchException value))

/-- 49_trace_ops.md R553. -/
def execMovr (_x : BitVec 24) (_s : State) : Out := .refused .shadowRegister

/-- 49_trace_ops.md R554. -/
def execSwapr (_x : BitVec 24) (_s : State) : Out := .refused .shadowRegister

end Sys2Proof.Machine
end

