-- ==== Sys2Proof/Machine/Transfer.lean ====
section
/-! DEFINITION. The coprocessor ports and the repeating transfers: CPR, CPW, CPX, XFR. -/

namespace Sys2Proof.Machine

/-- A small coprocessor read into PC, CT, TR, TT or the ports, which is reserved (46_long_gp_a.md R455); a code that
names no unit is none of these (30_encoding.md R173). -/
def reservedRead (sz : Size) (ud : BitVec 4) : Bool := sz != .d && (controlUnit ud || ud == 6#4)

/-- A coprocessor read into a register (46_long_gp_a.md R455): the read happens whatever the condition. -/
def cprUnit (sz : Size) (i : Instr) (rd : BitVec 5) (cp : BitVec 3) (ud cc : BitVec 4) (s : State) : Out :=
  if reservedRead sz ud then finish s (.exc (.unknownInstruction (BitVec.ofNat 32 (encode i))))
  else
    let (v, s1) := cpRead s cp sz
    finish s (if s.passes cc then writeUnit (advance s1) ud rd (lowWord v) else .ok () (advance s1))

/-- One iteration of CPRR, 46_long_gp_a.md R454. -/
def cprRepeat (sz : Size) (bud : BitVec 2) (updD pp : Bool) (rdb rdo : BitVec 5) (cp : BitVec 3) (s : State) : Out :=
  let e := exprR s bud rdb rdo updD pp
  let (v, s1) := cpRead (exprUpdate e s) cp sz
  finish s ((memWrite s1 1 (exprAddr e) sz v).bind fun _ s2 => .ok () (repeatOrAdvance s2))

/-- One issue of CPWL from memory, 46_long_gp_a.md R458: it delivers the entry the pipeline holds and reads the next. -/
def cpwlMem (rep : Bool) (cp : BitVec 3) (e : AddrExpr) (s : State) : Out :=
  finish s ((rdPop s).bind fun d s1 =>
    (raIssue (cpWrite (exprUpdate e s1) cp d) 16#5 (exprAddr e) .l).bind fun _ s2 =>
      .ok () (if rep then repeatOrAdvance s2 else advance s2))

/-- One iteration of XFR, 47_long_gp_b.md R504: the two addresses are operands 2 to 5. -/
def xfr (sz : Size) (bud bus : BitVec 2) (updD updS pp : Bool) (rdb rdo rsb rso : BitVec 5) (s : State) : Out :=
  finish s ((rdPop s).bind fun v s1 =>
    let e := exprR s1 bud rdb rdo updD pp
    let s2 := exprUpdate e s1
    let f := exprAt s2 4 bus rsb rso updS pp
    (memWrite (exprUpdate f s2) 1 (exprAddr e) sz v).bind fun _ s3 =>
      (raIssue s3 16#5 (exprAddr f) sz).bind fun _ s4 => .ok () (repeatOrAdvance s4))

/-- 46_long_gp_a.md R455. -/
def execCprbUnit (rd : BitVec 5) (cp : BitVec 3) (ud : BitVec 4) (cc : BitVec 4) (s : State) : Out :=
  cprUnit .b (.cprbUnit rd cp ud cc) rd cp ud cc s

/-- 46_long_gp_a.md R455. -/
def execCprwUnit (rd : BitVec 5) (cp : BitVec 3) (ud : BitVec 4) (cc : BitVec 4) (s : State) : Out :=
  cprUnit .w (.cprwUnit rd cp ud cc) rd cp ud cc s

/-- 46_long_gp_a.md R455. -/
def execCprdUnit (rd : BitVec 5) (cp : BitVec 3) (ud : BitVec 4) (cc : BitVec 4) (s : State) : Out :=
  cprUnit .d (.cprdUnit rd cp ud cc) rd cp ud cc s

/-- 46_long_gp_a.md R453. -/
def execCprlPair (rd1 : BitVec 5) (cp : BitVec 3) (rd2 : BitVec 5) (bu : BitVec 2) (cc : BitVec 4)
    (s : State) : Out :=
  let (v, s1) := cpRead s cp .l
  finish s (.ok () (if s.passes cc then writePair (advance s1) (baseUnit bu) rd1 rd2 v else advance s1))

/-- 46_long_gp_a.md R454. -/
def execCprdr0 (updD : Bool) (pp : Bool) (rdb : BitVec 5) (rdo : BitVec 5) (cp : BitVec 3) (s : State) : Out :=
  cprRepeat .d 0#2 updD pp rdb rdo cp s

/-- 46_long_gp_a.md R454. -/
def execCprdr1 (updD : Bool) (pp : Bool) (rdb : BitVec 5) (rdo : BitVec 5) (cp : BitVec 3) (s : State) : Out :=
  cprRepeat .d 1#2 updD pp rdb rdo cp s

/-- 46_long_gp_a.md R454. -/
def execCprdr2 (updD : Bool) (pp : Bool) (rdb : BitVec 5) (rdo : BitVec 5) (cp : BitVec 3) (s : State) : Out :=
  cprRepeat .d 2#2 updD pp rdb rdo cp s

/-- 46_long_gp_a.md R454. -/
def execCprdr3 (updD : Bool) (pp : Bool) (rdb : BitVec 5) (rdo : BitVec 5) (cp : BitVec 3) (s : State) : Out :=
  cprRepeat .d 3#2 updD pp rdb rdo cp s

/-- 46_long_gp_a.md R454. -/
def execCprlr0 (updD : Bool) (pp : Bool) (rdb : BitVec 5) (rdo : BitVec 5) (cp : BitVec 3) (s : State) : Out :=
  cprRepeat .l 0#2 updD pp rdb rdo cp s

/-- 46_long_gp_a.md R454. -/
def execCprlr1 (updD : Bool) (pp : Bool) (rdb : BitVec 5) (rdo : BitVec 5) (cp : BitVec 3) (s : State) : Out :=
  cprRepeat .l 1#2 updD pp rdb rdo cp s

/-- 46_long_gp_a.md R454. -/
def execCprlr2 (updD : Bool) (pp : Bool) (rdb : BitVec 5) (rdo : BitVec 5) (cp : BitVec 3) (s : State) : Out :=
  cprRepeat .l 2#2 updD pp rdb rdo cp s

/-- 46_long_gp_a.md R454. -/
def execCprlr3 (updD : Bool) (pp : Bool) (rdb : BitVec 5) (rdo : BitVec 5) (cp : BitVec 3) (s : State) : Out :=
  cprRepeat .l 3#2 updD pp rdb rdo cp s

/-- 47_long_gp_b.md R504. -/
def execXfrd01 (updD : Bool) (updS : Bool) (pp : Bool) (rdb : BitVec 5) (rdo : BitVec 5) (rsb : BitVec 5)
    (rso : BitVec 5) (s : State) : Out :=
  xfr .d 0#2 1#2 updD updS pp rdb rdo rsb rso s

/-- 47_long_gp_b.md R504. -/
def execXfrd02 (updD : Bool) (updS : Bool) (pp : Bool) (rdb : BitVec 5) (rdo : BitVec 5) (rsb : BitVec 5)
    (rso : BitVec 5) (s : State) : Out :=
  xfr .d 0#2 2#2 updD updS pp rdb rdo rsb rso s

/-- 47_long_gp_b.md R504. -/
def execXfrd03 (updD : Bool) (updS : Bool) (pp : Bool) (rdb : BitVec 5) (rdo : BitVec 5) (rsb : BitVec 5)
    (rso : BitVec 5) (s : State) : Out :=
  xfr .d 0#2 3#2 updD updS pp rdb rdo rsb rso s

/-- 47_long_gp_b.md R504. -/
def execXfrd10 (updD : Bool) (updS : Bool) (pp : Bool) (rdb : BitVec 5) (rdo : BitVec 5) (rsb : BitVec 5)
    (rso : BitVec 5) (s : State) : Out :=
  xfr .d 1#2 0#2 updD updS pp rdb rdo rsb rso s

/-- 47_long_gp_b.md R504. -/
def execXfrd12 (updD : Bool) (updS : Bool) (pp : Bool) (rdb : BitVec 5) (rdo : BitVec 5) (rsb : BitVec 5)
    (rso : BitVec 5) (s : State) : Out :=
  xfr .d 1#2 2#2 updD updS pp rdb rdo rsb rso s

/-- 47_long_gp_b.md R504. -/
def execXfrd13 (updD : Bool) (updS : Bool) (pp : Bool) (rdb : BitVec 5) (rdo : BitVec 5) (rsb : BitVec 5)
    (rso : BitVec 5) (s : State) : Out :=
  xfr .d 1#2 3#2 updD updS pp rdb rdo rsb rso s

/-- 47_long_gp_b.md R504. -/
def execXfrd20 (updD : Bool) (updS : Bool) (pp : Bool) (rdb : BitVec 5) (rdo : BitVec 5) (rsb : BitVec 5)
    (rso : BitVec 5) (s : State) : Out :=
  xfr .d 2#2 0#2 updD updS pp rdb rdo rsb rso s

/-- 47_long_gp_b.md R504. -/
def execXfrd21 (updD : Bool) (updS : Bool) (pp : Bool) (rdb : BitVec 5) (rdo : BitVec 5) (rsb : BitVec 5)
    (rso : BitVec 5) (s : State) : Out :=
  xfr .d 2#2 1#2 updD updS pp rdb rdo rsb rso s

/-- 47_long_gp_b.md R504. -/
def execXfrd23 (updD : Bool) (updS : Bool) (pp : Bool) (rdb : BitVec 5) (rdo : BitVec 5) (rsb : BitVec 5)
    (rso : BitVec 5) (s : State) : Out :=
  xfr .d 2#2 3#2 updD updS pp rdb rdo rsb rso s

/-- 47_long_gp_b.md R504. -/
def execXfrd30 (updD : Bool) (updS : Bool) (pp : Bool) (rdb : BitVec 5) (rdo : BitVec 5) (rsb : BitVec 5)
    (rso : BitVec 5) (s : State) : Out :=
  xfr .d 3#2 0#2 updD updS pp rdb rdo rsb rso s

/-- 47_long_gp_b.md R504. -/
def execXfrd31 (updD : Bool) (updS : Bool) (pp : Bool) (rdb : BitVec 5) (rdo : BitVec 5) (rsb : BitVec 5)
    (rso : BitVec 5) (s : State) : Out :=
  xfr .d 3#2 1#2 updD updS pp rdb rdo rsb rso s

/-- 47_long_gp_b.md R504. -/
def execXfrd32 (updD : Bool) (updS : Bool) (pp : Bool) (rdb : BitVec 5) (rdo : BitVec 5) (rsb : BitVec 5)
    (rso : BitVec 5) (s : State) : Out :=
  xfr .d 3#2 2#2 updD updS pp rdb rdo rsb rso s

/-- 47_long_gp_b.md R504. -/
def execXfrl01 (updD : Bool) (updS : Bool) (pp : Bool) (rdb : BitVec 5) (rdo : BitVec 5) (rsb : BitVec 5)
    (rso : BitVec 5) (s : State) : Out :=
  xfr .l 0#2 1#2 updD updS pp rdb rdo rsb rso s

/-- 47_long_gp_b.md R504. -/
def execXfrl02 (updD : Bool) (updS : Bool) (pp : Bool) (rdb : BitVec 5) (rdo : BitVec 5) (rsb : BitVec 5)
    (rso : BitVec 5) (s : State) : Out :=
  xfr .l 0#2 2#2 updD updS pp rdb rdo rsb rso s

/-- 47_long_gp_b.md R504. -/
def execXfrl03 (updD : Bool) (updS : Bool) (pp : Bool) (rdb : BitVec 5) (rdo : BitVec 5) (rsb : BitVec 5)
    (rso : BitVec 5) (s : State) : Out :=
  xfr .l 0#2 3#2 updD updS pp rdb rdo rsb rso s

/-- 47_long_gp_b.md R504. -/
def execXfrl10 (updD : Bool) (updS : Bool) (pp : Bool) (rdb : BitVec 5) (rdo : BitVec 5) (rsb : BitVec 5)
    (rso : BitVec 5) (s : State) : Out :=
  xfr .l 1#2 0#2 updD updS pp rdb rdo rsb rso s

/-- 47_long_gp_b.md R504. -/
def execXfrl12 (updD : Bool) (updS : Bool) (pp : Bool) (rdb : BitVec 5) (rdo : BitVec 5) (rsb : BitVec 5)
    (rso : BitVec 5) (s : State) : Out :=
  xfr .l 1#2 2#2 updD updS pp rdb rdo rsb rso s

/-- 47_long_gp_b.md R504. -/
def execXfrl13 (updD : Bool) (updS : Bool) (pp : Bool) (rdb : BitVec 5) (rdo : BitVec 5) (rsb : BitVec 5)
    (rso : BitVec 5) (s : State) : Out :=
  xfr .l 1#2 3#2 updD updS pp rdb rdo rsb rso s

/-- 47_long_gp_b.md R504. -/
def execXfrl20 (updD : Bool) (updS : Bool) (pp : Bool) (rdb : BitVec 5) (rdo : BitVec 5) (rsb : BitVec 5)
    (rso : BitVec 5) (s : State) : Out :=
  xfr .l 2#2 0#2 updD updS pp rdb rdo rsb rso s

/-- 47_long_gp_b.md R504. -/
def execXfrl21 (updD : Bool) (updS : Bool) (pp : Bool) (rdb : BitVec 5) (rdo : BitVec 5) (rsb : BitVec 5)
    (rso : BitVec 5) (s : State) : Out :=
  xfr .l 2#2 1#2 updD updS pp rdb rdo rsb rso s

/-- 47_long_gp_b.md R504. -/
def execXfrl23 (updD : Bool) (updS : Bool) (pp : Bool) (rdb : BitVec 5) (rdo : BitVec 5) (rsb : BitVec 5)
    (rso : BitVec 5) (s : State) : Out :=
  xfr .l 2#2 3#2 updD updS pp rdb rdo rsb rso s

/-- 47_long_gp_b.md R504. -/
def execXfrl30 (updD : Bool) (updS : Bool) (pp : Bool) (rdb : BitVec 5) (rdo : BitVec 5) (rsb : BitVec 5)
    (rso : BitVec 5) (s : State) : Out :=
  xfr .l 3#2 0#2 updD updS pp rdb rdo rsb rso s

/-- 47_long_gp_b.md R504. -/
def execXfrl31 (updD : Bool) (updS : Bool) (pp : Bool) (rdb : BitVec 5) (rdo : BitVec 5) (rsb : BitVec 5)
    (rso : BitVec 5) (s : State) : Out :=
  xfr .l 3#2 1#2 updD updS pp rdb rdo rsb rso s

/-- 47_long_gp_b.md R504. -/
def execXfrl32 (updD : Bool) (updS : Bool) (pp : Bool) (rdb : BitVec 5) (rdo : BitVec 5) (rsb : BitVec 5)
    (rso : BitVec 5) (s : State) : Out :=
  xfr .l 3#2 2#2 updD updS pp rdb rdo rsb rso s

/-- 46_long_gp_a.md R459. -/
def execCpxl (cpd : BitVec 3) (cps : BitVec 3) (rep : Bool) (s : State) : Out :=
  let (v, s1) := cpRead s cps .l
  let s2 := cpWrite s1 cpd v
  finish s (.ok () (if rep then repeatOrAdvance s2 else advance s2))

/-- 46_long_gp_a.md R457. -/
def execCpwlRR (bu : BitVec 2) (cp : BitVec 3) (rs1 : BitVec 5) (rs2 : BitVec 5) (s : State) : Out :=
  let u := baseUnit bu
  finish s (.ok () (advance (cpWrite s cp (readPair s u rs1 rs2))))

/-- 46_long_gp_a.md R457. -/
def execCpwlRI (bu : BitVec 2) (cp : BitVec 3) (rs1 : BitVec 5) (imm : BitVec 16) (s : State) : Out :=
  finish s (.ok () (advance (cpWrite s cp (imm.setWidth 32 ++ readReg s (baseUnit bu) rs1 0))))

/-- 46_long_gp_a.md R458. -/
def execCpwlMemR (bu : BitVec 2) (cp : BitVec 3) (rb : BitVec 5) (ro : BitVec 5) (rep : Bool) (ua : Bool)
    (pp : Bool) (s : State) : Out :=
  cpwlMem rep cp (exprR s bu rb ro ua pp) s

/-- 46_long_gp_a.md R458. -/
def execCpwlMemI8 (bu : BitVec 2) (cp : BitVec 3) (rb : BitVec 5) (imm : BitVec 8) (rep : Bool) (ua : Bool)
    (pp : Bool) (s : State) : Out :=
  cpwlMem rep cp (exprI s (baseUnit bu) rb (imm.signExtend 32 * BitVec.ofNat 32 s.cfg.cpwlS8Scale) ua pp) s

end Sys2Proof.Machine
end

