-- ==== Sys2Proof/Machine/Dispatch.lean ====
section
/-! DEFINITION. One meaning per instruction. -/

namespace Sys2Proof.Machine

def exec (i : Instr) (s : State) : Host.Outcome State Fault Refusal :=
  match i with
  | .addRR sf du rd rs1 rs2 => Sys2Proof.Machine.execAddRR sf du rd rs1 rs2 s
  | .addRX sf du rd rs1 osel oreg => Sys2Proof.Machine.execAddRX sf du rd rs1 osel oreg s
  | .movRR sf du rd rs2 => Sys2Proof.Machine.execMovRR sf du rd rs2 s
  | .movRX sf du rd osel oreg => Sys2Proof.Machine.execMovRX sf du rd osel oreg s
  | .addI16 sf du rd imm se h => Sys2Proof.Machine.execAddI16 sf du rd imm se h s
  | .movI16 sf du rd imm se h => Sys2Proof.Machine.execMovI16 sf du rd imm se h s
  | .addCR sf du rd rs1 rs2 ud cc => Sys2Proof.Machine.execAddCR sf du rd rs1 rs2 ud cc s
  | .addCX sf du rd rs1 osel oreg ud cc => Sys2Proof.Machine.execAddCX sf du rd rs1 osel oreg ud cc s
  | .addUX8 sf du rd rs imm ud => Sys2Proof.Machine.execAddUX8 sf du rd rs imm ud s
  | .addCX8 sf du rd rs imm cc => Sys2Proof.Machine.execAddCX8 sf du rd rs imm cc s
  | .subRR sf du rd rs1 rs2 => Sys2Proof.Machine.execSubRR sf du rd rs1 rs2 s
  | .subRX sf du rd rs1 osel oreg => Sys2Proof.Machine.execSubRX sf du rd rs1 osel oreg s
  | .negRR sf du rd rs2 => Sys2Proof.Machine.execNegRR sf du rd rs2 s
  | .negRX sf du rd osel oreg => Sys2Proof.Machine.execNegRX sf du rd osel oreg s
  | .subI16 sf du rd imm se h => Sys2Proof.Machine.execSubI16 sf du rd imm se h s
  | .negI16 sf du rd imm se h => Sys2Proof.Machine.execNegI16 sf du rd imm se h s
  | .subCR sf du rd rs1 rs2 ud cc => Sys2Proof.Machine.execSubCR sf du rd rs1 rs2 ud cc s
  | .subCX sf du rd rs1 osel oreg ud cc => Sys2Proof.Machine.execSubCX sf du rd rs1 osel oreg ud cc s
  | .subUX8 sf du rd rs imm ud => Sys2Proof.Machine.execSubUX8 sf du rd rs imm ud s
  | .subCX8 sf du rd rs imm cc => Sys2Proof.Machine.execSubCX8 sf du rd rs imm cc s
  | .andRR sf du rd rs1 rs2 => Sys2Proof.Machine.execAndRR sf du rd rs1 rs2 s
  | .andRX sf du rd rs1 osel oreg => Sys2Proof.Machine.execAndRX sf du rd rs1 osel oreg s
  | .andI16 sf du rd imm m se h => Sys2Proof.Machine.execAndI16 sf du rd imm m se h s
  | .andCR sf du rd rs1 rs2 ud cc => Sys2Proof.Machine.execAndCR sf du rd rs1 rs2 ud cc s
  | .andCX sf du rd rs1 osel oreg ud cc => Sys2Proof.Machine.execAndCX sf du rd rs1 osel oreg ud cc s
  | .andUX8 sf du rd rs imm ud => Sys2Proof.Machine.execAndUX8 sf du rd rs imm ud s
  | .andCX8 sf du rd rs imm cc => Sys2Proof.Machine.execAndCX8 sf du rd rs imm cc s
  | .orRR sf du rd rs1 rs2 => Sys2Proof.Machine.execOrRR sf du rd rs1 rs2 s
  | .orRX sf du rd rs1 osel oreg => Sys2Proof.Machine.execOrRX sf du rd rs1 osel oreg s
  | .orI16 sf du rd imm m se h => Sys2Proof.Machine.execOrI16 sf du rd imm m se h s
  | .orCR sf du rd rs1 rs2 ud cc => Sys2Proof.Machine.execOrCR sf du rd rs1 rs2 ud cc s
  | .orCX sf du rd rs1 osel oreg ud cc => Sys2Proof.Machine.execOrCX sf du rd rs1 osel oreg ud cc s
  | .orUX8 sf du rd rs imm ud => Sys2Proof.Machine.execOrUX8 sf du rd rs imm ud s
  | .orCX8 sf du rd rs imm cc => Sys2Proof.Machine.execOrCX8 sf du rd rs imm cc s
  | .xorRR sf du rd rs1 rs2 => Sys2Proof.Machine.execXorRR sf du rd rs1 rs2 s
  | .xorRX sf du rd rs1 osel oreg => Sys2Proof.Machine.execXorRX sf du rd rs1 osel oreg s
  | .xorI16 sf du rd imm m se h => Sys2Proof.Machine.execXorI16 sf du rd imm m se h s
  | .xorCR sf du rd rs1 rs2 ud cc => Sys2Proof.Machine.execXorCR sf du rd rs1 rs2 ud cc s
  | .xorCX sf du rd rs1 osel oreg ud cc => Sys2Proof.Machine.execXorCX sf du rd rs1 osel oreg ud cc s
  | .xorUX8 sf du rd rs imm ud => Sys2Proof.Machine.execXorUX8 sf du rd rs imm ud s
  | .xorCX8 sf du rd rs imm cc => Sys2Proof.Machine.execXorCX8 sf du rd rs imm cc s
  | .addARR au rd pc1 rs1 pc2 rs2 => Sys2Proof.Machine.execAddARR au rd pc1 rs1 pc2 rs2 s
  | .addARX au rd pc1 rs1 osel oreg => Sys2Proof.Machine.execAddARX au rd pc1 rs1 osel oreg s
  | .movARR au rd pc2 rs2 => Sys2Proof.Machine.execMovARR au rd pc2 rs2 s
  | .movARX au rd osel oreg => Sys2Proof.Machine.execMovARX au rd osel oreg s
  | .addAI16 au pcb rd imm se h => Sys2Proof.Machine.execAddAI16 au pcb rd imm se h s
  | .movAI16 au pcb rd imm se h => Sys2Proof.Machine.execMovAI16 au pcb rd imm se h s
  | .addACR au rd pc1 rs1 pc2 rs2 ud cc => Sys2Proof.Machine.execAddACR au rd pc1 rs1 pc2 rs2 ud cc s
  | .addACX au rd pc1 rs1 osel oreg ud cc => Sys2Proof.Machine.execAddACX au rd pc1 rs1 osel oreg ud cc s
  | .addAUX8 au rd pc1 rs imm ud => Sys2Proof.Machine.execAddAUX8 au rd pc1 rs imm ud s
  | .addACX8 au rd pc1 rs imm cc => Sys2Proof.Machine.execAddACX8 au rd pc1 rs imm cc s
  | .subARR au rd pc1 rs1 pc2 rs2 => Sys2Proof.Machine.execSubARR au rd pc1 rs1 pc2 rs2 s
  | .subARX au rd pc1 rs1 osel oreg => Sys2Proof.Machine.execSubARX au rd pc1 rs1 osel oreg s
  | .negARR au rd pc2 rs2 => Sys2Proof.Machine.execNegARR au rd pc2 rs2 s
  | .negARX au rd osel oreg => Sys2Proof.Machine.execNegARX au rd osel oreg s
  | .subAI16 au pcb rd imm se h => Sys2Proof.Machine.execSubAI16 au pcb rd imm se h s
  | .negAI16 au pcb rd imm se h => Sys2Proof.Machine.execNegAI16 au pcb rd imm se h s
  | .subACR au rd pc1 rs1 pc2 rs2 ud cc => Sys2Proof.Machine.execSubACR au rd pc1 rs1 pc2 rs2 ud cc s
  | .subACX au rd pc1 rs1 osel oreg ud cc => Sys2Proof.Machine.execSubACX au rd pc1 rs1 osel oreg ud cc s
  | .subAUX8 au rd pc1 rs imm ud => Sys2Proof.Machine.execSubAUX8 au rd pc1 rs imm ud s
  | .subACX8 au rd pc1 rs imm cc => Sys2Proof.Machine.execSubACX8 au rd pc1 rs imm cc s
  | .lslRR sf du rd rs1 rs2 => Sys2Proof.Machine.execLslRR sf du rd rs1 rs2 s
  | .lslI5 sf du rd rs1 imm => Sys2Proof.Machine.execLslI5 sf du rd rs1 imm s
  | .lslUR sf du rd rs1 rs2 ud => Sys2Proof.Machine.execLslUR sf du rd rs1 rs2 ud s
  | .lslUI5 sf du rd rs1 imm ud => Sys2Proof.Machine.execLslUI5 sf du rd rs1 imm ud s
  | .lslCR sf du rd rs1 rs2 cc => Sys2Proof.Machine.execLslCR sf du rd rs1 rs2 cc s
  | .lslCI5 sf du rd rs1 imm cc => Sys2Proof.Machine.execLslCI5 sf du rd rs1 imm cc s
  | .lsrRR sf du rd rs1 rs2 => Sys2Proof.Machine.execLsrRR sf du rd rs1 rs2 s
  | .lsrI5 sf du rd rs1 imm => Sys2Proof.Machine.execLsrI5 sf du rd rs1 imm s
  | .lsrUR sf du rd rs1 rs2 ud => Sys2Proof.Machine.execLsrUR sf du rd rs1 rs2 ud s
  | .lsrUI5 sf du rd rs1 imm ud => Sys2Proof.Machine.execLsrUI5 sf du rd rs1 imm ud s
  | .lsrCR sf du rd rs1 rs2 cc => Sys2Proof.Machine.execLsrCR sf du rd rs1 rs2 cc s
  | .lsrCI5 sf du rd rs1 imm cc => Sys2Proof.Machine.execLsrCI5 sf du rd rs1 imm cc s
  | .aslRR sf du rd rs1 rs2 => Sys2Proof.Machine.execAslRR sf du rd rs1 rs2 s
  | .aslI5 sf du rd rs1 imm => Sys2Proof.Machine.execAslI5 sf du rd rs1 imm s
  | .aslUR sf du rd rs1 rs2 ud => Sys2Proof.Machine.execAslUR sf du rd rs1 rs2 ud s
  | .aslUI5 sf du rd rs1 imm ud => Sys2Proof.Machine.execAslUI5 sf du rd rs1 imm ud s
  | .aslCR sf du rd rs1 rs2 cc => Sys2Proof.Machine.execAslCR sf du rd rs1 rs2 cc s
  | .aslCI5 sf du rd rs1 imm cc => Sys2Proof.Machine.execAslCI5 sf du rd rs1 imm cc s
  | .asrRR sf du rd rs1 rs2 => Sys2Proof.Machine.execAsrRR sf du rd rs1 rs2 s
  | .asrI5 sf du rd rs1 imm => Sys2Proof.Machine.execAsrI5 sf du rd rs1 imm s
  | .asrUR sf du rd rs1 rs2 ud => Sys2Proof.Machine.execAsrUR sf du rd rs1 rs2 ud s
  | .asrUI5 sf du rd rs1 imm ud => Sys2Proof.Machine.execAsrUI5 sf du rd rs1 imm ud s
  | .asrCR sf du rd rs1 rs2 cc => Sys2Proof.Machine.execAsrCR sf du rd rs1 rs2 cc s
  | .asrCI5 sf du rd rs1 imm cc => Sys2Proof.Machine.execAsrCI5 sf du rd rs1 imm cc s
  | .mulwRR du rd rs1 rs2 => Sys2Proof.Machine.execMulwRR du rd rs1 rs2 s
  | .mulwRX du rd rs1 osel oreg => Sys2Proof.Machine.execMulwRX du rd rs1 osel oreg s
  | .mulwI16 du rd imm se h => Sys2Proof.Machine.execMulwI16 du rd imm se h s
  | .mulwUR du rd rs1 rs2 ud => Sys2Proof.Machine.execMulwUR du rd rs1 rs2 ud s
  | .mulwUX du rd rs1 osel oreg ud => Sys2Proof.Machine.execMulwUX du rd rs1 osel oreg ud s
  | .mulwUX8 du rd rs imm ud => Sys2Proof.Machine.execMulwUX8 du rd rs imm ud s
  | .mulwCR du rd rs1 rs2 cc => Sys2Proof.Machine.execMulwCR du rd rs1 rs2 cc s
  | .mulwCX du rd rs1 osel oreg cc => Sys2Proof.Machine.execMulwCX du rd rs1 osel oreg cc s
  | .mulwCX8 du rd rs imm cc => Sys2Proof.Machine.execMulwCX8 du rd rs imm cc s
  | .muldRR du rd rs1 rs2 => Sys2Proof.Machine.execMuldRR du rd rs1 rs2 s
  | .muldRX du rd rs1 osel oreg => Sys2Proof.Machine.execMuldRX du rd rs1 osel oreg s
  | .muldI16 du rd imm se h => Sys2Proof.Machine.execMuldI16 du rd imm se h s
  | .muldUR du rd rs1 rs2 ud => Sys2Proof.Machine.execMuldUR du rd rs1 rs2 ud s
  | .muldUX du rd rs1 osel oreg ud => Sys2Proof.Machine.execMuldUX du rd rs1 osel oreg ud s
  | .muldUX8 du rd rs imm ud => Sys2Proof.Machine.execMuldUX8 du rd rs imm ud s
  | .muldCR du rd rs1 rs2 cc => Sys2Proof.Machine.execMuldCR du rd rs1 rs2 cc s
  | .muldCX du rd rs1 osel oreg cc => Sys2Proof.Machine.execMuldCX du rd rs1 osel oreg cc s
  | .muldCX8 du rd rs imm cc => Sys2Proof.Machine.execMuldCX8 du rd rs imm cc s
  | .absRR du rd rs => Sys2Proof.Machine.execAbsRR du rd rs s
  | .ffbRR du rd rs => Sys2Proof.Machine.execFfbRR du rd rs s
  | .maxRR du rd rs1 rs2 => Sys2Proof.Machine.execMaxRR du rd rs1 rs2 s
  | .minRR du rd rs1 rs2 => Sys2Proof.Machine.execMinRR du rd rs1 rs2 s
  | .mortRR du rd rs1 rs2 => Sys2Proof.Machine.execMortRR du rd rs1 rs2 s
  | .mortRX du rd rs1 osel oreg => Sys2Proof.Machine.execMortRX du rd rs1 osel oreg s
  | .nminRR du rd rs1 rs2 => Sys2Proof.Machine.execNminRR du rd rs1 rs2 s
  | .normRR du rd rs => Sys2Proof.Machine.execNormRR du rd rs s
  | .vpackRR du rd rs1 rs2 => Sys2Proof.Machine.execVpackRR du rd rs1 rs2 s
  | .vpackRX du rd rs1 osel oreg => Sys2Proof.Machine.execVpackRX du rd rs1 osel oreg s
  | .cmpRR du rs1 rs2 => Sys2Proof.Machine.execCmpRR du rs1 rs2 s
  | .cmpRX du rs1 osel oreg => Sys2Proof.Machine.execCmpRX du rs1 osel oreg s
  | .cmpI16 du rs imm m se h => Sys2Proof.Machine.execCmpI16 du rs imm m se h s
  | .cmpCR du rs1 rs2 cc => Sys2Proof.Machine.execCmpCR du rs1 rs2 cc s
  | .cmpCX du rs1 osel oreg cc => Sys2Proof.Machine.execCmpCX du rs1 osel oreg cc s
  | .cmpCX8 du rs imm cc => Sys2Proof.Machine.execCmpCX8 du rs imm cc s
  | .tstRR du rs1 rs2 => Sys2Proof.Machine.execTstRR du rs1 rs2 s
  | .tstRX du rs1 osel oreg => Sys2Proof.Machine.execTstRX du rs1 osel oreg s
  | .tstI16 du rs imm m se h => Sys2Proof.Machine.execTstI16 du rs imm m se h s
  | .tstCR du rs1 rs2 cc => Sys2Proof.Machine.execTstCR du rs1 rs2 cc s
  | .tstCX du rs1 osel oreg cc => Sys2Proof.Machine.execTstCX du rs1 osel oreg cc s
  | .tstCX8 du rs imm cc => Sys2Proof.Machine.execTstCX8 du rs imm cc s
  | .nop => Sys2Proof.Machine.execNop s
  | .branch off rep => Sys2Proof.Machine.execBranch off rep s
  | .branchCc off cc rep => Sys2Proof.Machine.execBranchCc off cc rep s
  | .movbRd rd ud cc => Sys2Proof.Machine.execMovbRd rd ud cc s
  | .movwRd rd ud cc => Sys2Proof.Machine.execMovwRd rd ud cc s
  | .movdRd rd ud cc => Sys2Proof.Machine.execMovdRd rd ud cc s
  | .cprbUnit rd cp ud cc => Sys2Proof.Machine.execCprbUnit rd cp ud cc s
  | .cprwUnit rd cp ud cc => Sys2Proof.Machine.execCprwUnit rd cp ud cc s
  | .cprdUnit rd cp ud cc => Sys2Proof.Machine.execCprdUnit rd cp ud cc s
  | .movlTtrec rs1 rs2 bu cc => Sys2Proof.Machine.execMovlTtrec rs1 rs2 bu cc s
  | .movlRd rd1 rd2 bu cc => Sys2Proof.Machine.execMovlRd rd1 rd2 bu cc s
  | .cprlPair rd1 cp rd2 bu cc => Sys2Proof.Machine.execCprlPair rd1 cp rd2 bu cc s
  | .rti => Sys2Proof.Machine.execRti s
  | .rth => Sys2Proof.Machine.execRth s
  | .ttmov rd rs us ud cc => Sys2Proof.Machine.execTtmov rd rs us ud cc s
  | .kick rd rs ud cc => Sys2Proof.Machine.execKick rd rs ud cc s
  | .defr rd rs ud cc => Sys2Proof.Machine.execDefr rd rs ud cc s
  | .swap rd rs us ud => Sys2Proof.Machine.execSwap rd rs us ud s
  | .swapCc rd rs us ud cc => Sys2Proof.Machine.execSwapCc rd rs us ud cc s
  | .movUnit rd rs us ud => Sys2Proof.Machine.execMovUnit rd rs us ud s
  | .movUnitCc rd rs us ud cc => Sys2Proof.Machine.execMovUnitCc rd rs us ud cc s
  | .cprbMemCc cp rb bu cc => Sys2Proof.Machine.execCprbMemCc cp rb bu cc s
  | .cprwMemCc cp rb bu cc => Sys2Proof.Machine.execCprwMemCc cp rb bu cc s
  | .cprdMemCc cp rb bu cc => Sys2Proof.Machine.execCprdMemCc cp rb bu cc s
  | .cprlMemCc cp rb bu cc => Sys2Proof.Machine.execCprlMemCc cp rb bu cc s
  | .setbCc rs rb us bu cc => Sys2Proof.Machine.execSetbCc rs rb us bu cc s
  | .setwCc rs rb us bu cc => Sys2Proof.Machine.execSetwCc rs rb us bu cc s
  | .setdCc rs rb us bu cc => Sys2Proof.Machine.execSetdCc rs rb us bu cc s
  | .setlCc rs rb us bu cc => Sys2Proof.Machine.execSetlCc rs rb us bu cc s
  | .lnksetb rs rb us bu cc => Sys2Proof.Machine.execLnksetb rs rb us bu cc s
  | .lnksetw rs rb us bu cc => Sys2Proof.Machine.execLnksetw rs rb us bu cc s
  | .lnksetd rs rb us bu cc => Sys2Proof.Machine.execLnksetd rs rb us bu cc s
  | .lnksetl rs rb us bu cc => Sys2Proof.Machine.execLnksetl rs rb us bu cc s
  | .setbS12 rs imm bua bus rb => Sys2Proof.Machine.execSetbS12 rs imm bua bus rb s
  | .setwS12 rs imm bua bus rb => Sys2Proof.Machine.execSetwS12 rs imm bua bus rb s
  | .setdS12 rs imm bua bus rb => Sys2Proof.Machine.execSetdS12 rs imm bua bus rb s
  | .setlS12 rs imm bua bus rb => Sys2Proof.Machine.execSetlS12 rs imm bua bus rb s
  | .movbRaS12 port imm bua rb => Sys2Proof.Machine.execMovbRaS12 port imm bua rb s
  | .movwRaS12 port imm bua rb => Sys2Proof.Machine.execMovwRaS12 port imm bua rb s
  | .movdRaS12 port imm bua rb => Sys2Proof.Machine.execMovdRaS12 port imm bua rb s
  | .movlRaS12 port imm bua rb => Sys2Proof.Machine.execMovlRaS12 port imm bua rb s
  | .getbS12 rd imm bua bud rb => Sys2Proof.Machine.execGetbS12 rd imm bua bud rb s
  | .getwS12 rd imm bua bud rb => Sys2Proof.Machine.execGetwS12 rd imm bua bud rb s
  | .getdS12 rd imm bua bud rb => Sys2Proof.Machine.execGetdS12 rd imm bua bud rb s
  | .getlS12 rd imm bua bud rb => Sys2Proof.Machine.execGetlS12 rd imm bua bud rb s
  | .lock0 => Sys2Proof.Machine.execLock0 s
  | .lock1 => Sys2Proof.Machine.execLock1 s
  | .lock2 => Sys2Proof.Machine.execLock2 s
  | .movCt rd imm se h => Sys2Proof.Machine.execMovCt rd imm se h s
  | .movTt rd imm se h => Sys2Proof.Machine.execMovTt rd imm se h s
  | .xsdb rd rs sf du => Sys2Proof.Machine.execXsdb rd rs sf du s
  | .xsdw rd rs sf du => Sys2Proof.Machine.execXsdw rd rs sf du s
  | .bexd rd rs sf du => Sys2Proof.Machine.execBexd rd rs sf du s
  | .bexl rd rs sf du => Sys2Proof.Machine.execBexl rd rs sf du s
  | .rtdw rd rs sf du => Sys2Proof.Machine.execRtdw rd rs sf du s
  | .callr off bu rr => Sys2Proof.Machine.execCallr off bu rr s
  | .jump rs imm bu => Sys2Proof.Machine.execJump rs imm bu s
  | .call rs imm bu => Sys2Proof.Machine.execCall rs imm bu s
  | .lnkgetb rd rb bua bur => Sys2Proof.Machine.execLnkgetb rd rb bua bur s
  | .lnkgetw rd rb bua bur => Sys2Proof.Machine.execLnkgetw rd rb bua bur s
  | .lnkgetd rd rb bua bur => Sys2Proof.Machine.execLnkgetd rd rb bua bur s
  | .lnkgetl rd rb bua bur => Sys2Proof.Machine.execLnkgetl rd rb bua bur s
  | .cacherl rd rb imm bua bur => Sys2Proof.Machine.execCacherl rd rb imm bua bur s
  | .cacherd rd rb imm bua bur => Sys2Proof.Machine.execCacherd rd rb imm bua bur s
  | .cachewl rs rb imm bua bur => Sys2Proof.Machine.execCachewl rs rb imm bua bur s
  | .cachewd rs rb imm bua bur => Sys2Proof.Machine.execCachewd rs rb imm bua bur s
  | .dcache rs rb imm bua bur => Sys2Proof.Machine.execDcache rs rb imm bua bur s
  | .icacheExit pri => Sys2Proof.Machine.execIcacheExit pri s
  | .icache off count pri => Sys2Proof.Machine.execIcache off count pri s
  | .switch value => Sys2Proof.Machine.execSwitch value s
  | .cprbMemR rb ro ua bu pp cp => Sys2Proof.Machine.execCprbMemR rb ro ua bu pp cp s
  | .cprbMemI6 rb imm ua bu pp cp => Sys2Proof.Machine.execCprbMemI6 rb imm ua bu pp cp s
  | .cprwMemR rb ro ua bu pp cp => Sys2Proof.Machine.execCprwMemR rb ro ua bu pp cp s
  | .cprwMemI6 rb imm ua bu pp cp => Sys2Proof.Machine.execCprwMemI6 rb imm ua bu pp cp s
  | .cprdMemR rb ro ua bu pp cp => Sys2Proof.Machine.execCprdMemR rb ro ua bu pp cp s
  | .cprdMemI6 rb imm ua bu pp cp => Sys2Proof.Machine.execCprdMemI6 rb imm ua bu pp cp s
  | .cprlMemR rb ro ua bu pp cp => Sys2Proof.Machine.execCprlMemR rb ro ua bu pp cp s
  | .cprlMemI6 rb imm ua bu pp cp => Sys2Proof.Machine.execCprlMemI6 rb imm ua bu pp cp s
  | .setdShort rs rb imm ua us pp => Sys2Proof.Machine.execSetdShort rs rb imm ua us pp s
  | .setbR rs rb ro ua bu us pp => Sys2Proof.Machine.execSetbR rs rb ro ua bu us pp s
  | .setbI6 rs rb imm ua bu us pp => Sys2Proof.Machine.execSetbI6 rs rb imm ua bu us pp s
  | .setwR rs rb ro ua bu us pp => Sys2Proof.Machine.execSetwR rs rb ro ua bu us pp s
  | .setwI6 rs rb imm ua bu us pp => Sys2Proof.Machine.execSetwI6 rs rb imm ua bu us pp s
  | .setdR rs rb ro ua bu us pp => Sys2Proof.Machine.execSetdR rs rb ro ua bu us pp s
  | .setdI6 rs rb imm ua bu us pp => Sys2Proof.Machine.execSetdI6 rs rb imm ua bu us pp s
  | .setlR rs rb ro ua bu us pp => Sys2Proof.Machine.execSetlR rs rb ro ua bu us pp s
  | .setlI6 rs rb imm ua bu us pp => Sys2Proof.Machine.execSetlI6 rs rb imm ua bu us pp s
  | .msetd rs rb rmask bua bus => Sys2Proof.Machine.execMsetd rs rb rmask bua bus s
  | .msetl rs rb rmask bua bus => Sys2Proof.Machine.execMsetl rs rb rmask bua bus s
  | .movbRaR rb ro ua bu pp port => Sys2Proof.Machine.execMovbRaR rb ro ua bu pp port s
  | .movbRaI6 rb imm ua bu pp port => Sys2Proof.Machine.execMovbRaI6 rb imm ua bu pp port s
  | .movwRaR rb ro ua bu pp port => Sys2Proof.Machine.execMovwRaR rb ro ua bu pp port s
  | .movwRaI6 rb imm ua bu pp port => Sys2Proof.Machine.execMovwRaI6 rb imm ua bu pp port s
  | .movdRaR rb ro ua bu pp port => Sys2Proof.Machine.execMovdRaR rb ro ua bu pp port s
  | .movdRaI6 rb imm ua bu pp port => Sys2Proof.Machine.execMovdRaI6 rb imm ua bu pp port s
  | .movlRaR rb ro ua bu pp port => Sys2Proof.Machine.execMovlRaR rb ro ua bu pp port s
  | .movlRaI6 rb imm ua bu pp port => Sys2Proof.Machine.execMovlRaI6 rb imm ua bu pp port s
  | .getdShort rd rb imm ua ud pp => Sys2Proof.Machine.execGetdShort rd rb imm ua ud pp s
  | .getbR rd rb ro ua bu ud pp => Sys2Proof.Machine.execGetbR rd rb ro ua bu ud pp s
  | .getbI6 rd rb imm ua bu ud pp => Sys2Proof.Machine.execGetbI6 rd rb imm ua bu ud pp s
  | .getwR rd rb ro ua bu ud pp => Sys2Proof.Machine.execGetwR rd rb ro ua bu ud pp s
  | .getwI6 rd rb imm ua bu ud pp => Sys2Proof.Machine.execGetwI6 rd rb imm ua bu ud pp s
  | .getdR rd rb ro ua bu ud pp => Sys2Proof.Machine.execGetdR rd rb ro ua bu ud pp s
  | .getdI6 rd rb imm ua bu ud pp => Sys2Proof.Machine.execGetdI6 rd rb imm ua bu ud pp s
  | .getlR rd rb ro ua bu ud pp => Sys2Proof.Machine.execGetlR rd rb ro ua bu ud pp s
  | .getlI6 rd rb imm ua bu ud pp => Sys2Proof.Machine.execGetlI6 rd rb imm ua bu ud pp s
  | .mgetd rd rb rmask bua bud => Sys2Proof.Machine.execMgetd rd rb rmask bua bud s
  | .mgetl rd rb rmask bua bud => Sys2Proof.Machine.execMgetl rd rb rmask bua bud s
  | .mmovdRa port rb rmask bua => Sys2Proof.Machine.execMmovdRa port rb rmask bua s
  | .mmovlRa port rb rmask bua => Sys2Proof.Machine.execMmovlRa port rb rmask bua s
  | .mdrd rmask => Sys2Proof.Machine.execMdrd rmask s
  | .mmovdRd rd rmask bur => Sys2Proof.Machine.execMmovdRd rd rmask bur s
  | .mmovlRd rd rmask bur => Sys2Proof.Machine.execMmovlRd rd rmask bur s
  | .cprdr0 updD pp rdb rdo cp => Sys2Proof.Machine.execCprdr0 updD pp rdb rdo cp s
  | .cprdr1 updD pp rdb rdo cp => Sys2Proof.Machine.execCprdr1 updD pp rdb rdo cp s
  | .cprdr2 updD pp rdb rdo cp => Sys2Proof.Machine.execCprdr2 updD pp rdb rdo cp s
  | .cprdr3 updD pp rdb rdo cp => Sys2Proof.Machine.execCprdr3 updD pp rdb rdo cp s
  | .cprlr0 updD pp rdb rdo cp => Sys2Proof.Machine.execCprlr0 updD pp rdb rdo cp s
  | .cprlr1 updD pp rdb rdo cp => Sys2Proof.Machine.execCprlr1 updD pp rdb rdo cp s
  | .cprlr2 updD pp rdb rdo cp => Sys2Proof.Machine.execCprlr2 updD pp rdb rdo cp s
  | .cprlr3 updD pp rdb rdo cp => Sys2Proof.Machine.execCprlr3 updD pp rdb rdo cp s
  | .xfrd01 updD updS pp rdb rdo rsb rso => Sys2Proof.Machine.execXfrd01 updD updS pp rdb rdo rsb rso s
  | .xfrd02 updD updS pp rdb rdo rsb rso => Sys2Proof.Machine.execXfrd02 updD updS pp rdb rdo rsb rso s
  | .xfrd03 updD updS pp rdb rdo rsb rso => Sys2Proof.Machine.execXfrd03 updD updS pp rdb rdo rsb rso s
  | .xfrd10 updD updS pp rdb rdo rsb rso => Sys2Proof.Machine.execXfrd10 updD updS pp rdb rdo rsb rso s
  | .xfrd12 updD updS pp rdb rdo rsb rso => Sys2Proof.Machine.execXfrd12 updD updS pp rdb rdo rsb rso s
  | .xfrd13 updD updS pp rdb rdo rsb rso => Sys2Proof.Machine.execXfrd13 updD updS pp rdb rdo rsb rso s
  | .xfrd20 updD updS pp rdb rdo rsb rso => Sys2Proof.Machine.execXfrd20 updD updS pp rdb rdo rsb rso s
  | .xfrd21 updD updS pp rdb rdo rsb rso => Sys2Proof.Machine.execXfrd21 updD updS pp rdb rdo rsb rso s
  | .xfrd23 updD updS pp rdb rdo rsb rso => Sys2Proof.Machine.execXfrd23 updD updS pp rdb rdo rsb rso s
  | .xfrd30 updD updS pp rdb rdo rsb rso => Sys2Proof.Machine.execXfrd30 updD updS pp rdb rdo rsb rso s
  | .xfrd31 updD updS pp rdb rdo rsb rso => Sys2Proof.Machine.execXfrd31 updD updS pp rdb rdo rsb rso s
  | .xfrd32 updD updS pp rdb rdo rsb rso => Sys2Proof.Machine.execXfrd32 updD updS pp rdb rdo rsb rso s
  | .xfrl01 updD updS pp rdb rdo rsb rso => Sys2Proof.Machine.execXfrl01 updD updS pp rdb rdo rsb rso s
  | .xfrl02 updD updS pp rdb rdo rsb rso => Sys2Proof.Machine.execXfrl02 updD updS pp rdb rdo rsb rso s
  | .xfrl03 updD updS pp rdb rdo rsb rso => Sys2Proof.Machine.execXfrl03 updD updS pp rdb rdo rsb rso s
  | .xfrl10 updD updS pp rdb rdo rsb rso => Sys2Proof.Machine.execXfrl10 updD updS pp rdb rdo rsb rso s
  | .xfrl12 updD updS pp rdb rdo rsb rso => Sys2Proof.Machine.execXfrl12 updD updS pp rdb rdo rsb rso s
  | .xfrl13 updD updS pp rdb rdo rsb rso => Sys2Proof.Machine.execXfrl13 updD updS pp rdb rdo rsb rso s
  | .xfrl20 updD updS pp rdb rdo rsb rso => Sys2Proof.Machine.execXfrl20 updD updS pp rdb rdo rsb rso s
  | .xfrl21 updD updS pp rdb rdo rsb rso => Sys2Proof.Machine.execXfrl21 updD updS pp rdb rdo rsb rso s
  | .xfrl23 updD updS pp rdb rdo rsb rso => Sys2Proof.Machine.execXfrl23 updD updS pp rdb rdo rsb rso s
  | .xfrl30 updD updS pp rdb rdo rsb rso => Sys2Proof.Machine.execXfrl30 updD updS pp rdb rdo rsb rso s
  | .xfrl31 updD updS pp rdb rdo rsb rso => Sys2Proof.Machine.execXfrl31 updD updS pp rdb rdo rsb rso s
  | .xfrl32 updD updS pp rdb rdo rsb rso => Sys2Proof.Machine.execXfrl32 updD updS pp rdb rdo rsb rso s
  | .cpxl cpd cps rep => Sys2Proof.Machine.execCpxl cpd cps rep s
  | .cpwlRR bu cp rs1 rs2 => Sys2Proof.Machine.execCpwlRR bu cp rs1 rs2 s
  | .cpwlRI bu cp rs1 imm => Sys2Proof.Machine.execCpwlRI bu cp rs1 imm s
  | .cpwlMemR bu cp rb ro rep ua pp => Sys2Proof.Machine.execCpwlMemR bu cp rb ro rep ua pp s
  | .cpwlMemI8 bu cp rb imm rep ua pp => Sys2Proof.Machine.execCpwlMemI8 bu cp rb imm rep ua pp s
  | .movr x => Sys2Proof.Machine.execMovr x s
  | .swapr x => Sys2Proof.Machine.execSwapr x s

end Sys2Proof.Machine
end

