-- ==== Sys2Proof/Machine/Fetch.lean ====
section
/-! DEFINITION. Fetching an instruction (20_memory.md R109), placing one from outside, and which threads may run. -/

namespace Sys2Proof.Machine

/-- The four bytes from a physical address as a fetch sees them, the lowest address least significant (20_memory.md
R109). -/
def State.fetchBytes (s : State) (pa : Word) : Word :=
  s.fetchByte (pa + 3#32) ++ s.fetchByte (pa + 2#32) ++ s.fetchByte (pa + 1#32) ++ s.fetchByte pa

/-- The instruction word at pc (40_core_gp_a.md R240 (a)); PCMisaligned comes before FetchFault (60_exceptions.md
R574). DESIGN CHOICE (entry 68): a fetch that fails raises FetchFault in Deferred mode too, of which R580 says what
becomes of loads and stores only. -/
def fetchWord (s : State) : Res Word :=
  if s.th.pc.toNat % 4 = 0 then
    match s.target 2 s.th.pc with
    | none => .exc (.fetchFault s.th.pc)
    | some (.ram pa) => .ok (s.fetchBytes pa) s
    | some (.device d pa) => let (v, s1) := deviceRead s d pa .d; .ok (lowWord v) s1
  else .exc (.pcMisaligned s.th.pc)

/-- The thread that has the turn may not run: another one holds the global lock (10_state.md R79). -/
def State.lockedOut (s : State) : Bool :=
  match s.globOwner with
  | none => false
  | some t => t != s.th.tid

/-- Place a byte from outside: nothing older is seen at its address any more. -/
def State.placeByte (s : State) (pa : Word) (v : Byte) : State :=
  { s with
    mem := s.mem.set pa.toNat v
    icOld := s.icOld.filter fun c => c.1 != pa
    dcOld := s.dcOld.filter fun c => c.1 != pa }

/-- Place the four bytes of a word, the least significant at the lowest address. -/
def State.placeWord (s : State) (pa w : Word) : State :=
  ((((s.placeByte pa (w.extractLsb' 0 8)).placeByte (pa + 1#32) (w.extractLsb' 8 8)).placeByte (pa + 2#32)
    (w.extractLsb' 16 8)).placeByte (pa + 3#32) (w.extractLsb' 24 8))

/-- Place a word where the thread that has the turn fetches next, and let that thread run with nothing from the
environment before it (entry 13). -/
def placeFetchWord (s : State) (w : Word) : State :=
  let s1 := { s with env := [], mid := [], th := { s.th with todo := [] } }.setRun .running
  s1.placeWord ((s1.translate 2 s1.th.pc).getD s1.th.pc) w

end Sys2Proof.Machine
end

