-- ==== Sys2Proof/Machine/Environment.lean ====
section
/-! DEFINITION. What an event of the environment does (60_exceptions.md R608, R597). An event that is not allowed where it
stands does nothing. -/

namespace Sys2Proof.Machine

/-- Change the thread with a number. -/
def State.onThread (s : State) (tid : Nat) (f : Thread → Thread) : State :=
  if s.th.tid = tid then { s with th := f s.th }
  else { s with others := s.others.map fun t => if t.tid = tid then f t else t }

/-- `Interrupt`, 60_exceptions.md R587: not in the middle of an instruction (R595). -/
def Thread.interrupt (kickBit : BitVec 4) (t : Thread) : Thread :=
  if t.todo = [] && !t.istat && t.runState != .halted && t.active kickBit true != 0#16 then t.enterInterrupt else t

/-- `Restart`, 60_exceptions.md R596. -/
def Thread.restart (pc : Word) (t : Thread) : Thread :=
  if t.runState = .halted then { t with runState := .running, pc := pc } else t

/-- Set the cell of a control register from outside. -/
def Thread.setCell (r : CtReg) (v : Word) (t : Thread) : Thread :=
  { t with ct := t.ct.set r.index.val v r.index.isLt }

/-- A deferred error report, 60_exceptions.md R592, R608. DESIGN CHOICE (entry 66): the environment chooses bits 31:16 and
the level. -/
def Thread.report (defrBit : BitVec 4) (level : Bool) (v : BitVec 16) (t : Thread) : Thread :=
  if t.failedAccess then (t.setTxdefr level (v ++ (t.txdefr level).setWidth 16)).raiseTrigger level defrBit else t

/-- `CTWriteEffect` acts, 10_state.md R64. -/
def Thread.hook (r : CtReg) (v : Word) (halt : Bool) (t : Thread) : Thread :=
  let u := t.setCell r v
  if halt then { u with runState := .halted } else u

/-- Give the turn to the thread with a number, 60_exceptions.md R597. -/
def State.select (s : State) (tid : Nat) : State :=
  if s.th.tid = tid then s
  else
    match s.others.find? fun t => t.tid = tid with
    | none => s
    | some t => { s with th := t, others := s.th :: s.others.eraseP fun t => t.tid = tid }

/-- Another thread than the one with this number holds the global lock. -/
def State.excludes (s : State) (tid : Nat) : Bool :=
  match s.globOwner with
  | none => false
  | some t => t != tid

/-- What an event does. -/
def deliver (e : EnvEvent) (s : State) : State :=
  match e with
  | .trigger t l b => s.onThread t fun th => th.raiseTrigger l b
  | .kick t => s.onThread t fun th => { th with kickCount := th.kickCount + 1 }
  | .interrupt t => if s.excludes t then s else s.onThread t (Thread.interrupt s.cfg.kickBit)
  | .restart t pc => s.onThread t (Thread.restart pc)
  | .timerTick t r v => if r.isTimer then s.onThread t (Thread.setCell r v) else s
  | .extWrite a v => s.foreignByte (a, v)
  | .deferredReport t l v =>
    match s.cfg.memErrorMode with
    | .sync => s
    | .deferred => s.onThread t (Thread.report s.cfg.defrBit l v)
  | .retranslate table => { s with xlat := table, xlatOlds := { table := s.xlat, flushed := [] } :: s.xlatOlds }
  | .ctHook t r v h => s.onThread t (Thread.hook r v h)
  | .select t => s.select t
  | .during _ => s

/-- A first point at which the instruction would give way is none: before its first access nothing of it has happened yet
(92_eei_decisions.md D3). -/
def opening : List Point → List Point
  | .giveWay :: l => .writes [] :: l
  | l => l

/-- The end of a step: the points that no access came to are gone, and the counter advances. -/
def State.close (s : State) : State := { s with mid := [], tick := s.tick + 1 }

/-- The end of a step that ran an instruction. -/
def closeOut (o : Out) : Out :=
  match o with
  | .next s => .next s.close
  | .fault f => .fault f
  | .refused r => .refused r

end Sys2Proof.Machine
end

