-- ==== Sys2Proof/Machine/Turn.lean ====
section
/-! DEFINITION. The turn of a thread, and how the script of the environment interleaves with it (60_exceptions.md R597,
R608). -/

namespace Sys2Proof.Machine

/-- Run the instruction a fetch gave: a word that decodes to none raises UnknownInstruction (60_exceptions.md R576). -/
noncomputable def runWord (r : Res Word) (s : State) : Out :=
  match r with
  | .exc k => .next (raise k s)
  | .block b => .next (blockOn b s)
  | .ok w s1 =>
    match decode w.toNat with
    | none => .next (raise (.unknownInstruction w) s1)
    | some i => exec i (s1.setRun .running)

/-- The turn of a thread: a Halted one executes nothing (10_state.md R70, 60_exceptions.md R596), and so does one that
the global lock excludes (10_state.md R79). One whose instruction gave way goes on with its accesses (20_memory.md R122,
R123). -/
noncomputable def runTurn (s : State) : Out :=
  if s.th.runState = .halted then .next s
  else if s.lockedOut then .next s
  else if s.th.todo = [] then runWord (fetchWord s) s
  else .next s.resume

/-- What the script has next: an event of the environment, or the turn of a thread (entry 2). -/
noncomputable def runScript (s : State) : Out :=
  match s.env with
  | [] => closeOut (runTurn s)
  | none :: rest => closeOut (runTurn { s with env := rest })
  | some (.during ws) :: rest => closeOut (runTurn { s with env := rest, mid := opening ws })
  | some e :: rest => .next (deliver e { s with env := rest }).close

end Sys2Proof.Machine
end

