-- ==== Sys2Proof/Machine/Step.lean ====
section
/-! DEFINITION. One step of the machine. -/

namespace Sys2Proof.Machine

/-- One step: an event of the environment, or one instruction of the thread that has the turn. -/
noncomputable def step (s : State) : Out := runScript s

/-- `s` with an instruction stored where the next step fetches it. -/
def State.withFetchWord (s : State) (_nbits w : Nat) : State := placeFetchWord s (BitVec.ofNat 32 w)

end Sys2Proof.Machine
end

