-- ==== Sys2Proof/Safety.lean ====
section
/-! DEFINITION. What every run keeps, and what counts as going on. -/

namespace Sys2Proof.Machine

/-- A read pipeline, with the entries still to come, within its capacity (10_state.md R76). -/
def Thread.pipelineFits (p : Params) (t : Thread) : Prop := t.pipelineUse p ≤ Params.rdFifoDepth p

/-- The holder of the global exclusion holds the voluntary one (40_core_gp_a.md R253). -/
def State.lockOrder (s : State) : Prop := ∀ t, s.globOwner = some t → s.volOwner = some t

/-- What every step keeps. -/
structure State.Inv (s : State) : Prop where
  /-- The memory is in canonical form. -/
  mem : s.mem.wf = true
  /-- The pipeline of the thread that has the turn is within its capacity. -/
  turn : s.th.pipelineFits s.cfg
  /-- So are those of the other threads. -/
  rest : ∀ t ∈ s.others, t.pipelineFits s.cfg
  /-- The locks are held in order. -/
  locks : s.lockOrder

/-- A step goes on. -/
def GoesOn (o : Out) : Prop := ∃ t, o = .next t

end Sys2Proof.Machine
end

