-- ==== Sys2Proof/Certificates/Slice0/Obligations.lean ====
section
/-! DEFINITION. The statements about the model, and the vocabulary they are written in. The predicates of `Claims` are
written from the rules of the spec and not from the meanings: what they leave out of a value is unspecified. -/

namespace Sys2Proof.Claims
open Sys2Proof.Machine

/-! ## What a state keeps and what a write of a register changes -/

/-- Every byte of memory reads as before. -/
def SameBytes (s t : State) : Prop := ∀ a, t.mem.get a = s.mem.get a

/-- The data and address registers that exist, but those of the list, read as before. -/
def RegsBut (s t : State) (l : List (BUnit × BitVec 5)) : Prop :=
  ∀ u n k, regPresent s u n = true → (u, n) ∉ l → readReg t u n k = readReg s u n k

/-- Nothing but data and address registers, the pc and the flags has changed. -/
def OnlyRegs (s t : State) : Prop :=
  t = { s with
    th := { s.th with
      d0 := t.th.d0, d1 := t.th.d1, a0 := t.th.a0, a1 := t.th.a1, pc := t.th.pc, flags := t.th.flags }
    gd0 := t.gd0, gd1 := t.gd1, ga0 := t.ga0, ga1 := t.ga1 }

/-- `s` at the next instruction (40_core_gp_a.md R240 (b)). -/
def atNext (s : State) : State := { s with th := { s.th with pc := s.th.pc + 4#32 } }

/-- `reg(u, n) <- v` leads from `s` to `t`: a register that does not exist is not written (10_state.md R43, R83). -/
structure GprWrite (s t : State) (u : BUnit) (n : BitVec 5) (v : Word) : Prop where
  value : regPresent s u n = true → ∀ k, readReg t u n k = v
  others : RegsBut s t [(u, n)]
  pc : t.th.pc = s.th.pc
  flags : t.th.flags = s.th.flags
  rest : OnlyRegs s t
  bytes : SameBytes s t

/-- Two registers are written: `n1` of unit `u` with the low half of `v`, `n2` of the partner unit with the high half
(20_memory.md R106). -/
structure PairWrite (s t : State) (u : BUnit) (n1 n2 : BitVec 5) (v : DWord) : Prop where
  low : regPresent s u n1 = true → ∀ k, readReg t u n1 k = v.extractLsb' 0 32
  high : regPresent s u.opp n2 = true → ∀ k, readReg t u.opp n2 k = v.extractLsb' 32 32
  others : RegsBut s t [(u, n1), (u.opp, n2)]
  pc : t.th.pc = s.th.pc
  flags : t.th.flags = s.th.flags
  rest : OnlyRegs s t
  bytes : SameBytes s t

/-! ## Memory accesses -/

/-- Between the accesses of this instruction nothing happens, and no access of the one before it is still to come. -/
def Quiet (s : State) : Prop := s.mid = [] ∧ s.th.todo = []

/-- `s` after `k` more occurrences of unspecified values in one instruction (00_scope.md R27). -/
def later (s : State) (k : Nat) : State := { s with tick := s.tick + k }

/-- The access is aligned and reaches memory or a device, or else its failure is deferred (20_memory.md R103,
60_exceptions.md R580). -/
def Accessible (s : State) (slot : Nat) (a : Word) (sz : Size) : Prop :=
  Quiet s ∧ aligned a sz = true ∧ (s.target slot a ≠ none ∨ s.cfg.memErrorMode = .deferred)

/-- The access finds no translation or an unmapped region, and its failure is synchronous. -/
def Faults (s : State) (slot : Nat) (a : Word) (sz : Size) : Prop :=
  Quiet s ∧ aligned a sz = true ∧ s.target slot a = none ∧ s.cfg.memErrorMode = .sync

/-- The access is misaligned (20_memory.md R107). -/
def Misaligned (s : State) (a : Word) (sz : Size) : Prop := Quiet s ∧ aligned a sz = false

/-- The instruction raises MemoryFault for its access, which only synchronous failures do (60_exceptions.md R580). -/
def RaisesFault (i : Instr) (s : State) (a : Word) (k : AccessKind) : Prop :=
  s.cfg.memErrorMode = .sync ∧ exec i s = .next (raise (.memoryFault a k) s)

/-- The 32 bits at `pa` as data accesses see them, the lowest address least significant (20_memory.md R105). -/
def ramWord (s : State) (pa : Word) : Word :=
  s.dataByte (pa + 3#32) ++ s.dataByte (pa + 2#32) ++ s.dataByte (pa + 1#32) ++ s.dataByte pa

/-- The value of an access of a size at `pa`, zero-extended (20_memory.md R102, R105, R106). -/
def ramValue (s : State) (pa : Word) : Size → DWord
  | .b => (s.dataByte pa).setWidth 64
  | .w => (s.dataByte (pa + 1#32) ++ s.dataByte pa).setWidth 64
  | .d => (ramWord s pa).setWidth 64
  | .l => ramWord s (pa + 4#32) ++ ramWord s pa

/-- `v = MemRead(a, sz)` leads from `s` to `t` (20_memory.md R103, R107, R140, 60_exceptions.md R580). -/
inductive Reads (s : State) (slot : Nat) (a : Word) : Size → DWord → State → Prop
  /-- From RAM: nothing changes. -/
  | ram {pa : Word} {sz : Size} : aligned a sz = true → s.target slot a = some (.ram pa) →
      Reads s slot a sz (ramValue s pa sz) s
  /-- From RAM, misaligned: some value. -/
  | stray {pa : Word} {sz : Size} {v : DWord} : aligned a sz = false → s.target slot a = some (.ram pa) →
      Size.trunc sz v = v → Reads s slot a sz v s
  /-- From a device: one event, with the value it delivered. -/
  | device {d : Nat} {pa : Word} {sz : Size} {v : DWord} : s.target slot a = some (.device d pa) →
      (sz ≠ .l ∨ aligned a sz = false) → Size.trunc sz v = v →
      Reads s slot a sz v (s.emit (.devRead s.th.tid d pa sz v))
  /-- 64 bits from a device: two events, the lower address first. -/
  | deviceL {d : Nat} {pa : Word} {lo hi : DWord} : aligned a .l = true → s.target slot a = some (.device d pa) →
      Size.trunc .d lo = lo →
      Size.trunc .d hi = hi → Reads s slot a .l (hi.setWidth 32 ++ lo.setWidth 32)
        ((s.emit (.devRead s.th.tid d pa .d lo)).emit (.devRead s.th.tid d (pa + 4#32) .d hi))
  /-- A deferred failure: some value, and a report. -/
  | failed {sz : Size} {v : DWord} : (s.target slot a = none ∨ aligned a sz = false) →
      s.cfg.memErrorMode = .deferred → Size.trunc sz v = v → Reads s slot a sz v s.reportFailure

/-- The bytes of `v` stand at `pa` in `t`, for this thread's data accesses too, and every other byte is that of `s`. -/
structure StoredBytes (s t : State) (pa : Word) (sz : Size) (v : DWord) : Prop where
  stored : ∀ k < sz.bytes, t.mem.get (pa + BitVec.ofNat 32 k).toNat = v.extractLsb' (8 * k) 8
  seen : ∀ k < sz.bytes, t.dataByte (pa + BitVec.ofNat 32 k) = v.extractLsb' (8 * k) 8
  kept : ∀ a, (∀ k < sz.bytes, a ≠ (pa + BitVec.ofNat 32 k).toNat) → t.mem.get a = s.mem.get a

/-- One of `n` bytes from `pa` is a byte that the thread has linked (20_memory.md R130). -/
def touches (o : Thread) (pa : Word) (n : Nat) : Bool :=
  match o.linkAddr with
  | none => false
  | some l => (List.range n).any fun k =>
      (List.range l.size.bytes).any fun j => pa + BitVec.ofNat 32 k == l.phys + BitVec.ofNat 32 j

/-- The monitor of a thread after another agent's write of `n` bytes from `pa`: a linked byte was written. -/
def monitored (pa : Word) (n : Nat) (o : Thread) : Thread := { o with linkHit := o.linkHit || touches o pa n }

/-- Nothing has changed but memory, the old bytes still visible, the thread's record of its deferred state before its
latest store, and the monitors of the other threads, which have seen a write of `n` bytes from `pa`. -/
def StoreOnly (s t : State) (pa : Word) (n : Nat) : Prop :=
  t = { s with
    th := { s.th with txdefrPrev0 := s.th.txdefr0, txdefrPrev1 := s.th.txdefr1 }
    mem := t.mem, icOld := t.icOld, dcOld := t.dcOld, others := s.others.map (monitored pa n) }

/-- The aligned cell, the first of the two that a misaligned access at `a`, which lies at `pa`, touches
(20_memory.md R107). -/
def cellOf (pa a : Word) (sz : Size) : Word := pa - BitVec.ofNat 32 (a.toNat % sz.bytes)

/-- A write to a device (20_memory.md R140), which the monitors see as one of `n` bytes from `first`. -/
def toldDevice (s : State) (d : Nat) (pa : Word) (sz : Size) (v : DWord) (first : Word) (n : Nat) : State :=
  { s with others := s.others.map (monitored first n), emitted := .devWrite s.th.tid d pa sz v :: s.emitted }

/-- `MemWrite(a, sz, v)` leads from `s` to `t` (20_memory.md R104, R107, R140, 60_exceptions.md R580). -/
inductive Writes (s : State) (slot : Nat) (a : Word) (v : DWord) : Size → State → Prop
  /-- To RAM. -/
  | ram {pa : Word} {sz : Size} {t : State} : aligned a sz = true → s.target slot a = some (.ram pa) →
      StoredBytes s t pa sz v → StoreOnly s t pa sz.bytes → Writes s slot a v sz t
  /-- To RAM, misaligned: the bytes of the two cells may be anything. -/
  | stray {pa : Word} {sz : Size} {t : State} : aligned a sz = false → s.target slot a = some (.ram pa) →
      (∀ b, (∀ k < 2 * sz.bytes, b ≠ (cellOf pa a sz + BitVec.ofNat 32 k).toNat) → t.mem.get b = s.mem.get b) →
      StoreOnly s t (cellOf pa a sz) (2 * sz.bytes) → Writes s slot a v sz t
  /-- To a device: one event. -/
  | device {d : Nat} {pa : Word} {sz : Size} : aligned a sz = true → s.target slot a = some (.device d pa) → sz ≠ .l →
      Writes s slot a v sz (toldDevice s.noteStore d pa sz (Size.trunc sz v) pa sz.bytes)
  /-- To a device, misaligned: one event with some value. -/
  | strayDevice {d : Nat} {pa : Word} {sz : Size} {w : DWord} : aligned a sz = false →
      s.target slot a = some (.device d pa) →
      Writes s slot a v sz (toldDevice s.noteStore d pa sz w (cellOf pa a sz) (2 * sz.bytes))
  /-- 64 bits to a device: two events, the lower address first. -/
  | deviceL {d : Nat} {pa : Word} : aligned a .l = true → s.target slot a = some (.device d pa) →
      Writes s slot a v .l (toldDevice (toldDevice s.noteStore d pa .d (Size.trunc .d v) pa 4) d (pa + 4#32) .d
        ((v.extractLsb' 32 32).setWidth 64) (pa + 4#32) 4)
  /-- A deferred failure: nothing is written, and a report. -/
  | failed {sz : Size} : (s.target slot a = none ∨ aligned a sz = false) → s.cfg.memErrorMode = .deferred →
      Writes s slot a v sz s.noteStore.reportFailure

/-! ## Writes of any unit: `write(U, n, v)` of 40_core_gp_a.md R261 -/

/-- A control register (10_state.md R64, R65, R68): a write of TXSTATUS may leave any flags. -/
structure CtWrite (s t : State) (n : BitVec 5) (v : Word) : Prop where
  cells : ∀ r, t.ctCell r = if CtReg.ofNum n = some r then v else s.ctCell r
  level : t.th.istat = if n = 2#5 then v.getLsbD s.cfg.istatBit.toNat else s.th.istat
  flags : n ≠ 2#5 → t.th.flags = s.th.flags
  defr0 : t.th.txdefr0 = if n = 20#5 ∧ s.th.istat = false then v else s.th.txdefr0
  defr1 : t.th.txdefr1 = if n = 20#5 ∧ s.th.istat = true then v else s.th.txdefr1
  told : t.emitted = if CtReg.ofNum n = none ∧ n ≠ 2#5 ∧ n ≠ 20#5 then s.emitted
    else .ctWrite s.th.tid n v :: s.emitted
  rest : t = { s with
    th := { s.th with
      ct := t.th.ct, istat := t.th.istat, flags := t.th.flags, txdefr0 := t.th.txdefr0, txdefr1 := t.th.txdefr1 }
    emitted := t.emitted }

/-- A trigger register (60_exceptions.md R588): a write of a status or poll register clears some of the written bits. -/
structure TrWrite (s t : State) (n : BitVec 5) (v : Word) : Prop where
  mask : t.th.txmask = if n = 1#5 then v else s.th.txmask
  maski : t.th.txmaski = if n = 3#5 then v else s.th.txmaski
  trig0 : ∃ m : BitVec 16, t.th.trig0 = s.th.trig0 &&& ~~~(if n = 0#5 ∨ n = 4#5 then v.setWidth 16 &&& m else 0#16)
  trig1 : ∃ m : BitVec 16, t.th.trig1 = s.th.trig1 &&& ~~~(if n = 2#5 ∨ n = 6#5 then v.setWidth 16 &&& m else 0#16)
  rest : t = { s with th := { s.th with
    txmask := t.th.txmask, txmaski := t.th.txmaski, trig0 := t.th.trig0, trig1 := t.th.trig1 } }

/-- A trace register (10_state.md R53). -/
structure TtWrite (s t : State) (n : BitVec 5) (v : Word) : Prop where
  cells : ∀ r, t.ttCell r = if TtReg.ofNum n = some r then v else s.ttCell r
  log : t.th.ttrec = if n = 3#5 then s.th.ttrec ++ [{ width := 32, value := v.setWidth 64 }] else s.th.ttrec
  rest : t = { s with th := { s.th with tt := t.th.tt, ttrec := t.th.ttrec } }

/-- PC and PCX (10_state.md R47, R49). -/
def PcWrite (s t : State) (n : BitVec 5) (v : Word) : Prop :=
  t = { s with th := { s.th with
    pc := if n = 0#5 then v else s.th.pc, pcx := if n = 1#5 then v else s.th.pcx } }

/-- `RAIssue(port, a, sz)` leads from `s` to `t` (10_state.md R75): the data is read now and the entry appended. -/
def Issued (s t : State) (port : BitVec 5) (a : Word) (sz : Size) : Prop :=
  if isReadPort port = true then
    ∃ d s1, Reads s 3 a sz d s1 ∧
      t = { s1 with th := { s1.th with
        rdq := s1.th.rdq ++ if portReturns s.cfg port = true then [portEntry port d sz] else [] } }
  else t = s

/-- The pipeline has room, and the read can be performed. -/
def Issuable (s : State) (port : BitVec 5) (a : Word) (sz : Size) : Prop :=
  isReadPort port = true → s.th.rdq.length < Params.rdFifoDepth s.cfg ∧ Accessible s 3 a sz

/-- `write(U, n, v)` leads from `s` to `t`. -/
def UnitWrite (s t : State) (u : BitVec 4) (n : BitVec 5) (v : Word) : Prop :=
  match u.toNat with
  | 0 => CtWrite s t n v
  | 1 => GprWrite s t .d0 n v
  | 2 => GprWrite s t .d1 n v
  | 3 => GprWrite s t .a0 n v
  | 4 => GprWrite s t .a1 n v
  | 5 => PcWrite s t n v
  | 6 => Issued s t n v (unsizedBytes s.cfg n)
  | 7 => TrWrite s t n v
  | 8 => TtWrite s t n v
  | _ => t = s

/-- The register is left with an unspecified value, by a write that has the effects of any write of it (entry 67). -/
def UnitFree (s t : State) (u : BitVec 4) (n : BitVec 5) : Prop := ∃ v, UnitWrite s t u n v

/-- `write(U, n, v)` neither waits nor faults. -/
def CanWrite (s : State) (u : BitVec 4) (n : BitVec 5) (v : Word) : Prop :=
  u = 6#4 → Issuable s n v (unsizedBytes s.cfg n)

/-- `write(U, n, v)` issues an address to a full read pipeline (10_state.md R76). -/
def WriteWaits (s : State) (u : BitVec 4) (n : BitVec 5) : Prop :=
  u = 6#4 ∧ isReadPort n = true ∧ Params.rdFifoDepth s.cfg ≤ s.th.rdq.length

/-- `write(U, n, v)` issues an address that has no translation or lies in an unmapped region, with synchronous
failures (60_exceptions.md R580). -/
def WriteFaults (s : State) (u : BitVec 4) (n : BitVec 5) (v : Word) : Prop :=
  u = 6#4 ∧ isReadPort n = true ∧ ¬ WriteWaits s u n ∧ Faults s 3 v (unsizedBytes s.cfg n)

/-- `write(U, n, v)` issues a misaligned address to a pipeline with room. -/
def WriteStrays (s : State) (u : BitVec 4) (n : BitVec 5) (v : Word) : Prop :=
  u = 6#4 ∧ isReadPort n = true ∧ ¬ WriteWaits s u n ∧ Misaligned s v (unsizedBytes s.cfg n)

/-- The last act of the instruction `i` in `s0` is `write(U, n, v)` from `s`: it completes, waits or faults. -/
def EndsWith (i : Instr) (s0 s : State) (u : BitVec 4) (n : BitVec 5) (v : Word) : Prop :=
  (CanWrite s u n v → ∃ t, exec i s0 = .next t ∧ UnitWrite s t u n v ∧ SameBytes s0 t) ∧
  (WriteWaits s u n → exec i s0 = .next (blockOn .pipelineFull s0)) ∧
  (WriteFaults s u n v → exec i s0 = .next (raise (.memoryFault v .read) s0)) ∧
  (WriteStrays s u n v → RaisesFault i s0 v .read ∨ ∃ t, exec i s0 = .next t ∧ UnitWrite s t u n v ∧ SameBytes s0 t)

/-! ## Reads of any unit: `read(U, n)` of 40_core_gp_a.md R261 -/

/-- A control register (10_state.md R64, R65, R68): a timer may read as anything (60_exceptions.md R602), and so may a
catch register after an exception (R575). -/
def CtRead (s : State) (n : BitVec 5) (v : Word) : Prop :=
  (∀ r, CtReg.ofNum n = some r → r.isTimer = false → (r.isCatch = true → s.th.lastException = none) → v = s.ctCell r) ∧
  (n = 2#5 → v.getLsbD s.cfg.istatBit.toNat = s.th.istat) ∧
  (n = 20#5 → v = if s.th.istat then s.th.txdefr1 else s.th.txdefr0)

/-- Trigger `b` of a level is active in its mask (60_exceptions.md R588, R591). -/
def Triggered (s : State) (level : Bool) (b : Nat) : Prop :=
  (if level then s.th.txmaski else s.th.txmask).getLsbD b = true ∧
  (if b = s.cfg.kickBit.toNat then s.th.kickCount ≠ 0
    else (if level then s.th.trig1 else s.th.trig0).getLsbD b = true)

/-- The triggers of a level after a status read that returned `v`: those it returned are gone, but for the kick trigger
(60_exceptions.md R588). -/
def TriggersLeft (s : State) (old new : BitVec 16) (v : Word) : Prop :=
  ∀ b < 16, new.getLsbD b = (old.getLsbD b && !(v.getLsbD b && b != s.cfg.kickBit.toNat))

/-- A read of TXSTAT (level false) or TXSTATI (level true), 60_exceptions.md R588, R591. -/
structure StatusRead (s t : State) (level : Bool) (v : Word) : Prop where
  value : ∀ b < 16, v.getLsbD b = true ↔ Triggered s level b
  taken : TriggersLeft s (if level then s.th.trig1 else s.th.trig0) (if level then t.th.trig1 else t.th.trig0) v
  other : (if level then t.th.trig0 else t.th.trig1) = (if level then s.th.trig0 else s.th.trig1)
  kicks : t.th.kickCount =
    if v.getLsbD s.cfg.kickBit.toNat = true then s.th.kickCount - 1 else s.th.kickCount
  rest : t = { s with th := { s.th with
    trig0 := t.th.trig0, trig1 := t.th.trig1, kickCount := t.th.kickCount } }

/-- A trigger register (60_exceptions.md R588). -/
def TrRead (s t : State) (n : BitVec 5) (v : Word) : Prop :=
  match n.toNat with
  | 0 => StatusRead s t false v
  | 2 => StatusRead s t true v
  | 1 => t = s ∧ v = s.th.txmask
  | 3 => t = s ∧ v = s.th.txmaski
  | 4 => t = s ∧ ∀ b < 32, v.getLsbD b = true ↔ b < 16 ∧ Triggered s false b
  | 6 => t = s ∧ ∀ b < 32, v.getLsbD b = true ↔ b < 16 ∧ Triggered s true b
  | _ => t = s

/-- A coprocessor read of a size delivers `d` (10_state.md R80, 46_long_gp_a.md R464); a port that is not implemented
emits nothing (entry 23). -/
def CoproRead (s t : State) (port : BitVec 3) (sz : Size) (d : DWord) : Prop :=
  Size.trunc sz d = d ∧
  t = if s.cfg.coproPorts.getLsbD port.toNat = true then { s with emitted := .cpRead s.th.tid port sz d :: s.emitted }
    else s

/-- `RDPop()` (10_state.md R77). -/
def Popped (s t : State) (e : DWord) : Prop :=
  s.th.rdq = e :: t.th.rdq ∧ t = { s with th := { s.th with rdq := t.th.rdq } }

/-- The ports unit as a source: CP.0 to CP.7 and RD (30_encoding.md R174). -/
def PortRead (s t : State) (n : BitVec 5) (v : Word) : Prop :=
  if n.toNat < 8 then ∃ d, CoproRead s t (n.setWidth 3) .d d ∧ v = d.extractLsb' 0 32
  else if n = 16#5 then ∃ e, Popped s t e ∧ v = e.extractLsb' 0 32
  else t = s

/-- `v = read(U, n)` leads from `s` to `t`; what is not said of `v` is unspecified. -/
def UnitRead (s t : State) (u : BitVec 4) (n : BitVec 5) (k : Nat) (v : Word) : Prop :=
  match u.toNat with
  | 0 => t = s ∧ CtRead s n v
  | 1 => t = s ∧ v = readReg s .d0 n k
  | 2 => t = s ∧ v = readReg s .d1 n k
  | 3 => t = s ∧ v = readReg s .a0 n k
  | 4 => t = s ∧ v = readReg s .a1 n k
  | 5 => t = s ∧ (n = 0#5 → v = s.th.pc + if s.cfg.pcReadsNext then 4#32 else 0#32) ∧ (n = 1#5 → v = s.th.pcx)
  | 6 => PortRead s t n v
  | 7 => TrRead s t n v
  | 8 => t = s ∧ ∀ r, TtReg.ofNum n = some r → v = s.ttCell r
  | _ => t = s

/-- `read(U, n)` waits for a trigger (10_state.md R52). -/
def ReadWaits (s : State) (u : BitVec 4) (n : BitVec 5) : Prop :=
  u = 7#4 ∧ ((n = 0#5 ∧ ∀ b < 16, ¬ Triggered s false b) ∨ (n = 2#5 ∧ ∀ b < 16, ¬ Triggered s true b))

/-- `read(U, n)` consumes RD of an empty pipeline (10_state.md R78). -/
def ReadUnderflows (s : State) (u : BitVec 4) (n : BitVec 5) : Prop := u = 6#4 ∧ n = 16#5 ∧ s.th.rdq = []

/-- `read(U, n)` neither waits nor underflows. -/
def CanRead (s : State) (u : BitVec 4) (n : BitVec 5) : Prop := ¬ ReadWaits s u n ∧ ¬ ReadUnderflows s u n

/-! ## The condition flags -/

/-- 10_state.md R58. -/
structure AddFlags (a b : Word) (f : Flags) : Prop where
  z : f.z = true ↔ a + b = 0#32
  n : f.n = true ↔ (a + b).toInt < 0
  c : f.c = true ↔ 2 ^ 32 ≤ a.toNat + b.toNat
  v : f.v = true ↔ a.toInt + b.toInt < -2 ^ 31 ∨ 2 ^ 31 - 1 < a.toInt + b.toInt

/-- 10_state.md R59. -/
structure SubFlags (a b : Word) (f : Flags) : Prop where
  z : f.z = true ↔ a = b
  n : f.n = true ↔ (a - b).toInt < 0
  c : f.c = true ↔ a.toNat < b.toNat
  v : f.v = true ↔ a.toInt - b.toInt < -2 ^ 31 ∨ 2 ^ 31 - 1 < a.toInt - b.toInt

/-- 10_state.md R60: nothing is said of C and V. -/
structure LogicFlags (r : Word) (f : Flags) : Prop where
  z : f.z = true ↔ r = 0#32
  n : f.n = true ↔ r.toInt < 0

/-- The result of an operation, on the numbers that the operands stand for. -/
def opValue (op : AluOp) (a b : Word) : Word :=
  match op with
  | .add => BitVec.ofNat 32 (a.toNat + b.toNat)
  | .sub => BitVec.ofInt 32 (a.toInt - b.toInt)
  | .and => a &&& b
  | .or => a ||| b
  | .xor => a ^^^ b
  | .mov => b
  | .neg => BitVec.ofInt 32 (-b.toInt)

/-- The flags of an operation (10_state.md R58 to R60). -/
def OpFlags (op : AluOp) (a b : Word) (f : Flags) : Prop :=
  match op with
  | .add => AddFlags a b f
  | .sub => SubFlags a b f
  | .neg => SubFlags 0#32 b f
  | .and => LogicFlags (a &&& b) f
  | .or => LogicFlags (a ||| b) f
  | .xor => LogicFlags (a ^^^ b) f
  | .mov => LogicFlags b f

/-- The shift functions (45_shift.md R441). -/
def shiftValue (op : ShiftOp) (a : Word) (n : Nat) : Word :=
  match op with
  | .lsl => BitVec.ofNat 32 (a.toNat * 2 ^ n)
  | .asl => BitVec.ofNat 32 (a.toNat * 2 ^ n)
  | .lsr => BitVec.ofNat 32 (a.toNat / 2 ^ n)
  | .asr => BitVec.ofInt 32 (a.toInt / 2 ^ n)

/-- The last bit shifted out (10_state.md R61). -/
def lastOut (op : ShiftOp) (a : Word) (n : Nat) : Bool :=
  match op with
  | .lsl => a.getLsbD (32 - n)
  | .asl => a.getLsbD (32 - n)
  | .lsr => a.getLsbD (n - 1)
  | .asr => a.getLsbD (n - 1)

/-- 10_state.md R61: nothing is said of V. -/
structure ShiftFlags (op : ShiftOp) (a : Word) (count : Nat) (f : Flags) : Prop where
  z : f.z = true ↔ shiftValue op a count = 0#32
  n : f.n = true ↔ (shiftValue op a count).toInt < 0
  c : f.c = if count = 0 then false else lastOut op a count

/-! ## Operands and operations -/

/-- An operand. -/
inductive Opd where
  | zero
  | reg (n : BitVec 5)
  | pc
  | imm (w : Word)
  | rep (sel : BitVec 2) (n : BitVec 3)

/-- The source unit of operand 2 replace (30_encoding.md R178), RD apart. -/
inductive O2RSource : BUnit → BitVec 2 → BUnit → Prop
  | d0_0 : O2RSource .d0 0#2 .a1
  | d0_1 : O2RSource .d0 1#2 .d1
  | d0_3 : O2RSource .d0 3#2 .a0
  | d1_0 : O2RSource .d1 0#2 .a1
  | d1_1 : O2RSource .d1 1#2 .d0
  | d1_3 : O2RSource .d1 3#2 .a0
  | a0_0 : O2RSource .a0 0#2 .a1
  | a0_1 : O2RSource .a0 1#2 .d0
  | a0_3 : O2RSource .a0 3#2 .d1
  | a1_0 : O2RSource .a1 0#2 .d1
  | a1_1 : O2RSource .a1 1#2 .d0
  | a1_3 : O2RSource .a1 3#2 .a0

/-- The value of the first operand, for the unit that executes. -/
def firstValue (s : State) (u : BUnit) : Opd → Word
  | .zero => 0#32
  | .reg n => readReg s u n 0
  | .pc => s.th.pc
  | .imm w => w
  | .rep _ _ => 0#32

/-- The second operand has the value `b`, and reading it leads from `s` to `t` (30_encoding.md R176 to R179). -/
inductive Second (s : State) (u : BUnit) : Opd → Word → State → Prop
  | zero : Second s u .zero 0#32 s
  | reg (n : BitVec 5) : Second s u (.reg n) (readReg s u n 1) s
  | pc : Second s u .pc s.th.pc s
  | imm (w : Word) : Second s u (.imm w) w s
  | unit (sel : BitVec 2) (n : BitVec 3) (v : BUnit) : O2RSource u sel v →
      Second s u (.rep sel n) (readReg s v (n.setWidth 5) 1) s
  | rd (n : BitVec 3) (e : DWord) (t : State) : Popped s t e → Second s u (.rep 2#2 n) (e.extractLsb' 0 32) t

/-- An address unit source (42_extended_gp_a.md R320 (h)). -/
def asrcOpd (pcBit : Bool) (n : BitVec 4) : Opd := if pcBit then .pc else .reg (n.setWidth 5)

/-- What an arithmetic instruction says: its unit, its operands, its result, whether it sets flags and which, its
destination and its condition. -/
structure DataOp where
  unit : BUnit
  first : Opd
  second : Opd
  result : Word → Word → Word
  sets : Bool
  flags : Word → Word → Flags → Prop
  ud : BitVec 4
  rd : BitVec 5
  cc : BitVec 4

/-- What every arithmetic instruction does. An operand that is RD is consumed whatever the condition, and underflows when
the pipeline is empty; with a false condition nothing else happens; else the flags are set if asked, the result is
written, and the pc advances. -/
def DataEffect (i : Instr) (s : State) (p : DataOp) : Prop :=
  (∀ n, p.second = .rep 2#2 n → s.th.rdq = [] → exec i s = .next (raise .readPipelineUnderflow s)) ∧
  ∀ b s1, Second s p.unit p.second b s1 →
    (cond s.th.flags p.cc = false → exec i s = .next (atNext s1)) ∧
    (cond s.th.flags p.cc = true → ∃ f,
      (p.sets = true → p.flags (firstValue s p.unit p.first) b f) ∧ (p.sets = false → f = s.th.flags) ∧
      EndsWith i s { s1 with th := { s1.th with pc := s.th.pc + 4#32, flags := f } } p.ud p.rd
        (p.result (firstValue s p.unit p.first) b))

/-- A multiply into a unit that its field does not name: the write of the destination is unspecified, and one of the
ports unit issues some address or none. -/
def FreeEffect (i : Instr) (s : State) (p : DataOp) : Prop :=
  (∀ n, p.second = .rep 2#2 n → s.th.rdq = [] → exec i s = .next (raise .readPipelineUnderflow s)) ∧
  ∀ b s1, Second s p.unit p.second b s1 →
    (p.ud ≠ 6#4 → ∃ t, exec i s = .next t ∧ UnitFree (atNext s1) t p.ud p.rd ∧ SameBytes s t) ∧
    (p.ud = 6#4 → exec i s = .next (atNext s1) ∨ ∃ a, EndsWith i s (atNext s1) p.ud p.rd a)

/-- An operation of a data unit with a destination of its own. -/
def inUnit (op : AluOp) (sf du : Bool) (rd : BitVec 5) (cc : BitVec 4) (a b : Opd) : DataOp where
  unit := dataUnit du
  first := a
  second := b
  result := opValue op
  sets := sf
  flags := OpFlags op
  ud := (dataUnit du).code
  rd := rd
  cc := cc

/-- An operation of a data unit with a destination in any unit. -/
def toUnit (op : AluOp) (sf du : Bool) (ud : BitVec 4) (rd : BitVec 5) (cc : BitVec 4) (a b : Opd) : DataOp :=
  { inUnit op sf du rd cc a b with ud := ud }

/-- An operation of an address unit: it sets no flags (10_state.md R57). -/
def addrOp (op : AluOp) (au : Bool) (ud : BitVec 4) (rd : BitVec 5) (cc : BitVec 4) (a b : Opd) : DataOp where
  unit := addrUnit au
  first := a
  second := b
  result := opValue op
  sets := false
  flags := fun _ _ _ => False
  ud := ud
  rd := rd
  cc := cc

/-- A shift: the count is the low five bits of the second operand (45_shift.md R441). -/
def shiftOp (op : ShiftOp) (sf du : Bool) (ud : BitVec 4) (rd : BitVec 5) (cc : BitVec 4) (rs1 : BitVec 5) (b : Opd) :
    DataOp where
  unit := dataUnit du
  first := .reg rs1
  second := b
  result := fun a b => shiftValue op a (b.toNat % 32)
  sets := sf
  flags := fun a b f => ShiftFlags op a (b.toNat % 32) f
  ud := ud
  rd := rd
  cc := cc

/-- The products (41_core_gp_b.md R281). -/
def mulValue (op : MulOp) (a b : Word) : Word :=
  match op with
  | .w => BitVec.ofNat 32 (a.toNat % 2 ^ 16 * (b.toNat % 2 ^ 16))
  | .d => BitVec.ofNat 32 (a.toNat * b.toNat)

/-- A multiply: it sets no flags. -/
def mulOp (op : MulOp) (du : Bool) (ud : BitVec 4) (rd : BitVec 5) (cc : BitVec 4) (a b : Opd) : DataOp where
  unit := dataUnit du
  first := a
  second := b
  result := mulValue op
  sets := false
  flags := fun _ _ _ => False
  ud := ud
  rd := rd
  cc := cc

/-- A data unit extended instruction: the flags are those of a comparison (44_data_unit_extended.md R420). -/
def extOp (du : Bool) (rd : BitVec 5) (result : Word → Word → Word) (flags : Word → Word → Flags → Prop) (a b : Opd) :
    DataOp where
  unit := dataUnit du
  first := a
  second := b
  result := result
  sets := true
  flags := flags
  ud := (dataUnit du).code
  rd := rd
  cc := 0#4

/-- A sign extension or byte exchange of one register. -/
def shuffleOp (sf du : Bool) (rd rs : BitVec 5) (f : Word → Word) : DataOp where
  unit := dataUnit du
  first := .reg rs
  second := .zero
  result := fun a _ => f a
  sets := sf
  flags := fun a _ g => LogicFlags (f a) g
  ud := (dataUnit du).code
  rd := rd
  cc := 0#4

/-! ## Address expressions -/

/-- `addr` of an address expression (30_encoding.md R194). -/
def accessAddr (base offset : Word) (ua pp : Bool) : Word := if ua && pp then base else base + offset

/-- The pc advances, and with `ua` the base register gets `x`. -/
def BaseStep (s t : State) (ua : Bool) (u : BUnit) (rb : BitVec 5) (x : Word) : Prop :=
  if ua then GprWrite (atNext s) t u rb x else t = atNext s

/-- Memory operand of an instruction: base unit, base register, offset, UA, PP. -/
structure AddrForm where
  unit : BUnit
  rb : BitVec 5
  offset : Word
  ua : Bool
  pp : Bool
  slot : Nat := 2

/-- The base register's value. -/
def AddrForm.base (e : AddrForm) (s : State) : Word := readReg s e.unit e.rb e.slot

/-- The address of the access. -/
def AddrForm.addr (e : AddrForm) (s : State) : Word := accessAddr (e.base s) e.offset e.ua e.pp

/-- `[B+R]`, `[B++R]`, `[B+R++]` (20_memory.md R111, R112). -/
def regOff (s : State) (bu : BitVec 2) (rb ro : BitVec 5) (ua pp : Bool) : AddrForm :=
  { unit := baseUnit bu, rb := rb, offset := readReg s (baseUnit bu) ro 3, ua := ua, pp := pp }

/-- The source address of XFR, whose registers are operands 4 and 5. -/
def sourceOff (s : State) (bu : BitVec 2) (rb ro : BitVec 5) (ua pp : Bool) : AddrForm :=
  { unit := baseUnit bu, rb := rb, offset := readReg s (baseUnit bu) ro 5, ua := ua, pp := pp, slot := 4 }

/-- `[B+#N]`, `[B++#N]`, `[B+#N++]`, with the field scaled by the size (20_memory.md R114, 30_encoding.md R190). -/
def immOff {n : Nat} (u : BUnit) (rb : BitVec 5) (k : BitVec n) (sz : Size) (ua pp : Bool) : AddrForm :=
  { unit := u, rb := rb, offset := BitVec.ofInt 32 (k.toInt * sz.bytes), ua := ua, pp := pp }

/-- `[BBa.0|1+#S12]` (30_encoding.md R198). -/
def s12Off (bu : BitVec 2) (rb : BitVec 1) (k : BitVec 12) (sz : Size) : AddrForm :=
  immOff (baseUnit bu) (rb.setWidth 5) k sz false false

/-- A small access of a special unit, which the source excludes (42_extended_gp_a.md R341). -/
def SmallSpecial (sz : Size) (u : BitVec 4) : Prop := sz ≠ .d ∧ (u = 0#4 ∨ u = 5#4 ∨ u = 7#4 ∨ u = 8#4)

/-! ## The instructions of a shape -/

/-- `DUBex`: the four bytes in the opposite order (46_long_gp_a.md R451). -/
def bytesReversed (x : Word) : Word :=
  (x <<< 24) ||| ((x &&& 0xFF00#32) <<< 8) ||| ((x >>> 8) &&& 0xFF00#32) ||| (x >>> 24)

/-- What a comparison says. -/
structure CmpOp where
  tst : Bool
  unit : BUnit
  first : Opd
  second : Opd
  cc : BitVec 4

/-- A comparison of a data unit. -/
def cmpOp (tst du : Bool) (a b : Opd) (cc : BitVec 4) : CmpOp := ⟨tst, dataUnit du, a, b, cc⟩

/-- What every comparison does; an operand that is RD is consumed whatever the condition. -/
def CmpEffect (i : Instr) (s : State) (p : CmpOp) : Prop :=
  (∀ n, p.second = .rep 2#2 n → s.th.rdq = [] → exec i s = .next (raise .readPipelineUnderflow s)) ∧
  ∀ b s1, Second s p.unit p.second b s1 → ∃ f,
    exec i s = .next { atNext s1 with th := { (atNext s1).th with flags := f } } ∧
    (cond s.th.flags p.cc = false → f = s.th.flags) ∧
    (cond s.th.flags p.cc = true →
      if p.tst then LogicFlags (firstValue s p.unit p.first &&& b) f else SubFlags (firstValue s p.unit p.first) b f)

/-- What a load, a store or an issue says: size, address, unit code and register of the data. -/
structure AccessOp where
  size : Size
  mem : AddrForm
  unit : BitVec 4
  reg : BitVec 5

/-- What a conditional store says: size, base, unit code and register of the data, condition. -/
structure CcStoreOp where
  size : Size
  baseUnit : BUnit
  rb : BitVec 5
  us : BitVec 4
  rs : BitVec 5
  cc : BitVec 4

/-- What a transfer of several registers says: pairs, first register, mask, unit of the list, base. -/
structure MultiOp where
  pair : Bool
  first : BitVec 5
  mask : BitVec 7
  unit : BUnit
  base : BUnit
  rb : BitVec 5

/-- The data unit instructions whose destination is in the unit that executes. -/
inductive DataForm (s : State) : Instr → DataOp → Prop
  | addRR : DataForm s (.addRR sf du rd rs1 rs2) (inUnit .add sf du rd 0#4 (.reg rs1) (.reg rs2))
  | addI16 : DataForm s (.addI16 sf du rd imm se h) (inUnit .add sf du rd 0#4 (.reg rd) (.imm (imm16 s imm se h)))
  | addCX8 : DataForm s (.addCX8 sf du rd rs imm cc) (inUnit .add sf du rd cc (.reg rs) (.imm (imm.setWidth 32)))
  | addRX : DataForm s (.addRX sf du rd rs1 osel oreg) (inUnit .add sf du rd 0#4 (.reg rs1) (.rep osel oreg))
  | subRR : DataForm s (.subRR sf du rd rs1 rs2) (inUnit .sub sf du rd 0#4 (.reg rs1) (.reg rs2))
  | subI16 : DataForm s (.subI16 sf du rd imm se h) (inUnit .sub sf du rd 0#4 (.reg rd) (.imm (imm16 s imm se h)))
  | subCX8 : DataForm s (.subCX8 sf du rd rs imm cc) (inUnit .sub sf du rd cc (.reg rs) (.imm (imm.setWidth 32)))
  | subRX : DataForm s (.subRX sf du rd rs1 osel oreg) (inUnit .sub sf du rd 0#4 (.reg rs1) (.rep osel oreg))
  | andRR : DataForm s (.andRR sf du rd rs1 rs2) (inUnit .and sf du rd 0#4 (.reg rs1) (.reg rs2))
  | andI16 : DataForm s (.andI16 sf du rd imm m se h) (inUnit .and sf du rd 0#4 (.reg rd) (.imm (immM s imm m se h)))
  | andCX8 : DataForm s (.andCX8 sf du rd rs imm cc) (inUnit .and sf du rd cc (.reg rs) (.imm (imm.setWidth 32)))
  | andRX : DataForm s (.andRX sf du rd rs1 osel oreg) (inUnit .and sf du rd 0#4 (.reg rs1) (.rep osel oreg))
  | orRR : DataForm s (.orRR sf du rd rs1 rs2) (inUnit .or sf du rd 0#4 (.reg rs1) (.reg rs2))
  | orI16 : DataForm s (.orI16 sf du rd imm m se h) (inUnit .or sf du rd 0#4 (.reg rd) (.imm (immM s imm m se h)))
  | orCX8 : DataForm s (.orCX8 sf du rd rs imm cc) (inUnit .or sf du rd cc (.reg rs) (.imm (imm.setWidth 32)))
  | orRX : DataForm s (.orRX sf du rd rs1 osel oreg) (inUnit .or sf du rd 0#4 (.reg rs1) (.rep osel oreg))
  | xorRR : DataForm s (.xorRR sf du rd rs1 rs2) (inUnit .xor sf du rd 0#4 (.reg rs1) (.reg rs2))
  | xorI16 : DataForm s (.xorI16 sf du rd imm m se h) (inUnit .xor sf du rd 0#4 (.reg rd) (.imm (immM s imm m se h)))
  | xorCX8 : DataForm s (.xorCX8 sf du rd rs imm cc) (inUnit .xor sf du rd cc (.reg rs) (.imm (imm.setWidth 32)))
  | xorRX : DataForm s (.xorRX sf du rd rs1 osel oreg) (inUnit .xor sf du rd 0#4 (.reg rs1) (.rep osel oreg))
  | movRR : DataForm s (.movRR sf du rd rs2) (inUnit .mov sf du rd 0#4 .zero (.reg rs2))
  | movI16 : DataForm s (.movI16 sf du rd imm se h) (inUnit .mov sf du rd 0#4 .zero (.imm (imm16 s imm se h)))
  | movRX : DataForm s (.movRX sf du rd osel oreg) (inUnit .mov sf du rd 0#4 .zero (.rep osel oreg))
  | negRR : DataForm s (.negRR sf du rd rs2) (inUnit .neg sf du rd 0#4 .zero (.reg rs2))
  | negI16 : DataForm s (.negI16 sf du rd imm se h) (inUnit .neg sf du rd 0#4 .zero (.imm (imm16 s imm se h)))
  | negRX : DataForm s (.negRX sf du rd osel oreg) (inUnit .neg sf du rd 0#4 .zero (.rep osel oreg))

/-- The data unit instructions whose destination is in any unit. -/
inductive DataUnitForm  : Instr → DataOp → Prop
  | addCR : DataUnitForm  (.addCR sf du rd rs1 rs2 ud cc) (toUnit .add sf du ud rd cc (.reg rs1) (.reg rs2))
  | addCX : DataUnitForm  (.addCX sf du rd rs1 osel oreg ud cc)
      (toUnit .add sf du ud rd cc (.reg rs1) (.rep osel oreg))
  | addUX8 : DataUnitForm  (.addUX8 sf du rd rs imm ud)
      (toUnit .add sf du ud rd 0#4 (.reg rs) (.imm (imm.setWidth 32)))
  | subCR : DataUnitForm  (.subCR sf du rd rs1 rs2 ud cc) (toUnit .sub sf du ud rd cc (.reg rs1) (.reg rs2))
  | subCX : DataUnitForm  (.subCX sf du rd rs1 osel oreg ud cc)
      (toUnit .sub sf du ud rd cc (.reg rs1) (.rep osel oreg))
  | subUX8 : DataUnitForm  (.subUX8 sf du rd rs imm ud)
      (toUnit .sub sf du ud rd 0#4 (.reg rs) (.imm (imm.setWidth 32)))
  | andCR : DataUnitForm  (.andCR sf du rd rs1 rs2 ud cc) (toUnit .and sf du ud rd cc (.reg rs1) (.reg rs2))
  | andCX : DataUnitForm  (.andCX sf du rd rs1 osel oreg ud cc)
      (toUnit .and sf du ud rd cc (.reg rs1) (.rep osel oreg))
  | andUX8 : DataUnitForm  (.andUX8 sf du rd rs imm ud)
      (toUnit .and sf du ud rd 0#4 (.reg rs) (.imm (imm.setWidth 32)))
  | orCR : DataUnitForm  (.orCR sf du rd rs1 rs2 ud cc) (toUnit .or sf du ud rd cc (.reg rs1) (.reg rs2))
  | orCX : DataUnitForm  (.orCX sf du rd rs1 osel oreg ud cc) (toUnit .or sf du ud rd cc (.reg rs1) (.rep osel oreg))
  | orUX8 : DataUnitForm  (.orUX8 sf du rd rs imm ud) (toUnit .or sf du ud rd 0#4 (.reg rs) (.imm (imm.setWidth 32)))
  | xorCR : DataUnitForm  (.xorCR sf du rd rs1 rs2 ud cc) (toUnit .xor sf du ud rd cc (.reg rs1) (.reg rs2))
  | xorCX : DataUnitForm  (.xorCX sf du rd rs1 osel oreg ud cc)
      (toUnit .xor sf du ud rd cc (.reg rs1) (.rep osel oreg))
  | xorUX8 : DataUnitForm  (.xorUX8 sf du rd rs imm ud)
      (toUnit .xor sf du ud rd 0#4 (.reg rs) (.imm (imm.setWidth 32)))

/-- The address unit instructions whose destination is in the unit that executes. -/
inductive AddrUnitOpForm (s : State) : Instr → DataOp → Prop
  | addARR : AddrUnitOpForm s (.addARR au rd pc1 rs1 pc2 rs2)
      (addrOp .add au (addrUnit au).code (rd.setWidth 5) 0#4 (asrcOpd pc1 rs1) (asrcOpd pc2 rs2))
  | addARX : AddrUnitOpForm s (.addARX au rd pc1 rs1 osel oreg)
      (addrOp .add au (addrUnit au).code (rd.setWidth 5) 0#4 (asrcOpd pc1 rs1) (.rep osel oreg))
  | addAI16 : AddrUnitOpForm s (.addAI16 au pcb rd imm se h)
      (addrOp .add au (addrUnit au).code (rd.setWidth 5) 0#4 (asrcOpd pcb rd) (.imm (imm16 s imm se h)))
  | addACX8 : AddrUnitOpForm s (.addACX8 au rd pc1 rs imm cc)
      (addrOp .add au (addrUnit au).code ((rd.setWidth 4).setWidth 5) cc (asrcOpd pc1 rs) (.imm (imm.setWidth 32)))
  | subARR : AddrUnitOpForm s (.subARR au rd pc1 rs1 pc2 rs2)
      (addrOp .sub au (addrUnit au).code (rd.setWidth 5) 0#4 (asrcOpd pc1 rs1) (asrcOpd pc2 rs2))
  | subARX : AddrUnitOpForm s (.subARX au rd pc1 rs1 osel oreg)
      (addrOp .sub au (addrUnit au).code (rd.setWidth 5) 0#4 (asrcOpd pc1 rs1) (.rep osel oreg))
  | subAI16 : AddrUnitOpForm s (.subAI16 au pcb rd imm se h)
      (addrOp .sub au (addrUnit au).code (rd.setWidth 5) 0#4 (asrcOpd pcb rd) (.imm (imm16 s imm se h)))
  | subACX8 : AddrUnitOpForm s (.subACX8 au rd pc1 rs imm cc)
      (addrOp .sub au (addrUnit au).code ((rd.setWidth 4).setWidth 5) cc (asrcOpd pc1 rs) (.imm (imm.setWidth 32)))
  | movARR : AddrUnitOpForm s (.movARR au rd pc2 rs2)
      (addrOp .mov au (addrUnit au).code (rd.setWidth 5) 0#4 .zero (asrcOpd pc2 rs2))
  | movARX : AddrUnitOpForm s (.movARX au rd osel oreg)
      (addrOp .mov au (addrUnit au).code (rd.setWidth 5) 0#4 .zero (.rep osel oreg))
  | movAI16 : AddrUnitOpForm s (.movAI16 au pcb rd imm se h)
      (addrOp .mov au (addrUnit au).code (rd.setWidth 5) 0#4 .zero (.imm (imm16 s imm se h)))
  | negARR : AddrUnitOpForm s (.negARR au rd pc2 rs2)
      (addrOp .neg au (addrUnit au).code (rd.setWidth 5) 0#4 .zero (asrcOpd pc2 rs2))
  | negARX : AddrUnitOpForm s (.negARX au rd osel oreg)
      (addrOp .neg au (addrUnit au).code (rd.setWidth 5) 0#4 .zero (.rep osel oreg))
  | negAI16 : AddrUnitOpForm s (.negAI16 au pcb rd imm se h)
      (addrOp .neg au (addrUnit au).code (rd.setWidth 5) 0#4 .zero (.imm (imm16 s imm se h)))

/-- The address unit instructions whose destination is in any unit. -/
inductive AddrToUnitForm  : Instr → DataOp → Prop
  | addACR : AddrToUnitForm  (.addACR au rd pc1 rs1 pc2 rs2 ud cc)
      (addrOp .add au ud rd cc (asrcOpd pc1 rs1) (asrcOpd pc2 rs2))
  | addACX : AddrToUnitForm  (.addACX au rd pc1 rs1 osel oreg ud cc)
      (addrOp .add au ud rd cc (asrcOpd pc1 rs1) (.rep osel oreg))
  | addAUX8 : AddrToUnitForm  (.addAUX8 au rd pc1 rs imm ud)
      (addrOp .add au ud rd 0#4 (asrcOpd pc1 rs) (.imm (imm.setWidth 32)))
  | subACR : AddrToUnitForm  (.subACR au rd pc1 rs1 pc2 rs2 ud cc)
      (addrOp .sub au ud rd cc (asrcOpd pc1 rs1) (asrcOpd pc2 rs2))
  | subACX : AddrToUnitForm  (.subACX au rd pc1 rs1 osel oreg ud cc)
      (addrOp .sub au ud rd cc (asrcOpd pc1 rs1) (.rep osel oreg))
  | subAUX8 : AddrToUnitForm  (.subAUX8 au rd pc1 rs imm ud)
      (addrOp .sub au ud rd 0#4 (asrcOpd pc1 rs) (.imm (imm.setWidth 32)))

/-- The shifts whose destination is in the unit that executes (45_shift.md R442, R444). -/
inductive ShiftForm  : Instr → DataOp → Prop
  | lslRR : ShiftForm  (.lslRR sf du rd rs1 rs2) (shiftOp .lsl sf du (dataUnit du).code rd 0#4 rs1 (.reg rs2))
  | lslI5 : ShiftForm  (.lslI5 sf du rd rs1 imm)
      (shiftOp .lsl sf du (dataUnit du).code rd 0#4 rs1 (.imm (imm.setWidth 32)))
  | lslCR : ShiftForm  (.lslCR sf du rd rs1 rs2 cc) (shiftOp .lsl sf du (dataUnit du).code rd cc rs1 (.reg rs2))
  | lslCI5 : ShiftForm  (.lslCI5 sf du rd rs1 imm cc)
      (shiftOp .lsl sf du (dataUnit du).code rd cc rs1 (.imm (imm.setWidth 32)))
  | lsrRR : ShiftForm  (.lsrRR sf du rd rs1 rs2) (shiftOp .lsr sf du (dataUnit du).code rd 0#4 rs1 (.reg rs2))
  | lsrI5 : ShiftForm  (.lsrI5 sf du rd rs1 imm)
      (shiftOp .lsr sf du (dataUnit du).code rd 0#4 rs1 (.imm (imm.setWidth 32)))
  | lsrCR : ShiftForm  (.lsrCR sf du rd rs1 rs2 cc) (shiftOp .lsr sf du (dataUnit du).code rd cc rs1 (.reg rs2))
  | lsrCI5 : ShiftForm  (.lsrCI5 sf du rd rs1 imm cc)
      (shiftOp .lsr sf du (dataUnit du).code rd cc rs1 (.imm (imm.setWidth 32)))
  | aslRR : ShiftForm  (.aslRR sf du rd rs1 rs2) (shiftOp .asl sf du (dataUnit du).code rd 0#4 rs1 (.reg rs2))
  | aslI5 : ShiftForm  (.aslI5 sf du rd rs1 imm)
      (shiftOp .asl sf du (dataUnit du).code rd 0#4 rs1 (.imm (imm.setWidth 32)))
  | aslCR : ShiftForm  (.aslCR sf du rd rs1 rs2 cc) (shiftOp .asl sf du (dataUnit du).code rd cc rs1 (.reg rs2))
  | aslCI5 : ShiftForm  (.aslCI5 sf du rd rs1 imm cc)
      (shiftOp .asl sf du (dataUnit du).code rd cc rs1 (.imm (imm.setWidth 32)))
  | asrRR : ShiftForm  (.asrRR sf du rd rs1 rs2) (shiftOp .asr sf du (dataUnit du).code rd 0#4 rs1 (.reg rs2))
  | asrI5 : ShiftForm  (.asrI5 sf du rd rs1 imm)
      (shiftOp .asr sf du (dataUnit du).code rd 0#4 rs1 (.imm (imm.setWidth 32)))
  | asrCR : ShiftForm  (.asrCR sf du rd rs1 rs2 cc) (shiftOp .asr sf du (dataUnit du).code rd cc rs1 (.reg rs2))
  | asrCI5 : ShiftForm  (.asrCI5 sf du rd rs1 imm cc)
      (shiftOp .asr sf du (dataUnit du).code rd cc rs1 (.imm (imm.setWidth 32)))

/-- The shifts whose destination is in any unit (45_shift.md R443). -/
inductive ShiftUnitForm  : Instr → DataOp → Prop
  | lslUR : ShiftUnitForm  (.lslUR sf du rd rs1 rs2 ud) (shiftOp .lsl sf du ud rd 0#4 rs1 (.reg rs2))
  | lslUI5 : ShiftUnitForm  (.lslUI5 sf du rd rs1 imm ud) (shiftOp .lsl sf du ud rd 0#4 rs1 (.imm (imm.setWidth 32)))
  | lsrUR : ShiftUnitForm  (.lsrUR sf du rd rs1 rs2 ud) (shiftOp .lsr sf du ud rd 0#4 rs1 (.reg rs2))
  | lsrUI5 : ShiftUnitForm  (.lsrUI5 sf du rd rs1 imm ud) (shiftOp .lsr sf du ud rd 0#4 rs1 (.imm (imm.setWidth 32)))
  | aslUR : ShiftUnitForm  (.aslUR sf du rd rs1 rs2 ud) (shiftOp .asl sf du ud rd 0#4 rs1 (.reg rs2))
  | aslUI5 : ShiftUnitForm  (.aslUI5 sf du rd rs1 imm ud) (shiftOp .asl sf du ud rd 0#4 rs1 (.imm (imm.setWidth 32)))
  | asrUR : ShiftUnitForm  (.asrUR sf du rd rs1 rs2 ud) (shiftOp .asr sf du ud rd 0#4 rs1 (.reg rs2))
  | asrUI5 : ShiftUnitForm  (.asrUI5 sf du rd rs1 imm ud) (shiftOp .asr sf du ud rd 0#4 rs1 (.imm (imm.setWidth 32)))

/-- The multiplies whose destination is in the unit that executes. -/
inductive MulForm (s : State) : Instr → DataOp → Prop
  | mulwRR : MulForm s (.mulwRR du rd rs1 rs2) (mulOp .w du (dataUnit du).code rd 0#4 (.reg rs1) (.reg rs2))
  | mulwRX : MulForm s (.mulwRX du rd rs1 osel oreg)
      (mulOp .w du (dataUnit du).code rd 0#4 (.reg rs1) (.rep osel oreg))
  | mulwI16 : MulForm s (.mulwI16 du rd imm se h)
      (mulOp .w du (dataUnit du).code rd 0#4 (.reg rd) (.imm (imm16 s imm se h)))
  | mulwCR : MulForm s (.mulwCR du rd rs1 rs2 cc) (mulOp .w du (dataUnit du).code rd cc (.reg rs1) (.reg rs2))
  | mulwCX : MulForm s (.mulwCX du rd rs1 osel oreg cc)
      (mulOp .w du (dataUnit du).code rd cc (.reg rs1) (.rep osel oreg))
  | mulwCX8 : MulForm s (.mulwCX8 du rd rs imm cc)
      (mulOp .w du (dataUnit du).code rd cc (.reg rs) (.imm (imm.setWidth 32)))
  | muldRR : MulForm s (.muldRR du rd rs1 rs2) (mulOp .d du (dataUnit du).code rd 0#4 (.reg rs1) (.reg rs2))
  | muldRX : MulForm s (.muldRX du rd rs1 osel oreg)
      (mulOp .d du (dataUnit du).code rd 0#4 (.reg rs1) (.rep osel oreg))
  | muldI16 : MulForm s (.muldI16 du rd imm se h)
      (mulOp .d du (dataUnit du).code rd 0#4 (.reg rd) (.imm (imm16 s imm se h)))
  | muldCR : MulForm s (.muldCR du rd rs1 rs2 cc) (mulOp .d du (dataUnit du).code rd cc (.reg rs1) (.reg rs2))
  | muldCX : MulForm s (.muldCX du rd rs1 osel oreg cc)
      (mulOp .d du (dataUnit du).code rd cc (.reg rs1) (.rep osel oreg))
  | muldCX8 : MulForm s (.muldCX8 du rd rs imm cc)
      (mulOp .d du (dataUnit du).code rd cc (.reg rs) (.imm (imm.setWidth 32)))

/-- The multiplies with a unit field of their own for the destination. -/
inductive MulUnitForm  : Instr → DataOp → Prop
  | mulwUR : MulUnitForm  (.mulwUR du rd rs1 rs2 ud) (mulOp .w du ud rd 0#4 (.reg rs1) (.reg rs2))
  | mulwUX : MulUnitForm  (.mulwUX du rd rs1 osel oreg ud) (mulOp .w du ud rd 0#4 (.reg rs1) (.rep osel oreg))
  | mulwUX8 : MulUnitForm  (.mulwUX8 du rd rs imm ud) (mulOp .w du ud rd 0#4 (.reg rs) (.imm (imm.setWidth 32)))
  | muldUR : MulUnitForm  (.muldUR du rd rs1 rs2 ud) (mulOp .d du ud rd 0#4 (.reg rs1) (.reg rs2))
  | muldUX : MulUnitForm  (.muldUX du rd rs1 osel oreg ud) (mulOp .d du ud rd 0#4 (.reg rs1) (.rep osel oreg))
  | muldUX8 : MulUnitForm  (.muldUX8 du rd rs imm ud) (mulOp .d du ud rd 0#4 (.reg rs) (.imm (imm.setWidth 32)))

/-- ABS, MAX and MIN. -/
inductive ExtForm (s : State) : Instr → DataOp → Prop
  | absRR : ExtForm s (.absRR du rd rs)
      (extOp du rd (fun a _ => BitVec.ofInt 32 a.toInt.natAbs) (fun a _ f => SubFlags a 0x80000000#32 f)
      (.reg rs) .zero)
  | maxRR : ExtForm s (.maxRR du rd rs1 rs2)
      (extOp du rd (fun a b => BitVec.ofInt 32 (max a.toInt b.toInt)) SubFlags (.reg rs1) (.reg rs2))
  | minRR : ExtForm s (.minRR du rd rs1 rs2)
      (extOp du rd (fun a b => BitVec.ofInt 32 (min a.toInt b.toInt)) SubFlags (.reg rs1) (.reg rs2))

/-- MORT and VPACK. -/
inductive PackForm  : Instr → DataOp → Prop
  | mortRR : PackForm  (.mortRR du rd rs1 rs2) (extOp du rd duMort SubFlags (.reg rs1) (.reg rs2))
  | mortRX : PackForm  (.mortRX du rd rs1 osel oreg) (extOp du rd duMort SubFlags (.reg rs1) (.rep osel oreg))
  | vpackRR : PackForm  (.vpackRR du rd rs1 rs2)
      (extOp du rd (fun a b => b.setWidth 16 ++ a.setWidth 16) SubFlags (.reg rs1) (.reg rs2))
  | vpackRX : PackForm  (.vpackRX du rd rs1 osel oreg)
      (extOp du rd (fun a b => b.setWidth 16 ++ a.setWidth 16) SubFlags (.reg rs1) (.rep osel oreg))

/-- XSD, BEXD and RTDW. -/
inductive ShuffleForm  : Instr → DataOp → Prop
  | xsdb : ShuffleForm  (.xsdb rd rs sf du) (shuffleOp sf du rd rs fun a => BitVec.ofInt 32 (a.setWidth 8).toInt)
  | xsdw : ShuffleForm  (.xsdw rd rs sf du) (shuffleOp sf du rd rs fun a => BitVec.ofInt 32 (a.setWidth 16).toInt)
  | bexd : ShuffleForm  (.bexd rd rs sf du) (shuffleOp sf du rd rs bytesReversed)
  | rtdw : ShuffleForm  (.rtdw rd rs sf du) (shuffleOp sf du rd rs fun a => (a <<< 16) ||| (a >>> 16))

/-- The comparisons. -/
inductive CmpForm (s : State) : Instr → CmpOp → Prop
  | cmpRR : CmpForm s (.cmpRR du rs1 rs2) (cmpOp false du (.reg rs1) (.reg rs2) 0#4)
  | cmpRX : CmpForm s (.cmpRX du rs1 osel oreg) (cmpOp false du (.reg rs1) (.rep osel oreg) 0#4)
  | cmpI16 : CmpForm s (.cmpI16 du rs imm m se h) (cmpOp false du (.reg rs) (.imm (immM s imm m se h)) 0#4)
  | cmpCR : CmpForm s (.cmpCR du rs1 rs2 cc) (cmpOp false du (.reg rs1) (.reg rs2) cc)
  | cmpCX : CmpForm s (.cmpCX du rs1 osel oreg cc) (cmpOp false du (.reg rs1) (.rep osel oreg) cc)
  | cmpCX8 : CmpForm s (.cmpCX8 du rs imm cc) (cmpOp false du (.reg rs) (.imm (imm.setWidth 32)) cc)
  | tstRR : CmpForm s (.tstRR du rs1 rs2) (cmpOp true du (.reg rs1) (.reg rs2) 0#4)
  | tstRX : CmpForm s (.tstRX du rs1 osel oreg) (cmpOp true du (.reg rs1) (.rep osel oreg) 0#4)
  | tstI16 : CmpForm s (.tstI16 du rs imm m se h) (cmpOp true du (.reg rs) (.imm (immM s imm m se h)) 0#4)
  | tstCR : CmpForm s (.tstCR du rs1 rs2 cc) (cmpOp true du (.reg rs1) (.reg rs2) cc)
  | tstCX : CmpForm s (.tstCX du rs1 osel oreg cc) (cmpOp true du (.reg rs1) (.rep osel oreg) cc)
  | tstCX8 : CmpForm s (.tstCX8 du rs imm cc) (cmpOp true du (.reg rs) (.imm (imm.setWidth 32)) cc)

/-- The loads of up to 32 bits. -/
inductive GetForm (s : State) : Instr → AccessOp → Prop
  | getdShort : GetForm s (.getdShort rd rb imm ua ud pp) ⟨.d, immOff .a0 rb imm .d ua pp, ud, rd⟩
  | getbR : GetForm s (.getbR rd rb ro ua bu ud pp) ⟨.b, regOff s bu rb ro ua pp, ud, rd⟩
  | getbI6 : GetForm s (.getbI6 rd rb imm ua bu ud pp) ⟨.b, immOff (baseUnit bu) rb imm .b ua pp, ud, rd⟩
  | getbS12 : GetForm s (.getbS12 rd imm bua bud rb) ⟨.b, s12Off bua rb imm .b, (baseUnit bud).code, rd⟩
  | getwR : GetForm s (.getwR rd rb ro ua bu ud pp) ⟨.w, regOff s bu rb ro ua pp, ud, rd⟩
  | getwI6 : GetForm s (.getwI6 rd rb imm ua bu ud pp) ⟨.w, immOff (baseUnit bu) rb imm .w ua pp, ud, rd⟩
  | getwS12 : GetForm s (.getwS12 rd imm bua bud rb) ⟨.w, s12Off bua rb imm .w, (baseUnit bud).code, rd⟩
  | getdR : GetForm s (.getdR rd rb ro ua bu ud pp) ⟨.d, regOff s bu rb ro ua pp, ud, rd⟩
  | getdI6 : GetForm s (.getdI6 rd rb imm ua bu ud pp) ⟨.d, immOff (baseUnit bu) rb imm .d ua pp, ud, rd⟩
  | getdS12 : GetForm s (.getdS12 rd imm bua bud rb) ⟨.d, s12Off bua rb imm .d, (baseUnit bud).code, rd⟩

/-- The 64-bit loads. -/
inductive GetPairForm (s : State) : Instr → AccessOp → Prop
  | getlR : GetPairForm s (.getlR rd rb ro ua bu ud pp) ⟨.l, regOff s bu rb ro ua pp, ud, rd⟩
  | getlI6 : GetPairForm s (.getlI6 rd rb imm ua bu ud pp) ⟨.l, immOff (baseUnit bu) rb imm .l ua pp, ud, rd⟩
  | getlS12 : GetPairForm s (.getlS12 rd imm bua bud rb) ⟨.l, s12Off bua rb imm .l, (baseUnit bud).code, rd⟩

/-- The stores of up to 32 bits; the proposition says when the data is unspecified (20_memory.md R116). -/
inductive SetForm (s : State) : Instr → AccessOp → Prop → Prop
  | setdShort : SetForm s (.setdShort rs rb imm ua us pp) ⟨.d, immOff .a0 rb imm .d ua pp, us, rs⟩ False
  | setbR : SetForm s (.setbR rs rb ro ua bu us pp) ⟨.b, regOff s bu rb ro ua pp, us, rs⟩ (us = (baseUnit bu).code)
  | setbI6 : SetForm s (.setbI6 rs rb imm ua bu us pp) ⟨.b, immOff (baseUnit bu) rb imm .b ua pp, us, rs⟩ False
  | setbS12 : SetForm s (.setbS12 rs imm bua bus rb) ⟨.b, s12Off bua rb imm .b, (baseUnit bus).code, rs⟩ False
  | setwR : SetForm s (.setwR rs rb ro ua bu us pp) ⟨.w, regOff s bu rb ro ua pp, us, rs⟩ (us = (baseUnit bu).code)
  | setwI6 : SetForm s (.setwI6 rs rb imm ua bu us pp) ⟨.w, immOff (baseUnit bu) rb imm .w ua pp, us, rs⟩ False
  | setwS12 : SetForm s (.setwS12 rs imm bua bus rb) ⟨.w, s12Off bua rb imm .w, (baseUnit bus).code, rs⟩ False
  | setdR : SetForm s (.setdR rs rb ro ua bu us pp) ⟨.d, regOff s bu rb ro ua pp, us, rs⟩ (us = (baseUnit bu).code)
  | setdI6 : SetForm s (.setdI6 rs rb imm ua bu us pp) ⟨.d, immOff (baseUnit bu) rb imm .d ua pp, us, rs⟩ False
  | setdS12 : SetForm s (.setdS12 rs imm bua bus rb) ⟨.d, s12Off bua rb imm .d, (baseUnit bus).code, rs⟩ False

/-- The 64-bit stores; the proposition says when the data is unspecified (20_memory.md R116). -/
inductive SetPairForm (s : State) : Instr → AccessOp → Prop → Prop
  | setlR : SetPairForm s (.setlR rs rb ro ua bu us pp)
      ⟨.l, regOff s bu rb ro ua pp, us, rs⟩
      (∃ v : BUnit, us = v.code ∧ v.isData = (baseUnit bu).isData)
  | setlI6 : SetPairForm s (.setlI6 rs rb imm ua bu us pp) ⟨.l, immOff (baseUnit bu) rb imm .l ua pp, us, rs⟩ False
  | setlS12 : SetPairForm s (.setlS12 rs imm bua bus rb) ⟨.l, s12Off bua rb imm .l, (baseUnit bus).code, rs⟩ False

/-- The stores from the ports unit. -/
inductive CprMemForm (s : State) : Instr → AccessOp → Prop
  | cprbMemR : CprMemForm s (.cprbMemR rb ro ua bu pp cp) ⟨.b, regOff s bu rb ro ua pp, 6#4, cp⟩
  | cprbMemI6 : CprMemForm s (.cprbMemI6 rb imm ua bu pp cp) ⟨.b, immOff (baseUnit bu) rb imm .b ua pp, 6#4, cp⟩
  | cprwMemR : CprMemForm s (.cprwMemR rb ro ua bu pp cp) ⟨.w, regOff s bu rb ro ua pp, 6#4, cp⟩
  | cprwMemI6 : CprMemForm s (.cprwMemI6 rb imm ua bu pp cp) ⟨.w, immOff (baseUnit bu) rb imm .w ua pp, 6#4, cp⟩
  | cprdMemR : CprMemForm s (.cprdMemR rb ro ua bu pp cp) ⟨.d, regOff s bu rb ro ua pp, 6#4, cp⟩
  | cprdMemI6 : CprMemForm s (.cprdMemI6 rb imm ua bu pp cp) ⟨.d, immOff (baseUnit bu) rb imm .d ua pp, 6#4, cp⟩
  | cprlMemR : CprMemForm s (.cprlMemR rb ro ua bu pp cp) ⟨.l, regOff s bu rb ro ua pp, 6#4, cp⟩
  | cprlMemI6 : CprMemForm s (.cprlMemI6 rb imm ua bu pp cp) ⟨.l, immOff (baseUnit bu) rb imm .l ua pp, 6#4, cp⟩

/-- The issues of an address to the read pipeline. -/
inductive IssueForm (s : State) : Instr → AccessOp → Prop
  | movbRaR : IssueForm s (.movbRaR rb ro ua bu pp port) ⟨.b, regOff s bu rb ro ua pp, 6#4, port⟩
  | movbRaI6 : IssueForm s (.movbRaI6 rb imm ua bu pp port) ⟨.b, immOff (baseUnit bu) rb imm .b ua pp, 6#4, port⟩
  | movbRaS12 : IssueForm s (.movbRaS12 port imm bua rb) ⟨.b, s12Off bua rb imm .b, 6#4, port⟩
  | movwRaR : IssueForm s (.movwRaR rb ro ua bu pp port) ⟨.w, regOff s bu rb ro ua pp, 6#4, port⟩
  | movwRaI6 : IssueForm s (.movwRaI6 rb imm ua bu pp port) ⟨.w, immOff (baseUnit bu) rb imm .w ua pp, 6#4, port⟩
  | movwRaS12 : IssueForm s (.movwRaS12 port imm bua rb) ⟨.w, s12Off bua rb imm .w, 6#4, port⟩
  | movdRaR : IssueForm s (.movdRaR rb ro ua bu pp port) ⟨.d, regOff s bu rb ro ua pp, 6#4, port⟩
  | movdRaI6 : IssueForm s (.movdRaI6 rb imm ua bu pp port) ⟨.d, immOff (baseUnit bu) rb imm .d ua pp, 6#4, port⟩
  | movdRaS12 : IssueForm s (.movdRaS12 port imm bua rb) ⟨.d, s12Off bua rb imm .d, 6#4, port⟩
  | movlRaR : IssueForm s (.movlRaR rb ro ua bu pp port) ⟨.l, regOff s bu rb ro ua pp, 6#4, port⟩
  | movlRaI6 : IssueForm s (.movlRaI6 rb imm ua bu pp port) ⟨.l, immOff (baseUnit bu) rb imm .l ua pp, 6#4, port⟩
  | movlRaS12 : IssueForm s (.movlRaS12 port imm bua rb) ⟨.l, s12Off bua rb imm .l, 6#4, port⟩

/-- The conditional stores of up to 32 bits. -/
inductive SetCcForm  : Instr → CcStoreOp → Prop
  | setbCc : SetCcForm  (.setbCc rs rb us bu cc) ⟨.b, baseUnit bu, rb, us, rs, cc⟩
  | setwCc : SetCcForm  (.setwCc rs rb us bu cc) ⟨.w, baseUnit bu, rb, us, rs, cc⟩
  | setdCc : SetCcForm  (.setdCc rs rb us bu cc) ⟨.d, baseUnit bu, rb, us, rs, cc⟩

/-- The conditional stores from the ports unit. -/
inductive CprMemCcForm  : Instr → CcStoreOp → Prop
  | cprbMemCc : CprMemCcForm  (.cprbMemCc cp rb bu cc) ⟨.b, baseUnit bu, rb, 6#4, cp, cc⟩
  | cprwMemCc : CprMemCcForm  (.cprwMemCc cp rb bu cc) ⟨.w, baseUnit bu, rb, 6#4, cp, cc⟩
  | cprdMemCc : CprMemCcForm  (.cprdMemCc cp rb bu cc) ⟨.d, baseUnit bu, rb, 6#4, cp, cc⟩
  | cprlMemCc : CprMemCcForm  (.cprlMemCc cp rb bu cc) ⟨.l, baseUnit bu, rb, 6#4, cp, cc⟩

/-- The linked loads of up to 32 bits: size, address, destination. -/
inductive LnkGetForm (s : State) : Instr → Size → Word → BUnit → BitVec 5 → Prop
  | lnkgetb : LnkGetForm s (.lnkgetb rd rb bua bur) .b (readReg s (baseUnit bua) rb 2) (baseUnit bur) rd
  | lnkgetw : LnkGetForm s (.lnkgetw rd rb bua bur) .w (readReg s (baseUnit bua) rb 2) (baseUnit bur) rd
  | lnkgetd : LnkGetForm s (.lnkgetd rd rb bua bur) .d (readReg s (baseUnit bua) rb 2) (baseUnit bur) rd

/-- The linked stores of up to 32 bits. -/
inductive LnkSetForm  : Instr → CcStoreOp → Prop
  | lnksetb : LnkSetForm  (.lnksetb rs rb us bu cc) ⟨.b, baseUnit bu, rb, us, rs, cc⟩
  | lnksetw : LnkSetForm  (.lnksetw rs rb us bu cc) ⟨.w, baseUnit bu, rb, us, rs, cc⟩
  | lnksetd : LnkSetForm  (.lnksetd rs rb us bu cc) ⟨.d, baseUnit bu, rb, us, rs, cc⟩

/-- The moves of RD to any register: size, destination, condition. -/
inductive MovRdForm  : Instr → Size → BitVec 4 → BitVec 5 → BitVec 4 → Prop
  | movbRd : MovRdForm  (.movbRd rd ud cc) .b ud rd cc
  | movwRd : MovRdForm  (.movwRd rd ud cc) .w ud rd cc
  | movdRd : MovRdForm  (.movdRd rd ud cc) .d ud rd cc

/-- The coprocessor reads into a register: size, port, destination, condition. -/
inductive CprUnitForm  : Instr → Size → BitVec 3 → BitVec 4 → BitVec 5 → BitVec 4 → Prop
  | cprbUnit : CprUnitForm  (.cprbUnit rd cp ud cc) .b cp ud rd cc
  | cprwUnit : CprUnitForm  (.cprwUnit rd cp ud cc) .w cp ud rd cc
  | cprdUnit : CprUnitForm  (.cprdUnit rd cp ud cc) .d cp ud rd cc

/-- The repeating coprocessor reads into memory: size, port, address. -/
inductive CprRepForm (s : State) : Instr → Size → BitVec 3 → AddrForm → Prop
  | cprdr0 : CprRepForm s (.cprdr0 updD pp rdb rdo cp) .d cp (regOff s 0#2 rdb rdo updD pp)
  | cprdr1 : CprRepForm s (.cprdr1 updD pp rdb rdo cp) .d cp (regOff s 1#2 rdb rdo updD pp)
  | cprdr2 : CprRepForm s (.cprdr2 updD pp rdb rdo cp) .d cp (regOff s 2#2 rdb rdo updD pp)
  | cprdr3 : CprRepForm s (.cprdr3 updD pp rdb rdo cp) .d cp (regOff s 3#2 rdb rdo updD pp)
  | cprlr0 : CprRepForm s (.cprlr0 updD pp rdb rdo cp) .l cp (regOff s 0#2 rdb rdo updD pp)
  | cprlr1 : CprRepForm s (.cprlr1 updD pp rdb rdo cp) .l cp (regOff s 1#2 rdb rdo updD pp)
  | cprlr2 : CprRepForm s (.cprlr2 updD pp rdb rdo cp) .l cp (regOff s 2#2 rdb rdo updD pp)
  | cprlr3 : CprRepForm s (.cprlr3 updD pp rdb rdo cp) .l cp (regOff s 3#2 rdb rdo updD pp)

/-- XFR: size, destination address, source address. -/
inductive XfrForm (s : State) : Instr → Size → AddrForm → AddrForm → Prop
  | xfrd01 : XfrForm s (.xfrd01 updD updS pp rdb rdo rsb rso)
      .d (regOff s 0#2 rdb rdo updD pp) (sourceOff s 1#2 rsb rso updS pp)
  | xfrd02 : XfrForm s (.xfrd02 updD updS pp rdb rdo rsb rso)
      .d (regOff s 0#2 rdb rdo updD pp) (sourceOff s 2#2 rsb rso updS pp)
  | xfrd03 : XfrForm s (.xfrd03 updD updS pp rdb rdo rsb rso)
      .d (regOff s 0#2 rdb rdo updD pp) (sourceOff s 3#2 rsb rso updS pp)
  | xfrd10 : XfrForm s (.xfrd10 updD updS pp rdb rdo rsb rso)
      .d (regOff s 1#2 rdb rdo updD pp) (sourceOff s 0#2 rsb rso updS pp)
  | xfrd12 : XfrForm s (.xfrd12 updD updS pp rdb rdo rsb rso)
      .d (regOff s 1#2 rdb rdo updD pp) (sourceOff s 2#2 rsb rso updS pp)
  | xfrd13 : XfrForm s (.xfrd13 updD updS pp rdb rdo rsb rso)
      .d (regOff s 1#2 rdb rdo updD pp) (sourceOff s 3#2 rsb rso updS pp)
  | xfrd20 : XfrForm s (.xfrd20 updD updS pp rdb rdo rsb rso)
      .d (regOff s 2#2 rdb rdo updD pp) (sourceOff s 0#2 rsb rso updS pp)
  | xfrd21 : XfrForm s (.xfrd21 updD updS pp rdb rdo rsb rso)
      .d (regOff s 2#2 rdb rdo updD pp) (sourceOff s 1#2 rsb rso updS pp)
  | xfrd23 : XfrForm s (.xfrd23 updD updS pp rdb rdo rsb rso)
      .d (regOff s 2#2 rdb rdo updD pp) (sourceOff s 3#2 rsb rso updS pp)
  | xfrd30 : XfrForm s (.xfrd30 updD updS pp rdb rdo rsb rso)
      .d (regOff s 3#2 rdb rdo updD pp) (sourceOff s 0#2 rsb rso updS pp)
  | xfrd31 : XfrForm s (.xfrd31 updD updS pp rdb rdo rsb rso)
      .d (regOff s 3#2 rdb rdo updD pp) (sourceOff s 1#2 rsb rso updS pp)
  | xfrd32 : XfrForm s (.xfrd32 updD updS pp rdb rdo rsb rso)
      .d (regOff s 3#2 rdb rdo updD pp) (sourceOff s 2#2 rsb rso updS pp)
  | xfrl01 : XfrForm s (.xfrl01 updD updS pp rdb rdo rsb rso)
      .l (regOff s 0#2 rdb rdo updD pp) (sourceOff s 1#2 rsb rso updS pp)
  | xfrl02 : XfrForm s (.xfrl02 updD updS pp rdb rdo rsb rso)
      .l (regOff s 0#2 rdb rdo updD pp) (sourceOff s 2#2 rsb rso updS pp)
  | xfrl03 : XfrForm s (.xfrl03 updD updS pp rdb rdo rsb rso)
      .l (regOff s 0#2 rdb rdo updD pp) (sourceOff s 3#2 rsb rso updS pp)
  | xfrl10 : XfrForm s (.xfrl10 updD updS pp rdb rdo rsb rso)
      .l (regOff s 1#2 rdb rdo updD pp) (sourceOff s 0#2 rsb rso updS pp)
  | xfrl12 : XfrForm s (.xfrl12 updD updS pp rdb rdo rsb rso)
      .l (regOff s 1#2 rdb rdo updD pp) (sourceOff s 2#2 rsb rso updS pp)
  | xfrl13 : XfrForm s (.xfrl13 updD updS pp rdb rdo rsb rso)
      .l (regOff s 1#2 rdb rdo updD pp) (sourceOff s 3#2 rsb rso updS pp)
  | xfrl20 : XfrForm s (.xfrl20 updD updS pp rdb rdo rsb rso)
      .l (regOff s 2#2 rdb rdo updD pp) (sourceOff s 0#2 rsb rso updS pp)
  | xfrl21 : XfrForm s (.xfrl21 updD updS pp rdb rdo rsb rso)
      .l (regOff s 2#2 rdb rdo updD pp) (sourceOff s 1#2 rsb rso updS pp)
  | xfrl23 : XfrForm s (.xfrl23 updD updS pp rdb rdo rsb rso)
      .l (regOff s 2#2 rdb rdo updD pp) (sourceOff s 3#2 rsb rso updS pp)
  | xfrl30 : XfrForm s (.xfrl30 updD updS pp rdb rdo rsb rso)
      .l (regOff s 3#2 rdb rdo updD pp) (sourceOff s 0#2 rsb rso updS pp)
  | xfrl31 : XfrForm s (.xfrl31 updD updS pp rdb rdo rsb rso)
      .l (regOff s 3#2 rdb rdo updD pp) (sourceOff s 1#2 rsb rso updS pp)
  | xfrl32 : XfrForm s (.xfrl32 updD updS pp rdb rdo rsb rso)
      .l (regOff s 3#2 rdb rdo updD pp) (sourceOff s 2#2 rsb rso updS pp)

/-- CPWL from memory: port, repeat, address. -/
inductive CpwlMemForm (s : State) : Instr → BitVec 3 → Bool → AddrForm → Prop
  | cpwlMemR : CpwlMemForm s (.cpwlMemR bu cp rb ro rep ua pp) cp rep (regOff s bu rb ro ua pp)
  | cpwlMemI8 : CpwlMemForm s (.cpwlMemI8 bu cp rb imm rep ua pp)
      cp rep
      { unit := baseUnit bu, rb := rb, offset := BitVec.ofInt 32 (imm.toInt * s.cfg.cpwlS8Scale), ua := ua, pp := pp }

/-- MGET. -/
inductive MGetForm  : Instr → MultiOp → Prop
  | mgetd : MGetForm  (.mgetd rd rb rmask bua bud) ⟨false, rd, rmask, baseUnit bud, baseUnit bua, rb⟩
  | mgetl : MGetForm  (.mgetl rd rb rmask bua bud) ⟨true, rd, rmask, baseUnit bud, baseUnit bua, rb⟩

/-- MSET. -/
inductive MSetForm  : Instr → MultiOp → Prop
  | msetd : MSetForm  (.msetd rs rb rmask bua bus) ⟨false, rs, rmask, baseUnit bus, baseUnit bua, rb⟩
  | msetl : MSetForm  (.msetl rs rb rmask bua bus) ⟨true, rs, rmask, baseUnit bus, baseUnit bua, rb⟩

/-- MMOV to a read address port: the port in place of the first register, the list unit unused. -/
inductive MMovRaForm  : Instr → MultiOp → Prop
  | mmovdRa : MMovRaForm  (.mmovdRa port rb rmask bua) ⟨false, port, rmask, .d0, baseUnit bua, rb⟩
  | mmovlRa : MMovRaForm  (.mmovlRa port rb rmask bua) ⟨true, port, rmask, .d0, baseUnit bua, rb⟩

/-- MMOV from RD: the base unused. -/
inductive MMovRdForm  : Instr → MultiOp → Prop
  | mmovdRd : MMovRdForm  (.mmovdRd rd rmask bur) ⟨false, rd, rmask, baseUnit bur, .d0, 0#5⟩
  | mmovlRd : MMovRdForm  (.mmovlRd rd rmask bur) ⟨true, rd, rmask, baseUnit bur, .d0, 0#5⟩

/-! ## Whole effects -/

/-- A move: the source is read whatever the condition; then `after`, applied to the state and the value, follows the
write of the destination (40_core_gp_a.md R261, 47_long_gp_b.md R496). -/
def MoveEffect (i : Instr) (s : State) (us : BitVec 4) (rs : BitVec 5) (ud : BitVec 4) (rd : BitVec 5)
    (cc : BitVec 4) (after : State → Word → State) : Prop :=
  (ReadWaits s us rs → exec i s = .next (blockOn .trigger s)) ∧
  (ReadUnderflows s us rs → exec i s = .next (raise .readPipelineUnderflow s)) ∧
  (CanRead s us rs → ∃ v s1, UnitRead s s1 us rs 0 v ∧
    (cond s.th.flags cc = false → exec i s = .next (atNext s1)) ∧
    (cond s.th.flags cc = true →
      (CanWrite s1 ud rd v → ∃ t, exec i s = .next (after t v) ∧ UnitWrite (atNext s1) t ud rd v ∧ SameBytes s t) ∧
      (WriteWaits s1 ud rd → exec i s = .next (blockOn .pipelineFull s)) ∧
      (WriteFaults s1 ud rd v → exec i s = .next (raise (.memoryFault v .read) s)) ∧
      (WriteStrays s1 ud rd v → RaisesFault i s v .read ∨
        ∃ t, exec i s = .next (after t v) ∧ UnitWrite (atNext s1) t ud rd v ∧ SameBytes s t)))

/-- A record of the trace log more (10_state.md R53). -/
def traced (width : Nat) (t : State) (v : DWord) : State :=
  { t with th := { t.th with ttrec := t.th.ttrec ++ [{ width := width, value := v }] } }

/-- PC, CT, TR and TT, which count as a single unit for SWAP (41_core_gp_b.md R297). -/
def SpecialUnit (u : BitVec 4) : Prop := u = 0#4 ∨ u = 5#4 ∨ u = 7#4 ∨ u = 8#4

/-- A combination that SWAP forbids (41_core_gp_b.md R297). -/
def SwapForbidden (us ud : BitVec 4) : Prop := us = ud ∨ (SpecialUnit us ∧ SpecialUnit ud)

/-- A SWAP of the allowed kind: both are read, then the destination is written, then the source. -/
def SwapEffect (i : Instr) (s : State) (us : BitVec 4) (rs : BitVec 5) (ud : BitVec 4) (rd : BitVec 5)
    (cc : BitVec 4) : Prop :=
  (ReadWaits s us rs ∨ ReadWaits s ud rd → exec i s = .next (blockOn .trigger s)) ∧
  (¬ ReadWaits s us rs → ¬ ReadWaits s ud rd → ∃ v s1 w s2, UnitRead s s1 us rs 0 v ∧ UnitRead s1 s2 ud rd 1 w ∧
    (cond s.th.flags cc = false → exec i s = .next (atNext s2)) ∧
    (cond s.th.flags cc = true → ∃ s3 t, exec i s = .next t ∧ UnitWrite (atNext s2) s3 ud rd v ∧
      UnitWrite s3 t us rs w ∧ SameBytes s t))

/-- A transfer of RD: the entry is consumed whatever the condition (10_state.md R77). -/
def RdEffect (i : Instr) (s : State) (sz : Size) (ud : BitVec 4) (rd : BitVec 5) (cc : BitVec 4) : Prop :=
  (s.th.rdq = [] → exec i s = .next (raise .readPipelineUnderflow s)) ∧
  ∀ e s1, Popped s s1 e →
    (cond s.th.flags cc = false → exec i s = .next (atNext s1)) ∧
    (cond s.th.flags cc = true →
      EndsWith i s (atNext s1) ud rd (BitVec.ofNat 32 (e.toNat % 2 ^ (8 * min sz.bytes 4))))

/-- The register of the source is one that KICK and DEFR describe in this state (46_long_gp_a.md R460, R466,
93_implementation_defined.md I9). -/
def TriggerSource (s : State) (rs : BitVec 5) : Prop :=
  rs = 0#5 ∨ rs = 4#5 ∨ ((rs = 2#5 ∨ rs = 6#5) ∧ s.th.istat = true)

/-- The value KICK returns: the low 16 bits of the count that remains, and the kick trigger. -/
def KickValue (s : State) (v : Word) : Prop :=
  v.extractLsb' 16 16 = BitVec.ofNat 16 (s.th.kickCount - 1) ∧
  ∀ b < 16, v.getLsbD b = true ↔ s.th.kickCount ≠ 0 ∧ b = s.cfg.kickBit.toNat

/-- DEFR of TXSTAT or TXSTATI clears bits 31:16 of the cell it read. -/
def deferredRead (s : State) (rs : BitVec 5) : State :=
  { s with th := { s.th with
    txdefr0 := if rs = 0#5 then s.th.txdefr0 &&& 0xFFFF#32 else s.th.txdefr0
    txdefr1 := if rs = 2#5 then s.th.txdefr1 &&& 0xFFFF#32 else s.th.txdefr1 } }

/-- The value DEFR returns: bits 31:16 of the deferred state of the level, for a poll perhaps as it was before the
thread's latest store (92_eei_decisions.md D36), and the active triggers. -/
def DeferredValue (s : State) (rs : BitVec 5) (v : Word) : Prop :=
  let level := decide (rs = 2#5 ∨ rs = 6#5)
  let cell := if level then s.th.txdefr1 else s.th.txdefr0
  let before := if level then s.th.txdefrPrev1 else s.th.txdefrPrev0
  (v.extractLsb' 16 16 = cell.extractLsb' 16 16 ∨
    ((rs = 4#5 ∨ rs = 6#5) ∧ v.extractLsb' 16 16 = before.extractLsb' 16 16)) ∧
  ∀ b < 16, v.getLsbD b = true ↔ Triggered s level b

/-- The data that the ports unit delivers to a store (42_extended_gp_a.md R339): of a number that is neither CP.0 to CP.7
nor RD nothing is said. -/
def PortData (s t : State) (n : BitVec 5) (sz : Size) (d : DWord) : Prop :=
  if n.toNat < 8 then CoproRead s t (n.setWidth 3) sz d
  else if n = 16#5 then Popped s t d
  else t = s

/-- The instruction loads `v` from the address, then updates the base, and then `dest` holds of the value, the state
before its destination is written and the one after. -/
def LoadEnds (i : Instr) (s : State) (sz : Size) (e : AddrForm) (dest : DWord → State → State → Prop) : Prop :=
  ∃ v s1 s2 t, exec i s = .next t ∧ Reads s 0 (e.addr s) sz v s1 ∧
    BaseStep s1 s2 e.ua e.unit e.rb (e.base s + e.offset) ∧ dest v s2 t ∧ SameBytes s t

/-- The destination of a load of up to 32 bits (42_extended_gp_a.md R341). -/
def GetDest (p : AccessOp) (v : DWord) (s t : State) : Prop :=
  (¬ SmallSpecial p.size p.unit → UnitWrite s t p.unit p.reg (v.setWidth 32)) ∧
  (SmallSpecial p.size p.unit → UnitFree s t p.unit p.reg)

/-- The destinations of a 64-bit load (42_extended_gp_a.md R340). -/
def GetPairDest (p : AccessOp) (v : DWord) (s t : State) : Prop :=
  (∀ u : BUnit, p.unit = u.code → PairWrite s t u p.reg p.reg v) ∧
  ((∀ u : BUnit, p.unit ≠ u.code) → UnitFree s t p.unit p.reg)

/-- The instruction has stored `d` at the address, from `s1`, and then updated the base. -/
def StoreDone (i : Instr) (s s1 : State) (sz : Size) (e : AddrForm) (d : DWord) : Prop :=
  ∃ s2 t, exec i s = .next t ∧ Writes s1 1 (e.addr s) d sz s2 ∧ BaseStep s2 t e.ua e.unit e.rb (e.base s + e.offset)

/-- The instruction stores `d` at the address, from `s1`, and then updates the base; a failing access raises
MemoryFault, and a misaligned one may (20_memory.md R107). -/
def StoreEnds (i : Instr) (s s1 : State) (sz : Size) (e : AddrForm) (d : DWord) : Prop :=
  (s.mem.wf = true → Accessible s 1 (e.addr s) sz → StoreDone i s s1 sz e d) ∧
  (Faults s 1 (e.addr s) sz → exec i s = .next (raise (.memoryFault (e.addr s) .write) s)) ∧
  (Misaligned s (e.addr s) sz → RaisesFault i s (e.addr s) .write ∨ StoreDone i s s1 sz e d)

/-- The instruction issues its address to its port, and then updates the base. -/
def IssueEnds (i : Instr) (s : State) (p : AccessOp) : Prop :=
  ∃ s1 t, exec i s = .next t ∧ Issued s s1 p.reg (p.mem.addr s) p.size ∧
    BaseStep s1 t p.mem.ua p.mem.unit p.mem.rb (p.mem.base s + p.mem.offset) ∧ SameBytes s t

/-- The instruction has stored `d` at the address in a register, from `s1`. -/
def CcStoreDone (i : Instr) (s s1 : State) (p : CcStoreOp) (d : DWord) : Prop :=
  ∃ s2, exec i s = .next (atNext s2) ∧ Writes s1 1 (readReg s p.baseUnit p.rb 2) d p.size s2

/-- The instruction stores `d` at the address in a register, if its condition holds. -/
def CcStoreEnds (i : Instr) (s s1 : State) (p : CcStoreOp) (d : DWord) : Prop :=
  let a := readReg s p.baseUnit p.rb 2
  (cond s.th.flags p.cc = false → exec i s = .next (atNext s1)) ∧
  (cond s.th.flags p.cc = true →
    (s.mem.wf = true → Accessible s 1 a p.size → CcStoreDone i s s1 p d) ∧
    (Faults s 1 a p.size → exec i s = .next (raise (.memoryFault a .write) s)) ∧
    (Misaligned s a p.size → RaisesFault i s a .write ∨ CcStoreDone i s s1 p d))

/-- What is left of a state after a linked store that reports `code` in bits 29:24 of the deferred state of the level in
use (20_memory.md R130): the other bits of 31:16 may be anything, and the deferred trigger of the level may become
active. -/
structure Reported (s t : State) (code : BitVec 6) : Prop where
  code0 : s.th.istat = false → t.th.txdefr0.extractLsb' 24 6 = code ∧
    t.th.txdefr0.extractLsb' 0 16 = s.th.txdefr0.extractLsb' 0 16 ∧ t.th.txdefr1 = s.th.txdefr1 ∧
    t.th.trig1 = s.th.trig1 ∧ (t.th.trig0 = s.th.trig0 ∨ t.th.trig0 = s.th.trig0 ||| (1#16 <<< s.cfg.defrBit.toNat))
  code1 : s.th.istat = true → t.th.txdefr1.extractLsb' 24 6 = code ∧
    t.th.txdefr1.extractLsb' 0 16 = s.th.txdefr1.extractLsb' 0 16 ∧ t.th.txdefr0 = s.th.txdefr0 ∧
    t.th.trig0 = s.th.trig0 ∧ (t.th.trig1 = s.th.trig1 ∨ t.th.trig1 = s.th.trig1 ||| (1#16 <<< s.cfg.defrBit.toNat))
  rest : t = { s with th := { s.th with
    txdefr0 := t.th.txdefr0, txdefr1 := t.th.txdefr1, trig0 := t.th.trig0, trig1 := t.th.trig1,
    failedAccess := t.th.failedAccess } }

/-- The next instruction, with the link flag cleared (20_memory.md R131). -/
def unlinked (s : State) : State := { s with th := { s.th with pc := s.th.pc + 4#32, linkFlag := false } }

/-- A linked store of `d` from `s1`, if its condition holds (20_memory.md R130). -/
def LinkedStoreEnds (i : Instr) (s s1 : State) (p : CcStoreOp) (d : DWord) : Prop :=
  let a := readReg s p.baseUnit p.rb 2
  (cond s.th.flags p.cc = false → exec i s = .next (unlinked s1)) ∧
  (cond s.th.flags p.cc = true → s.mem.wf = true → Quiet s →
    ∃ t, exec i s = .next (unlinked t) ∧
      ((s.th.linkFlag = true ∧ s.th.linkHit = false ∧ ∃ s2, Writes s1 1 a d p.size s2 ∧ s.target 1 a ≠ none ∧
          Reported s2 t 2#6) ∨
        (∃ code, code ≠ 2#6 ∧ Reported s1.noteStore t code)))

/-- A linked load has recorded its access (20_memory.md R130). -/
def LinkRecorded (s t : State) (slot : Nat) (a : Word) (sz : Size) : Prop :=
  ∃ ph, (∀ pa, s.target slot a = some (.ram pa) → ph = pa) ∧
    t = { s with th := { s.th with
      linkFlag := true, linkHit := false, linkAddr := some { addr := a, phys := ph, size := sz } } }

/-- The linked load `i` loads `v` from `a`, records its access, and then `dest` holds of the value, the state before its
destination is written and the one after. -/
def LinkedLoadEnds (i : Instr) (s : State) (sz : Size) (a : Word) (dest : DWord → State → State → Prop) : Prop :=
  ∃ v s1 s2 t, exec i s = .next t ∧ Reads s 0 a sz v s1 ∧ LinkRecorded (atNext s1) s2 0 a sz ∧ dest v s2 t ∧
    SameBytes s t

/-! ## Several registers -/

/-- The size of an element. -/
def MultiOp.size (p : MultiOp) : Size := if p.pair then .l else .d

/-- The registers of the list, ascending (30_encoding.md R192). -/
def MultiOp.list (p : MultiOp) : List Nat := regList p.first p.mask

/-- The instruction may transfer register `n` (40_core_gp_a.md R255): D 0 to 15, A 0 to 7, and not the base. -/
def MultiOp.allows (p : MultiOp) (n : Nat) : Prop :=
  (if p.unit.isData then n < 16 else n < 8) ∧ ¬ (p.unit = p.base ∧ n = p.rb.toNat) ∧
  (p.pair = true → ¬ (p.unit.opp = p.base ∧ n = p.rb.toNat))

/-- The base register's value. -/
def MultiOp.addr (p : MultiOp) (s : State) : Word := readReg s p.base p.rb 2

/-- The address of element `k`: a base that can be written steps by the size, and another is read anew. -/
def MultiOp.addrOf (p : MultiOp) (s : State) (k : Nat) : Word :=
  p.addr (later s k) + if regPresent s p.base p.rb = true then BitVec.ofNat 32 (k * p.size.bytes) else 0#32

/-- Element `k` goes ahead: its access is aligned and does not fail synchronously. -/
def MultiOp.reaches (p : MultiOp) (s : State) (slot k : Nat) : Prop :=
  aligned (p.addrOf s k) p.size = true ∧
    ((later s k).target slot (p.addrOf s k) ≠ none ∨ s.cfg.memErrorMode = .deferred)

/-- The access of an element fails: it finds nothing, or is misaligned. -/
def MultiOp.stops (p : MultiOp) (s : State) (slot : Nat) : Prop :=
  s.cfg.memErrorMode = .sync ∧ (s.target slot (p.addr s) = none ∨ aligned (p.addr s) p.size = false)

/-- Register `n`, or with `pair` it and its partner, gets the data. -/
def MultiOp.loads (p : MultiOp) (s t : State) (n : Nat) (d : DWord) : Prop :=
  if p.pair then PairWrite s t p.unit (BitVec.ofNat 5 n) (BitVec.ofNat 5 n) d
  else GprWrite s t p.unit (BitVec.ofNat 5 n) (d.setWidth 32)

/-- MGET from `s`, with the registers still to load: complete, or ended by an exception that leaves the elements before
it (40_core_gp_a.md R255, 60_exceptions.md R599). -/
inductive MGetRun (p : MultiOp) : Bool → List Nat → State → State → Prop
  | done {s : State} : MGetRun p true [] s (atNext s)
  | load {f : Bool} {n : Nat} {l : List Nat} {s s1 s2 s3 t : State} {d : DWord} :
      Reads s 0 (p.addr s) p.size d s1 → p.loads s1 s2 n d →
      GprWrite s2 s3 p.base p.rb (p.addr s + BitVec.ofNat 32 p.size.bytes) → MGetRun p f l (later s3 1) t →
      MGetRun p f (n :: l) s t
  | fault {n : Nat} {l : List Nat} {s : State} : p.stops s 0 →
      MGetRun p false (n :: l) s (raise (.memoryFault (p.addr s) .read) s)

/-- MSET from `s`, with the registers still to store as they were in `s0` (40_core_gp_a.md R256): of one that the
instruction may not transfer nothing is said. -/
inductive MSetRun (p : MultiOp) (s0 : State) : Bool → List Nat → State → State → Prop
  | done {s : State} : MSetRun p s0 true [] s (atNext s)
  | store {f : Bool} {n : Nat} {l : List Nat} {s s1 s2 t : State} {d : DWord} :
      (p.allows n → regPresent s0 p.unit (BitVec.ofNat 5 n) = true →
        d = (if p.pair then readReg s0 p.unit.opp (BitVec.ofNat 5 n) 0 else 0#32) ++
          readReg s0 p.unit (BitVec.ofNat 5 n) 0) →
      Writes s 1 (p.addr s) d p.size s1 →
      GprWrite s1 s2 p.base p.rb (p.addr s + BitVec.ofNat 32 p.size.bytes) → MSetRun p s0 f l (later s2 1) t →
      MSetRun p s0 f (n :: l) s t
  | fault {n : Nat} {l : List Nat} {s : State} : p.stops s 1 →
      MSetRun p s0 false (n :: l) s (raise (.memoryFault (p.addr s) .write) s)

/-- MMOV to a read address port from `s`, with as many issues still to come as the list is long
(42_extended_gp_a.md R344). -/
inductive IssueRun (p : MultiOp) : Bool → List Nat → State → State → Prop
  | done {s : State} : IssueRun p true [] s (atNext s)
  | issue {f : Bool} {n : Nat} {l : List Nat} {s s1 s2 t : State} : Issued s s1 p.first (p.addr s) p.size →
      GprWrite s1 s2 p.base p.rb (p.addr s + BitVec.ofNat 32 p.size.bytes) → IssueRun p f l (later s2 1) t →
      IssueRun p f (n :: l) s t
  | fault {n : Nat} {l : List Nat} {s : State} : isReadPort p.first = true → p.stops s 3 →
      IssueRun p false (n :: l) s (raise (.memoryFault (p.addr s) .read) s)

/-- MMOV from RD from `s`, with the registers still to load (42_extended_gp_a.md R343): one that a list may not hold is
left with some value, and a number above 31 names none. -/
inductive DrainRun (p : MultiOp) : Bool → List Nat → State → State → Prop
  | done {s : State} : DrainRun p true [] s (atNext s)
  | load {f : Bool} {n : Nat} {l : List Nat} {s s1 s2 t : State} {e d : DWord} : Popped s s1 e → p.loads s1 s2 n d →
      ((if p.unit.isData then n < 16 else n < 8) → d = e) → n < 32 → DrainRun p f l (later s2 1) t →
      DrainRun p f (n :: l) s t
  | beyond {f : Bool} {n : Nat} {l : List Nat} {s s1 t : State} {e : DWord} : Popped s s1 e → 32 ≤ n →
      DrainRun p f l (later s1 1) t → DrainRun p f (n :: l) s t
  | underflow {n : Nat} {l : List Nat} {s : State} : s.th.rdq = [] →
      DrainRun p false (n :: l) s (raise .readPipelineUnderflow s)

/-! ## Repeating instructions, coprocessors, caches -/

/-- The end of one iteration (46_long_gp_a.md R463). -/
def repeated (s : State) : State :=
  if s.ctCell .txrpt = 0#32 then atNext s else s.setCtCell .txrpt (s.ctCell .txrpt - 1#32)

/-- The base register of an address is updated if asked. -/
def BaseOnly (s t : State) (e : AddrForm) (x : Word) : Prop :=
  if e.ua then GprWrite s t e.unit e.rb x else t = s

/-- A write to a coprocessor port (10_state.md R80), if it is implemented (entry 23). -/
def delivered (s : State) (port : BitVec 3) (d : DWord) : State :=
  if s.cfg.coproPorts.getLsbD port.toNat = true then { s with emitted := .cpWrite s.th.tid port d :: s.emitted } else s

/-- The address of a cache operation (48_cache_ops.md R530). -/
def cacheAddress (s : State) (bua : BitVec 2) (rb : BitVec 5) (imm : BitVec 6) (scale : Int) : Word :=
  readReg s (baseUnit bua) rb 2 + BitVec.ofInt 32 (imm.toInt * scale)

/-- `(p, f) = AddrTrans(a)` (48_cache_ops.md R532), both of the translation now or both of an older one (20_memory.md
R139): of a reserved selector, of a line without translation and of the flags of the identity nothing is said. -/
def AddrTrans (s : State) (a p f : Word) : Prop :=
  let l := a &&& 0xFFFFFFC0#32
  a.extractLsb' 4 2 = 0#2 → a.extractLsb' 0 3 = 0#3 →
    ∃ table, (table = s.xlat ∨ ∃ o ∈ s.xlatOlds, l ∉ o.flushed ∧ table = o.table) ∧
      (∀ pa, lookupXlat table s.th.tid l = some pa → p = pa) ∧
      ∀ e, table.find? (fun e => e.covers s.th.tid l) = some e → e.phys ≠ none →
        f = if a.getLsbD 3 then e.codeFlags else e.dataFlags

/-- A flush command for the line of `a` has been emitted (48_cache_ops.md R534, R535, R538), and of what older contents
and translations may still be seen, some has gone and nothing has come. -/
structure Flushed (s t : State) (kind : FlushKind) (a : Word) (sz : Option Size) : Prop where
  told : t.emitted = .flush s.th.tid kind a sz :: s.emitted
  code : t.icOld.Sublist s.icOld
  data : t.dcOld.Sublist s.dcOld
  xlats : t.xlatOlds.map OldXlat.table = s.xlatOlds.map OldXlat.table
  rest : t = { atNext s with icOld := t.icOld, dcOld := t.dcOld, xlatOlds := t.xlatOlds, emitted := t.emitted }

/-- The older translations of a line have gone and those of other lines have stayed (20_memory.md R139): the line is
flushed in each, and every access to it uses the translation as it is now. -/
structure TlbFlushed (s t : State) (l : Word) : Prop where
  ended : t.xlatOlds = s.xlatOlds.map fun o => { o with flushed := l :: o.flushed }
  now : ∀ slot b, line b = l → t.translate slot b = lookupXlat s.xlat s.th.tid b

/-- A prefetch command has been emitted and the pending prefetch set (48_cache_ops.md R536, R537, 10_state.md R81). -/
def prefetched (s : State) (a : Word) (count : BitVec 4) (pri : Bool) (p : Option PendingPrefetch) : State :=
  { s with
    th := { s.th with pc := s.th.pc + 4#32, icachePending := p }
    emitted := .prefetch s.th.tid a count pri :: s.emitted }

/-! ## Exceptions, levels, locks, steps -/

/-- The thread halts with the exception recorded (60_exceptions.md R572). -/
def haltedBy (s : State) (k : ExcKind) : State :=
  { s with th := { s.th with linkFlag := false, lastException := some k, runState := .halted } }

/-- The thread enters the interrupt level (60_exceptions.md R586). -/
def enteredBy (s : State) (k : Option ExcKind) : State :=
  { s with th := { s.th with
    pc := s.th.pcx, pcx := s.th.pc, istat := true, linkFlag := false, runState := .running, lastException := k } }

/-- The owner of a lock after thread `t` has released it. -/
def freed (owner : Option Nat) (t : Nat) : Option Nat := if owner = some t then none else owner

/-- A lock is free or held by thread `t`. -/
def free (owner : Option Nat) (t : Nat) : Prop := owner = none ∨ owner = some t

/-- What a step adds around an instruction: nothing is left of what was to happen during it, and the counter of the free
values advances. -/
def afterStep (s : State) : State := { s with mid := [], tick := s.tick + 1 }

/-- The thread that has the turn may run, the environment's script is at an end, no access of an earlier instruction is
still to come, and the next instruction is at an aligned address. -/
def Ready (s : State) : Prop :=
  s.env = [] ∧ s.th.todo = [] ∧ s.th.runState ≠ .halted ∧ (∀ t, s.globOwner = some t → t = s.th.tid) ∧
    s.th.pc.toNat % 4 = 0

/-- The thread with a number changes. -/
def changed (s : State) (tid : Nat) (f : Thread → Thread) : State :=
  if s.th.tid = tid then { s with th := f s.th }
  else { s with others := s.others.map fun t => if t.tid = tid then f t else t }

/-- Trigger `b` of a level becomes active (60_exceptions.md R589). -/
def triggered (level : Bool) (b : BitVec 4) (t : Thread) : Thread :=
  if level then { t with trig1 := t.trig1 ||| (1#16 <<< b.toNat) } else { t with trig0 := t.trig0 ||| (1#16 <<< b.toNat) }

/-- A deferred error report (60_exceptions.md R592, R608): bits 31:16 of the deferred state of a level, and the deferred
trigger of the level. -/
def reportedTo (defrBit : BitVec 4) (level : Bool) (v : BitVec 16) (t : Thread) : Thread :=
  triggered level defrBit
    (if level then { t with txdefr1 := v ++ t.txdefr1.setWidth 16 } else { t with txdefr0 := v ++ t.txdefr0.setWidth 16 })

/-- A byte is written from outside the core (20_memory.md R120): every monitor sees it (R130). -/
structure WrittenFromOutside (s t : State) (a : Word) (v : Byte) : Prop where
  byte : t.mem.get a.toNat = v
  kept : ∀ b, b ≠ a.toNat → t.mem.get b = s.mem.get b
  rest : t = { s with
    th := monitored a 1 s.th, others := s.others.map (monitored a 1)
    mem := t.mem, icOld := t.icOld, dcOld := t.dcOld }

/-- Another thread as every instruction of this thread leaves it: all but what its link monitor has seen. -/
def SameThread (t u : Thread) : Prop := u = { t with linkHit := u.linkHit } ∧ (t.linkHit = true → u.linkHit = true)

end Sys2Proof.Claims

section Statements

open Sys2Proof Sys2Proof.Machine Sys2Proof.Claims

/-- The sixteen condition codes. For every value of the flags, each of the sixteen codes holds exactly when the table of
R181 says, C being a borrow. -/
def Obligations.ConditionCodes : Prop :=
  ∀ f : Flags,
    (cond f 0#4 = true) ∧ (cond f 1#4 = true ↔ f.z = true) ∧ (cond f 2#4 = true ↔ f.z = false) ∧
    (cond f 3#4 = true ↔ f.c = true) ∧ (cond f 4#4 = true ↔ f.c = false) ∧ (cond f 5#4 = true ↔ f.n = true) ∧
    (cond f 6#4 = true ↔ f.n = false) ∧ (cond f 7#4 = true ↔ f.v = true) ∧ (cond f 8#4 = true ↔ f.v = false) ∧
    (cond f 9#4 = true ↔ f.c = false ∧ f.z = false) ∧ (cond f 10#4 = true ↔ f.c = true ∨ f.z = true) ∧
    (cond f 11#4 = true ↔ f.n = f.v) ∧ (cond f 12#4 = true ↔ f.n ≠ f.v) ∧
    (cond f 13#4 = true ↔ f.z = false ∧ f.n = f.v) ∧ (cond f 14#4 = true ↔ f.z = true ∨ f.n ≠ f.v) ∧
    cond f 15#4 = false

/-- The 16-bit immediate with H, SE and M, but for H = SE = 1. The operand is the field zero-extended, sign-extended
with SE, in the top half with H; with M the other half is filled with ones. With H = SE = 1 (and then with M = 0, or
with M = 1 by the model's own choice, entry 45) nothing is said: the value is unspecified. -/
def Obligations.ImmediateOperands : Prop :=
  ∀ (s : State) (k : BitVec 16) (se : Bool),
    (imm16 s k false false).toNat = k.toNat ∧ (imm16 s k true false).toInt = k.toInt ∧
    (imm16 s k false true).toNat = k.toNat * 2 ^ 16 ∧
    (∀ h, immM s k false se h = imm16 s k se h) ∧
    immM s k true se false = 0xFFFF0000#32 ||| k.setWidth 32 ∧
    immM s k true false true = (k.setWidth 32 <<< 16) ||| 0xFFFF#32

/-- A register list holds the first register and those its mask names, in ascending order. The list of a first register
and a 7-bit mask holds the first register r0 and r0 + i + 1 for every bit i that is set, in strictly ascending order
and nothing else. -/
def Obligations.RegisterLists : Prop :=
  ∀ (first : BitVec 5) (mask : BitVec 7),
    (regList first mask).Pairwise (· < ·) ∧
    ∀ n, n ∈ regList first mask ↔ n = first.toNat ∨ ∃ i < 7, mask.getLsbD i = true ∧ n = first.toNat + i + 1

/-- ADD, SUB, AND, OR, XOR, MOV and NEG of the data units: result, flags, destination and frame in every form. Every
register, immediate and operand 2 replace form, conditional or not, with a destination in the same unit or in any
unit, reads its operands (RD is consumed whatever the condition, and underflows when the pipeline is empty), and if
its condition holds sets the flags when S asks for it, writes the result and advances the pc; nothing else changes.
A destination that is a read address port waits or faults as the port does. That a destination CP.0 to CP.7 of unit
6 is left alone is the model's choice (entry 24). -/
def Obligations.DataUnitOperations : Prop :=
  ∀ s i p, DataForm s i p ∨ DataUnitForm i p → DataEffect i s p

/-- ADD, SUB, MOV and NEG of the address units in every form: no flags. Every address unit form, with CPC for the
address of the instruction itself, gives its result to its destination, sets no flag and changes nothing else. That
a destination CP.0 to CP.7 of unit 6 is left alone is the model's choice (entry 24). -/
def Obligations.AddressUnitOperations : Prop :=
  ∀ s i p, AddrUnitOpForm s i p ∨ AddrToUnitForm i p → DataEffect i s p

/-- LSL, LSR, ASL and ASR in every form: result, carry and frame. The count is the low five bits of the second operand;
the result is the product or quotient by that power of two; with S the flags Z and N are those of the result and C
is the last bit shifted out, 0 where none is; nothing is said of V. That a destination CP.0 to CP.7 of unit 6 is
left alone is the model's choice (entry 24). -/
def Obligations.Shifts : Prop :=
  ∀ s i p, ShiftForm i p ∨ ShiftUnitForm i p → DataEffect i s p

/-- MULW and MULD in every form; a unit field that names no data or address unit leaves the destination unspecified.
MULW gives the product of the low halves, MULD the low 32 bits of the product; no flag changes. In the forms with a
unit field a code other than those of D0, D1, A0 and A1 leaves the named register with an unspecified value, and
nothing else changes; that the unspecified write of a read address port is the issue of some address, or none, is
the model's choice (entry 39). So is it that the unspecified write of a register of another unit has the effects of
any write of it: TTREC appends a record, a control register emits its event (entry 67). -/
def Obligations.Multiplies : Prop :=
  ∀ s i p, (MulForm s i p → DataEffect i s p) ∧
    (MulUnitForm i p → (1 ≤ p.ud.toNat ∧ p.ud.toNat ≤ 4 → DataEffect i s p) ∧
      (¬ (1 ≤ p.ud.toNat ∧ p.ud.toNat ≤ 4) → p.cc = 0#4 ∧ FreeEffect i s p))

/-- ABS, MAX and MIN: the value, and the flags of a comparison. ABS gives the absolute value (0x80000000 of itself) and
the flags of a comparison with 0x80000000; MAX and MIN give the larger and the smaller signed value and the flags of
the comparison of their operands. -/
def Obligations.AbsMaxMin : Prop :=
  ∀ s i p, ExtForm s i p → DataEffect i s p

/-- FFB, NORM and NMIN. FFB gives the number of the most significant bit that differs from the sign bit, and all ones
when none does; NORM gives 30 less that number; NMIN the smaller of it and the second operand, signed. Of NORM and
NMIN of 0 and of all ones nothing is said. All three set the flags of a comparison of the source with 0. -/
def Obligations.FirstBit : Prop :=
  ∀ (s : State) (du : Bool) (rd rs : BitVec 5),
    let u := dataUnit du
    let a := readReg s u rs 0
    ∃ f, SubFlags a 0#32 f ∧
      let s1 : State := { s with th := { s.th with pc := s.th.pc + 4#32, flags := f } }
      (∃ r t, exec (.ffbRR du rd rs) s = .next t ∧ GprWrite s1 t u rd r ∧
        ((a = 0#32 ∨ a = 0xFFFFFFFF#32) → r = 0xFFFFFFFF#32) ∧
        (∀ k < 31, a.getLsbD k ≠ a.getLsbD 31 → (∀ j < 31, k < j → a.getLsbD j = a.getLsbD 31) → r.toNat = k)) ∧
      (∃ r t, exec (.normRR du rd rs) s = .next t ∧ GprWrite s1 t u rd r ∧
        (∀ k < 31, a.getLsbD k ≠ a.getLsbD 31 → (∀ j < 31, k < j → a.getLsbD j = a.getLsbD 31) →
          r.toNat = 30 - k)) ∧
      (∀ rs2, ∃ r t, exec (.nminRR du rd rs rs2) s = .next t ∧ GprWrite s1 t u rd r ∧
        (∀ k < 31, a.getLsbD k ≠ a.getLsbD 31 → (∀ j < 31, k < j → a.getLsbD j = a.getLsbD 31) →
          r.toInt = min (30 - k : Int) (readReg s u rs2 1).toInt))

/-- MORT and VPACK, and what a core without them does. On a core that has them MORT interleaves the low halves (even
bits from the first operand) and VPACK joins them (low half from the first operand), with the flags of a comparison
of the operands, and an operand that is RD is consumed. On a core without them each is an unknown instruction. -/
def Obligations.MortAndVpack : Prop :=
  (∀ s i p, PackForm i p → (s.cfg.hasMortVpack = true → DataEffect i s p) ∧
      (s.cfg.hasMortVpack = false →
        exec i s = .next (raise (.unknownInstruction (BitVec.ofNat 32 (encode i))) s))) ∧
    ∀ (a b : Word), ∀ k < 16, (duMort a b).getLsbD (2 * k) = a.getLsbD k ∧
      (duMort a b).getLsbD (2 * k + 1) = b.getLsbD k

/-- XSD, RTDW, BEXD and BEXL. Sign extension of a byte and of a half, exchange of the halves, reversal of the four bytes
in one unit and in both units at once; with S the flags Z and N are those of the result (of the one written to the
partner unit for BEXL, decision D34) and nothing is said of C and V. -/
def Obligations.ExtendAndExchange : Prop :=
  (∀ s i p, ShuffleForm i p → DataEffect i s p) ∧
    ∀ (s : State) (rd rs : BitVec 5) (sf du : Bool),
      let u := dataUnit du
      let a := bytesReversed (readReg s u rs 0)
      let b := bytesReversed (readReg s u.opp rs 1)
      ∃ f t, exec (.bexl rd rs sf du) s = .next t ∧
        (if sf then LogicFlags b f else f = s.th.flags) ∧
        PairWrite { s with th := { s.th with pc := s.th.pc + 4#32, flags := f } } t u rd rd (b ++ a)

/-- CMP and TST in every form change the flags and nothing else. CMP sets the flags of the subtraction and TST Z and N
of the bitwise AND (nothing is said of its C and V), if the condition holds; an operand that is RD is consumed
whatever the condition, and underflows when the pipeline is empty. -/
def Obligations.Comparisons : Prop :=
  ∀ s i p, CmpForm s i p → CmpEffect i s p

/-- NOP is one word and only advances the pc. The word 0xA0FFFFFE is NOP, and NOP advances the pc by 4 and changes
nothing else. -/
def Obligations.NopAdvancesPc : Prop :=
  encode .nop = 0xA0FFFFFE ∧ decode 0xA0FFFFFE = some .nop ∧ ∀ s, exec .nop s = .next (atNext s)

/-- B and BR. The target is four times the signed offset from the branch itself. B goes there; BR goes there while TXRPT
is not 0 and then decrements it, and else goes on. Nothing else changes. -/
def Obligations.Branch : Prop :=
  ∀ (s : State) (off : BitVec 19),
    let target := s.th.pc + BitVec.ofInt 32 (4 * off.toInt)
    let n := s.ctCell .txrpt
    encode (.branch off false) = 0xA0000000 + 32 * off.toNat ∧ encode (.branch off true) = 0xA0000001 + 32 * off.toNat ∧
    exec (.branch off false) s = .next { s with th := { s.th with pc := target } } ∧
    (n = 0#32 → exec (.branch off true) s = .next (atNext s)) ∧
    (n ≠ 0#32 → ∃ t, exec (.branch off true) s = .next t ∧ t.ctCell .txrpt = n - 1#32 ∧ t.th.pc = target ∧
      (∀ r, r ≠ .txrpt → t.ctCell r = s.ctCell r) ∧
      t = { s with th := { s.th with pc := target, ct := t.th.ct } }) ∧
    ∀ cc : BitVec 4,
      (∀ rep, encode (.branchCc off cc rep) = 0xA0000000 + 32 * off.toNat + 2 * cc.toNat + rep.toNat) ∧
      (exec (.branchCc off cc false) s =
        .next { s with th := { s.th with pc := if cond s.th.flags cc then target else s.th.pc + 4#32 } }) ∧
      (n = 0#32 → exec (.branchCc off cc true) s = .next (atNext s)) ∧
      (n ≠ 0#32 → ∃ t, exec (.branchCc off cc true) s = .next t ∧ t.ctCell .txrpt = n - 1#32 ∧
        t.th.pc = (if cond s.th.flags cc then target else s.th.pc + 4#32) ∧
        (∀ r, r ≠ .txrpt → t.ctCell r = s.ctCell r) ∧
        t = { s with th := { s.th with pc := t.th.pc, ct := t.th.ct } })

/-- CALLR, CALL and JUMP: link, target and frame. CALLR and CALL leave the address of the next instruction in the link
register; CALLR goes to four times the signed offset from itself, CALL and JUMP to the base register as it was plus
the unsigned immediate. JUMP leaves its base register. Nothing else changes. -/
def Obligations.CallsAndJumps : Prop :=
  ∀ (s : State) (bu : BitVec 2),
    let u := baseUnit bu
    (∀ (off : BitVec 19) (rr : BitVec 3), ∃ t, exec (.callr off bu rr) s = .next t ∧
      GprWrite { s with th := { s.th with pc := s.th.pc + BitVec.ofInt 32 (4 * off.toInt) } } t u (rr.setWidth 5)
        (s.th.pc + 4#32)) ∧
    (∀ (rs : BitVec 5) (imm : BitVec 16), ∃ t, exec (.call rs imm bu) s = .next t ∧
      GprWrite { s with th := { s.th with pc := readReg s u rs 0 + BitVec.ofNat 32 imm.toNat } } t u rs
        (s.th.pc + 4#32)) ∧
    (∀ (rs : BitVec 5) (imm : BitVec 16), exec (.jump rs imm bu) s =
      .next { s with th := { s.th with pc := readReg s u rs 0 + BitVec.ofNat 32 imm.toNat } })

/-- MOV and MOVcc between any two units, with the special registers on both sides. The source is read whatever the
condition: a status read without an active trigger waits, RD of an empty pipeline underflows. If the condition holds
the value is written to the destination: a register, the pc (a jump), PCX, a control register with its effect, a
read address port, a trigger register, a trace register. Nothing else changes but what the read and the write say.
That a move to CP.0 to CP.7 does nothing is the model's choice (entry 24), and so are the 32-bit coprocessor read of
a move from CP.0 to CP.7 (entries 23 and 56) and a read address port with a source of any unit (entry 58). -/
def Obligations.MovesBetweenUnits : Prop :=
  ∀ (s : State) (rd rs : BitVec 5) (us ud cc : BitVec 4),
    MoveEffect (.movUnit rd rs us ud) s us rs ud rd 0#4 (fun t _ => t) ∧
    MoveEffect (.movUnitCc rd rs us ud cc) s us rs ud rd cc (fun t _ => t)

/-- MOV of an immediate to a control or trace register. The immediate is written to the control register with its
effect, or to the trace register (TTREC appends a record of 32 bits); no flag changes unless TXSTATUS is written. -/
def Obligations.MovesOfImmediates : Prop :=
  ∀ (s : State) (rd : BitVec 5) (imm : BitVec 16) (se h : Bool),
    (∃ t, exec (.movCt rd imm se h) s = .next t ∧ CtWrite (atNext s) t rd (imm16 s imm se h)) ∧
    (∃ t, exec (.movTt rd imm se h) s = .next t ∧ TtWrite (atNext s) t rd (imm16 s imm se h))

/-- TTMOV and MOVL to TTREC. TTMOV is a move that, if its condition holds, also appends a record of 32 bits with the
value after the write; MOVL TTREC appends a record of 64 bits, the first register low, if its condition holds. As of
the moves it is the model's choice that TTMOV leaves a destination CP.0 to CP.7 alone (entry 24), reads 32 bits of
the port of a source CP.0 to CP.7 (entries 23 and 56), and issues an address from a source of any unit (entry 58). -/
def Obligations.TraceMoves : Prop :=
  (∀ (s : State) (rd rs : BitVec 5) (us ud cc : BitVec 4),
      MoveEffect (.ttmov rd rs us ud cc) s us rs ud rd cc (fun t v => traced 32 t (v.setWidth 64))) ∧
    ∀ (s : State) (rs1 rs2 : BitVec 5) (bu : BitVec 2) (cc : BitVec 4),
      let u := baseUnit bu
      exec (.movlTtrec rs1 rs2 bu cc) s = .next (if cond s.th.flags cc then
        traced 64 (atNext s) (readReg s u.opp rs2 1 ++ readReg s u rs1 0) else atNext s)

/-- SWAP and SWAPcc between units that may be exchanged, and what a forbidden combination leaves. Both registers are
read whatever the condition, and if it holds the destination gets the source and then the source the destination.
One unit with itself, and two of PC, CT, TR and TT, are forbidden: both registers are left with unspecified values
if the condition holds. The ports unit is no operand of SWAP and is left out. That a forbidden SWAP reads neither
register, so that a status register it names neither waits nor loses triggers, is the model's choice (entry 35). So
is it that the unspecified writes have the effects that a write of the register has (entry 67). -/
def Obligations.Swaps : Prop :=
  ∀ (s : State) (rd rs : BitVec 5) (us ud cc : BitVec 4), us ≠ 6#4 → ud ≠ 6#4 →
    (¬ SwapForbidden us ud → SwapEffect (.swap rd rs us ud) s us rs ud rd 0#4 ∧
      SwapEffect (.swapCc rd rs us ud cc) s us rs ud rd cc) ∧
    (SwapForbidden us ud →
      (∃ s1 t, exec (.swap rd rs us ud) s = .next t ∧ UnitFree (atNext s) s1 ud rd ∧ UnitFree (later s1 1) t us rs) ∧
      (cond s.th.flags cc = false → exec (.swapCc rd rs us ud cc) s = .next (atNext s)) ∧
      (cond s.th.flags cc = true →
        ∃ s1 t, exec (.swapCc rd rs us ud cc) s = .next t ∧ UnitFree (atNext s) s1 ud rd ∧
          UnitFree (later s1 1) t us rs))

/-- MOV[B|W|D] and MOVL from RD. The oldest entry is consumed whatever the condition; if it holds its low bytes,
zero-extended, are written to any register, or by MOVL its halves to a register and one of the partner unit. With an
empty pipeline the instruction underflows. That a destination CP.0 to CP.7 of unit 6 is left alone is the model's
choice (entry 24). -/
def Obligations.PipelineToRegister : Prop :=
  (∀ s i sz ud rd cc, MovRdForm i sz ud rd cc → RdEffect i s sz ud rd cc) ∧
    ∀ (s : State) (rd1 rd2 : BitVec 5) (bu : BitVec 2) (cc : BitVec 4),
      (s.th.rdq = [] → exec (.movlRd rd1 rd2 bu cc) s = .next (raise .readPipelineUnderflow s)) ∧
      ∀ e s1, Popped s s1 e →
        (cond s.th.flags cc = false → exec (.movlRd rd1 rd2 bu cc) s = .next (atNext s1)) ∧
        (cond s.th.flags cc = true → ∃ t, exec (.movlRd rd1 rd2 bu cc) s = .next t ∧
          PairWrite (atNext s1) t (baseUnit bu) rd1 rd2 e)

/-- KICK: waiting, the count, and the value. With TXSTAT or TXSTATI as the source and no kick the thread waits. Else one
kick, if there is one, is taken, and if the condition holds the destination gets the low 16 bits of the remaining
count and the kick trigger. Of the value with a source that KICK does not describe in the state nothing is said;
that the wait and the count are the same with such a source is the model's choice (entry 29). So is it that a
destination CP.0 to CP.7 of unit 6 is left alone (entry 24). -/
def Obligations.Kick : Prop :=
  ∀ (s : State) (rd rs : BitVec 5) (ud cc : BitVec 4),
    let i := Instr.kick rd rs ud cc
    let s1 : State := { s with th := { s.th with kickCount := s.th.kickCount - 1 } }
    ((rs = 0#5 ∨ rs = 2#5) ∧ s.th.kickCount = 0 → exec i s = .next (blockOn .trigger s)) ∧
    (¬ ((rs = 0#5 ∨ rs = 2#5) ∧ s.th.kickCount = 0) →
      (cond s.th.flags cc = false → exec i s = .next (atNext s1)) ∧
      (cond s.th.flags cc = true → ∃ v, (TriggerSource s rs → KickValue s v) ∧ EndsWith i s (atNext s1) ud rd v))

/-- DEFR: the value, and what it clears. The value has bits 31:16 of the deferred state of the level the source names
and the active triggers of that level; a poll may still see the deferred state from before the latest store. TXSTAT
and TXSTATI clear bits 31:16 of the cell whatever the condition; the destination is written if it holds. Of the
value with a source that DEFR does not describe in the state nothing is said; that TXSTATI clears the cell of the
interrupt level also at the background level is the model's choice (entry 29). So is it that a destination CP.0 to
CP.7 of unit 6 is left alone (entry 24). -/
def Obligations.Defr : Prop :=
  ∀ (s : State) (rd rs : BitVec 5) (ud cc : BitVec 4),
    let i := Instr.defr rd rs ud cc
    (cond s.th.flags cc = false → exec i s = .next (atNext (deferredRead s rs))) ∧
    (cond s.th.flags cc = true → ∃ v, (TriggerSource s rs → DeferredValue s rs v) ∧
      EndsWith i s (atNext (deferredRead s rs)) ud rd v)

/-- GET in every form: address, value, base update, destination and frame. GETB, GETW and GETD read memory or a device
at the address of their expression; the base is updated first, so that the loaded value wins; the value,
zero-extended, goes to any register; a byte or half load into a special unit leaves the register unspecified. GETL
reads 64 bits into a register and one of the partner unit, and leaves a unit without partner unspecified. No byte of
memory changes. The ports unit as destination is another instruction. That a load which leaves a special register
unspecified has the effects of a write of that register is the model's choice (entry 67). -/
def Obligations.Loads : Prop :=
  (∀ s i p, GetForm s i p → p.unit ≠ 6#4 → Accessible s 0 (p.mem.addr s) p.size →
      LoadEnds i s p.size p.mem (GetDest p)) ∧
    (∀ s i p, GetPairForm s i p → p.unit ≠ 6#4 → Accessible s 0 (p.mem.addr s) p.size →
      LoadEnds i s p.size p.mem (GetPairDest p))

/-- SET in every form: address, bytes, base update and frame. SETB, SETW and SETD store the low bytes of any register,
SETL those of a register and one of the partner unit, at the address of their expression, the least significant byte
lowest, and then update the base; every other byte is unchanged. Data and offset register from one unit (SETL: one
kind of unit) store unspecified bytes, and so does a small store of a special unit. A status register without an
active trigger makes the store wait. A failing access raises MemoryFault, or is reported and stores nothing; a
misaligned one may fail, and else leaves at most the two aligned cells it touches unspecified. The link monitor of
another thread sees the write exactly if it touches a byte of its link. That SETL of a unit without partner does not
read it is the model's choice (entry 59). -/
def Obligations.Stores : Prop :=
  (∀ s i p unsaid, SetForm s i p unsaid → p.unit ≠ 6#4 →
      (ReadWaits s p.unit p.reg → exec i s = .next (blockOn .trigger s)) ∧
      (¬ ReadWaits s p.unit p.reg → ∃ v s1 d, UnitRead s s1 p.unit p.reg 0 v ∧
        (¬ unsaid → ¬ SmallSpecial p.size p.unit → d = v.setWidth 64) ∧ StoreEnds i s s1 p.size p.mem d)) ∧
    (∀ s i p unsaid, SetPairForm s i p unsaid → ∃ d : DWord,
      (∀ u : BUnit, p.unit = u.code → ¬ unsaid → d = readReg s u.opp p.reg 1 ++ readReg s u p.reg 0) ∧
      StoreEnds i s s p.size p.mem d)

/-- CPR to memory: a coprocessor read or RD is stored. The data is a coprocessor read of the size, or the oldest entry
of the pipeline, which underflows when there is none; it is stored at the address of the expression and the base is
updated; a misaligned store may fail. Of the data with a port that is neither nothing is said. That the coprocessor
read never blocks, and that a port which is not implemented gives a free value without an event, is the model's
choice (entry 23). -/
def Obligations.CoprocessorToMemory : Prop :=
  ∀ s i p, CprMemForm s i p →
    (p.reg = 16#5 → s.th.rdq = [] → exec i s = .next (raise .readPipelineUnderflow s)) ∧
    (¬ (p.reg = 16#5 ∧ s.th.rdq = []) → ∃ s1 d, PortData s s1 p.reg p.size d ∧ StoreEnds i s s1 p.size p.mem d)

/-- SETcc, SETLcc and CPRcc to memory. The data is read whatever the condition; if it holds the data is stored at the
address in the base register, without update, and a failing access raises MemoryFault, as a misaligned one may; else
only the pc advances. A byte or half store of a special unit is an unknown instruction. Model's choices: a
coprocessor read never blocks, a port that is not implemented and a number from 8 on other than 16 in the wider port
field give a free value (entry 23), and SETLcc of a unit without partner does not read the register it names (entry
59). -/
def Obligations.ConditionalStores : Prop :=
  (∀ s i p, SetCcForm i p → p.us ≠ 6#4 →
      (SmallSpecial p.size p.us → exec i s = .next (raise (.unknownInstruction (BitVec.ofNat 32 (encode i))) s)) ∧
      (¬ SmallSpecial p.size p.us →
        (ReadWaits s p.us p.rs → exec i s = .next (blockOn .trigger s)) ∧
        (¬ ReadWaits s p.us p.rs → ∃ v s1, UnitRead s s1 p.us p.rs 0 v ∧ CcStoreEnds i s s1 p (v.setWidth 64)))) ∧
    (∀ (s : State) (rs rb : BitVec 5) (us : BitVec 4) (bu : BitVec 2) (cc : BitVec 4), ∃ d : DWord,
      (∀ u : BUnit, us = u.code → d = readReg s u.opp rs 1 ++ readReg s u rs 0) ∧
      CcStoreEnds (.setlCc rs rb us bu cc) s s ⟨.l, baseUnit bu, rb, us, rs, cc⟩ d) ∧
    (∀ s i p, CprMemCcForm i p →
      (p.rs = 16#5 → s.th.rdq = [] → exec i s = .next (raise .readPipelineUnderflow s)) ∧
      (¬ (p.rs = 16#5 ∧ s.th.rdq = []) → ∃ s1 d, PortData s s1 p.rs p.size d ∧ CcStoreEnds i s s1 p d))

/-- A load without translation or from an unmapped region raises MemoryFault. With synchronous failures a GET or LNKGET
whose aligned address has no translation, or lies in an unmapped region, raises MemoryFault for that address and has
no other effect. -/
def Obligations.LoadFaults : Prop :=
  (∀ s i p, (GetForm s i p ∨ GetPairForm s i p) → Faults s 0 (p.mem.addr s) p.size →
      exec i s = .next (raise (.memoryFault (p.mem.addr s) .read) s)) ∧
    (∀ s i sz a u rd, LnkGetForm s i sz a u rd → Faults s 0 a sz → exec i s = .next (raise (.memoryFault a .read) s)) ∧
    (∀ (s : State) (rd rb : BitVec 5) (bua bur : BitVec 2), Faults s 0 (readReg s (baseUnit bua) rb 2) .l →
      exec (.lnkgetl rd rb bua bur) s = .next (raise (.memoryFault (readReg s (baseUnit bua) rb 2) .read) s))

/-- A misaligned access faults, or gives an unspecified value or unspecified bytes in the two aligned cells. A
misaligned GET, LNKGET, SET (of a status register too, which first waits for a trigger), conditional store whose
condition holds, CPR to memory or issue either raises MemoryFault for its address, or completes as an aligned one
does, with the pc advanced and the base updated, but with an unspecified value loaded or unspecified bytes stored: a
load changes no byte of memory, a store at most the bytes of the two aligned cells of its size that it touches. The
multi-register, repeating and linked stores say the same in their own statements. That SETL and SETLcc of a unit
without partner do not read the register they name is the model's choice (entry 59), and so is what a coprocessor
read does of a port that is not implemented, and that it never blocks (entry 23). That a load which leaves a special
register unspecified has the effects of a write of that register is the model's choice (entry 67). -/
def Obligations.MisalignedAccesses : Prop :=
  (∀ s i p, GetForm s i p → p.unit ≠ 6#4 → Misaligned s (p.mem.addr s) p.size →
      RaisesFault i s (p.mem.addr s) .read ∨ LoadEnds i s p.size p.mem (GetDest p)) ∧
    (∀ s i p, GetPairForm s i p → p.unit ≠ 6#4 → Misaligned s (p.mem.addr s) p.size →
      RaisesFault i s (p.mem.addr s) .read ∨ LoadEnds i s p.size p.mem (GetPairDest p)) ∧
    (∀ s i sz a u rd, LnkGetForm s i sz a u rd → Misaligned s a sz → RaisesFault i s a .read ∨
      LinkedLoadEnds i s sz a fun v s2 t => GprWrite s2 t u rd (v.setWidth 32)) ∧
    (∀ (s : State) (rd rb : BitVec 5) (bua bur : BitVec 2),
      let a := readReg s (baseUnit bua) rb 2
      Misaligned s a .l → RaisesFault (.lnkgetl rd rb bua bur) s a .read ∨
        LinkedLoadEnds (.lnkgetl rd rb bua bur) s .l a fun v s2 t => PairWrite s2 t (baseUnit bur) rd rd v) ∧
    (∀ s i p unsaid, SetForm s i p unsaid → p.unit ≠ 6#4 → ¬ ReadWaits s p.unit p.reg →
      Misaligned s (p.mem.addr s) p.size → RaisesFault i s (p.mem.addr s) .write ∨
        ∃ v s1 d, UnitRead s s1 p.unit p.reg 0 v ∧ StoreDone i s s1 p.size p.mem d) ∧
    (∀ s i p unsaid, SetPairForm s i p unsaid → Misaligned s (p.mem.addr s) p.size →
      RaisesFault i s (p.mem.addr s) .write ∨ ∃ d, StoreDone i s s p.size p.mem d) ∧
    (∀ s i p, CprMemForm s i p → ¬ (p.reg = 16#5 ∧ s.th.rdq = []) → Misaligned s (p.mem.addr s) p.size →
      RaisesFault i s (p.mem.addr s) .write ∨
        ∃ s1 d, PortData s s1 p.reg p.size d ∧ StoreDone i s s1 p.size p.mem d) ∧
    (∀ s i p, IssueForm s i p → isReadPort p.reg = true → ¬ WriteWaits s 6#4 p.reg →
      Misaligned s (p.mem.addr s) p.size → RaisesFault i s (p.mem.addr s) .read ∨ IssueEnds i s p) ∧
    (∀ (s : State) i p, SetCcForm i p → p.us ≠ 6#4 → ¬ SmallSpecial p.size p.us → ¬ ReadWaits s p.us p.rs →
      cond s.th.flags p.cc = true → Misaligned s (readReg s p.baseUnit p.rb 2) p.size →
      RaisesFault i s (readReg s p.baseUnit p.rb 2) .write ∨
        ∃ v s1 d, UnitRead s s1 p.us p.rs 0 v ∧ CcStoreDone i s s1 p d) ∧
    (∀ (s : State) (rs rb : BitVec 5) (us : BitVec 4) (bu : BitVec 2) (cc : BitVec 4),
      let a := readReg s (baseUnit bu) rb 2
      cond s.th.flags cc = true → Misaligned s a .l → RaisesFault (.setlCc rs rb us bu cc) s a .write ∨
        ∃ d, CcStoreDone (.setlCc rs rb us bu cc) s s ⟨.l, baseUnit bu, rb, us, rs, cc⟩ d) ∧
    (∀ (s : State) i p, CprMemCcForm i p → ¬ (p.rs = 16#5 ∧ s.th.rdq = []) → cond s.th.flags p.cc = true →
      Misaligned s (readReg s p.baseUnit p.rb 2) p.size →
      RaisesFault i s (readReg s p.baseUnit p.rb 2) .write ∨
        ∃ s1 d, PortData s s1 p.rs p.size d ∧ CcStoreDone i s s1 p d)

/-- MOV of a memory operand to a read address port. If the pipeline has room the data is read, the entry that the port
makes of it is appended, and the base is updated; a full pipeline makes the thread wait; a failing read raises
MemoryFault. A number that is no read address port issues nothing; that CP.0 to CP.7 are such numbers is the model's
choice (entry 24). -/
def Obligations.ReadIssues : Prop :=
  ∀ s i p, IssueForm s i p →
    (Issuable s p.reg (p.mem.addr s) p.size → IssueEnds i s p) ∧
    (WriteWaits s 6#4 p.reg → exec i s = .next (blockOn .pipelineFull s)) ∧
    (isReadPort p.reg = true → ¬ WriteWaits s 6#4 p.reg → Faults s 3 (p.mem.addr s) p.size →
      exec i s = .next (raise (.memoryFault (p.mem.addr s) .read) s))

/-- MGET loads its registers in ascending order; a fault keeps the elements before it. For a list the instruction may
hold, MGET runs the elements in order, each loading a register (with L a pair) and stepping the base, and ends at
the next instruction, or with MemoryFault at the first element that fails, with the earlier elements kept; a
misaligned element may fail, and else loads an unspecified value. With another list no byte of memory and no
register but the listed ones, their partners and the base changes; that its addresses step from the value the base
had is the model's choice (entry 34). That a long list whose base is in a unit of the list's kind, but not in the
list, runs as written is the model's choice (entry 60). -/
def Obligations.MultipleLoads : Prop :=
  ∀ s i p, MGetForm i p → Quiet s →
    ((∀ n ∈ p.list, p.allows n) →
      ∃ f t, exec i s = .next t ∧ MGetRun p f p.list s t ∧ SameBytes s t ∧
        ((∀ k < p.list.length, p.reaches s 0 k) → f = true)) ∧
    ((∃ n ∈ p.list, ¬ p.allows n) →
      ∃ t, exec i s = .next t ∧ SameBytes s t ∧ t.th.flags = s.th.flags ∧
        (∀ u r k, regPresent s u r = true → ¬ (r.toNat ∈ p.list ∧ (u = p.unit ∨ p.pair = true ∧ u = p.unit.opp)) →
          ¬ (u = p.base ∧ r = p.rb) → readReg t u r k = readReg s u r k) ∧
        (aligned (p.addr s) p.size = true →
          (∀ k < p.list.length, (later s k).target 0 (p.addr s + BitVec.ofNat 32 (k * p.size.bytes)) ≠ none ∨
            s.cfg.memErrorMode = .deferred) → t.th.pc = s.th.pc + 4#32))

/-- MSET stores its registers in ascending order; a fault keeps the elements before it; every other byte is kept. MSET
runs the elements in order, each storing a register (with L a pair, the named unit low) as it was before the
instruction and stepping the base, and ends at the next instruction, or with MemoryFault at the first element that
fails; a misaligned element may fail, and else leaves unspecified bytes in the two cells it touches. Every byte
outside the elements is unchanged. That a long list whose base is in a unit of the list's kind, but not in the list,
runs as written is the model's choice (entry 60). -/
def Obligations.MultipleStores : Prop :=
  ∀ s i p, MSetForm i p → s.mem.wf = true → Quiet s →
    ∃ f t, exec i s = .next t ∧ MSetRun p s f p.list s t ∧
      ((∀ k < p.list.length, p.reaches s 1 k) → f = true) ∧
      ((∀ k < p.list.length, aligned (p.addrOf s k) p.size = true) →
        ∀ a, (∀ k < p.list.length, ∀ pa, (later s k).target 1 (p.addrOf s k) = some (.ram pa) →
          ∀ j < p.size.bytes, a ≠ (pa + BitVec.ofNat 32 j).toNat) → t.mem.get a = s.mem.get a)

/-- MMOV to a read address port issues its addresses in order. As many addresses as the mask names and one more are
issued, each stepping the base, if the pipeline has room for all; a failing read raises MemoryFault with the earlier
elements kept, and a misaligned one may. A pipeline that is full makes the thread wait; that one which fills up on
the way makes it wait with nothing done, but for the counter of the free values, is the model's choice (entry 26). -/
def Obligations.MultipleIssues : Prop :=
  ∀ s i p, MMovRaForm i p → Quiet s →
    ((isReadPort p.first = true → s.th.rdq.length < Params.rdFifoDepth s.cfg ∧
        (portReturns s.cfg p.first = true → s.th.rdq.length + p.list.length ≤ Params.rdFifoDepth s.cfg)) →
      ∃ f t, exec i s = .next t ∧ IssueRun p f p.list s t ∧ SameBytes s t ∧
        ((isReadPort p.first = true → ∀ k < p.list.length, p.reaches s 3 k) → f = true)) ∧
    (WriteWaits s 6#4 p.first → exec i s = .next (blockOn .pipelineFull s)) ∧
    (isReadPort p.first = true → portReturns s.cfg p.first = true →
      Params.rdFifoDepth s.cfg < s.th.rdq.length + p.list.length → (∀ k < p.list.length, p.reaches s 3 k) →
      exec i s = .next (blockOn .pipelineFull (later s (Params.rdFifoDepth s.cfg - s.th.rdq.length))))

/-- MMOV from RD and MDRD take entries in order; an underflow keeps what was taken. MMOV from RD pops an entry for each
register of the list in ascending order and loads it (with L a pair); MDRD pops as many entries as its mask names
and one more. If the pipeline runs empty the instruction underflows, with the entries before popped and their
registers loaded. -/
def Obligations.MultipleDrains : Prop :=
  (∀ s i p, MMovRdForm i p → s.th.todo = [] →
      ∃ f t, exec i s = .next t ∧ DrainRun p f p.list s t ∧ SameBytes s t ∧
        (p.list.length ≤ s.th.rdq.length → f = true)) ∧
    ∀ (s : State) (mask : BitVec 7), s.th.todo = [] →
      let n := (regList 0#5 mask).length
      (n ≤ s.th.rdq.length →
        exec (.mdrd mask) s = .next (atNext { later s n with th := { s.th with rdq := s.th.rdq.drop n } })) ∧
      (s.th.rdq.length < n →
        exec (.mdrd mask) s = .next (raise .readPipelineUnderflow
          { later s s.th.rdq.length with th := { s.th with rdq := [] } }))

/-- LNKGET loads a value and records the access. The value at the address in the base register goes to the register
(LNKGETL: to it and its partner); the link flag is set and the address, its place and the size are recorded. No byte
of memory changes. -/
def Obligations.LinkedLoads : Prop :=
  (∀ s i sz a u rd, LnkGetForm s i sz a u rd → Accessible s 0 a sz →
      LinkedLoadEnds i s sz a fun v s2 t => GprWrite s2 t u rd (v.setWidth 32)) ∧
    ∀ (s : State) (rd rb : BitVec 5) (bua bur : BitVec 2),
      let a := readReg s (baseUnit bua) rb 2
      Accessible s 0 a .l →
        LinkedLoadEnds (.lnkgetl rd rb bua bur) s .l a fun v s2 t => PairWrite s2 t (baseUnit bur) rd rd v

/-- LNKSET stores only while the link holds, reports it, and clears the link flag. The link flag is cleared whatever the
condition. If the condition holds, either the store is performed, which needs the link flag and no write of another
agent since the LNKGET, and 2 is reported in the deferred state of the level in use, or no byte changes and another
value is reported. A misaligned one may be reported as not performed, or leaves unspecified bytes in the two cells
it touches. Model's choices: LNKSETL of a unit without partner does not read the register it names (entry 59), and
LNKSET from CP.0 to CP.7 of unit 6 reads 32 bits of the port (entries 23 and 56). -/
def Obligations.LinkedStores : Prop :=
  (∀ s i p, LnkSetForm i p →
      (ReadWaits s p.us p.rs → exec i s = .next (blockOn .trigger s)) ∧
      (ReadUnderflows s p.us p.rs → exec i s = .next (raise .readPipelineUnderflow s)) ∧
      (CanRead s p.us p.rs → ∃ v s1, UnitRead s s1 p.us p.rs 0 v ∧ LinkedStoreEnds i s s1 p (v.setWidth 64))) ∧
    ∀ (s : State) (rs rb : BitVec 5) (us : BitVec 4) (bu : BitVec 2) (cc : BitVec 4), ∃ d : DWord,
      (∀ u : BUnit, us = u.code → d = readReg s u.opp rs 1 ++ readReg s u rs 0) ∧
      LinkedStoreEnds (.lnksetl rs rb us bu cc) s s ⟨.l, baseUnit bu, rb, us, rs, cc⟩ d

/-- CPR into a register and CPRL into a pair. The port is read whatever the condition; if it holds the value,
zero-extended, is written to the register, or to a register and one of the partner unit. A byte or half read into
PC, CT, TR, TT or the ports is an unknown instruction; into a code that names no unit the value goes nowhere
(decision D7). That the read never blocks, and what a port that is not implemented does, is the model's choice
(entry 23), and so is it that CPR into CP.0 to CP.7 of unit 6 writes nothing (entry 24). -/
def Obligations.CoprocessorReads : Prop :=
  (∀ s i sz cp ud rd cc, CprUnitForm i sz cp ud rd cc →
      (sz ≠ .d ∧ (SpecialUnit ud ∨ ud = 6#4) →
        exec i s = .next (raise (.unknownInstruction (BitVec.ofNat 32 (encode i))) s)) ∧
      (¬ (sz ≠ .d ∧ (SpecialUnit ud ∨ ud = 6#4)) → ∃ d s1, CoproRead s s1 cp sz d ∧
        (cond s.th.flags cc = false → exec i s = .next (atNext s1)) ∧
        (cond s.th.flags cc = true → EndsWith i s (atNext s1) ud rd (d.extractLsb' 0 32)))) ∧
    ∀ (s : State) (rd1 : BitVec 5) (cp : BitVec 3) (rd2 : BitVec 5) (bu : BitVec 2) (cc : BitVec 4),
      ∃ d s1, CoproRead s s1 cp .l d ∧
        (cond s.th.flags cc = false → exec (.cprlPair rd1 cp rd2 bu cc) s = .next (atNext s1)) ∧
        (cond s.th.flags cc = true → ∃ t, exec (.cprlPair rd1 cp rd2 bu cc) s = .next t ∧
          PairWrite (atNext s1) t (baseUnit bu) rd1 rd2 d)

/-- One iteration of CPRR. The base is updated if asked, the port is read, the value is stored at the address, and TXRPT
is decremented with the pc kept, or, at 0, the pc advances. A failing store raises MemoryFault and leaves nothing of
the iteration; a misaligned one may. That the port read never blocks, and what a port that is not implemented gives,
is the model's choice (entry 23). -/
def Obligations.CoprocessorReadRepeat : Prop :=
  ∀ s i sz cp e, CprRepForm s i sz cp e →
    let done := ∃ s0 d s1 s2, BaseOnly s s0 e (e.base s + e.offset) ∧ CoproRead s0 s1 cp sz d ∧
      Writes s1 1 (e.addr s) d sz s2 ∧ exec i s = .next (repeated s2)
    (s.mem.wf = true → Accessible s 1 (e.addr s) sz → done) ∧
    (Faults s 1 (e.addr s) sz → exec i s = .next (raise (.memoryFault (e.addr s) .write) s)) ∧
    (Misaligned s (e.addr s) sz → RaisesFault i s (e.addr s) .write ∨ done)

/-- CPWL from registers and CPXL. CPWL delivers a register and one of the partner unit, or a register and a
zero-extended immediate, the first low; CPXL reads 64 bits from one port and delivers them to another, once or, with
R, as one iteration of the repeat. That a write to a port which is not implemented does nothing, and that the read
of CPXL never blocks, is the model's choice (entry 23). -/
def Obligations.CoprocessorWrites : Prop :=
  (∀ (s : State) (bu : BitVec 2) (cp : BitVec 3) (rs1 rs2 : BitVec 5),
      exec (.cpwlRR bu cp rs1 rs2) s =
        .next (atNext (delivered s cp (readReg s (baseUnit bu).opp rs2 1 ++ readReg s (baseUnit bu) rs1 0)))) ∧
    (∀ (s : State) (bu : BitVec 2) (cp : BitVec 3) (rs1 : BitVec 5) (imm : BitVec 16),
      exec (.cpwlRI bu cp rs1 imm) s =
        .next (atNext (delivered s cp (imm.setWidth 32 ++ readReg s (baseUnit bu) rs1 0)))) ∧
    ∀ (s : State) (cpd cps : BitVec 3) (rep : Bool), ∃ d s1, CoproRead s s1 cps .l d ∧
      exec (.cpxl cpd cps rep) s = .next (if rep then repeated (delivered s1 cpd d) else atNext (delivered s1 cpd d))

/-- One issue of CPWL from memory. The oldest entry of the pipeline is delivered to the port, the base is updated if
asked, and the 64 bits at the address are read into the pipeline; with R the repeat goes on. An empty pipeline
underflows and a failing read raises MemoryFault, as a misaligned one may, with nothing of the iteration left. That
the delivery to the port never blocks, and does nothing where the port is not implemented, is the model's choice
(entry 23). -/
def Obligations.CoprocessorWriteFromMemory : Prop :=
  ∀ s i cp rep e, CpwlMemForm s i cp rep e →
    (s.th.rdq = [] → exec i s = .next (raise .readPipelineUnderflow s)) ∧
    ∀ d s1, Popped s s1 d → s.th.rdq.length ≤ Params.rdFifoDepth s.cfg →
      let done := ∃ s2 s3, BaseOnly s1 s2 e (e.base s + e.offset) ∧
        Issued (delivered s2 cp d) s3 16#5 (e.addr s) .l ∧
        exec i s = .next (if rep then repeated s3 else atNext s3) ∧ SameBytes s s3
      (Accessible s 3 (e.addr s) .l → done) ∧
      (Faults s 3 (e.addr s) .l → exec i s = .next (raise (.memoryFault (e.addr s) .read) s)) ∧
      (Misaligned s (e.addr s) .l → RaisesFault i s (e.addr s) .read ∨ done)

/-- One iteration of XFR. The oldest entry of the pipeline is stored at the destination address, the data at the source
address is read into the pipeline, both bases are updated if asked, and the repeat goes on. An empty pipeline
underflows and a failing access raises MemoryFault, as a misaligned one may, with nothing of the iteration left. -/
def Obligations.Transfers : Prop :=
  ∀ s i sz dst src, XfrForm s i sz dst src →
    (s.th.rdq = [] → exec i s = .next (raise .readPipelineUnderflow s)) ∧
    ∀ d s1, Popped s s1 d → s.th.rdq.length ≤ Params.rdFifoDepth s.cfg → Quiet s →
      let done := ∃ s2 s3 s4 s5, BaseOnly s1 s2 dst (dst.base s + dst.offset) ∧
        BaseOnly s2 s3 src (src.base s + src.offset) ∧ Writes s3 1 (dst.addr s) d sz s4 ∧
        Issued s4 s5 16#5 (src.addr s) sz ∧ exec i s = .next (repeated s5)
      (s.mem.wf = true → Accessible s 1 (dst.addr s) sz → Accessible s 3 (src.addr s) sz → done) ∧
      (Faults s 1 (dst.addr s) sz → exec i s = .next (raise (.memoryFault (dst.addr s) .write) s)) ∧
      (Accessible s 1 (dst.addr s) sz → Faults s 3 (src.addr s) sz →
        exec i s = .next (raise (.memoryFault (src.addr s) .read) s)) ∧
      (s.mem.wf = true → aligned (dst.addr s) sz = false ∨ aligned (src.addr s) sz = false →
        RaisesFault i s (dst.addr s) .write ∨ RaisesFault i s (src.addr s) .read ∨ done)

/-- CACHERL and CACHERD. The translation of the line of the address goes to the register, with CACHERL the flags of the
side that bit 3 selects to its partner; the offset is scaled by the size. While an older translation has not been
flushed both come from it or both from the one now. Of a reserved selector, a line without translation and the flags
of the identity nothing is said. Nothing else changes. -/
def Obligations.CacheTranslations : Prop :=
  ∀ (s : State) (rd rb : BitVec 5) (imm : BitVec 6) (bua bur : BitVec 2),
    (∃ p f t, exec (.cacherl rd rb imm bua bur) s = .next t ∧ AddrTrans s (cacheAddress s bua rb imm 8) p f ∧
      PairWrite (atNext s) t (baseUnit bur) rd rd (f ++ p)) ∧
    (∃ p f t, exec (.cacherd rd rb imm bua bur) s = .next t ∧ AddrTrans s (cacheAddress s bua rb imm 4) p f ∧
      GprWrite (atNext s) t (baseUnit bur) rd p)

/-- CACHEWL, CACHEWD, DCACHE, ICACHE and ICACHEEXIT emit their commands. The flush commands name the cache and the kind
that bits 0 and 1 of the data say, at the base plus 64 times the offset; DCACHE names the line; with reserved data
bits the kind is unspecified. A flush of the instruction cache ends the older contents that a fetch may see on the
line, one of the data cache those that a data access may see. A TLB flush, which bit 1 asks for, ends the older
translations of the line of the address and no others, so that every access to the line uses the translation as it
is now; a flush without bit 1 and DCACHE end none. The prefetch commands give the line, the count and the priority
and set or clear the pending prefetch. No byte of memory and no register changes. That a TLB flush ends them for
every thread is the model's choice (entry 62), so is the physical line that goes with a line whose translation is
not by whole lines (entry 65), and that bits 0 and 1 together end instruction bytes and translations is read from
R138 and R139 (entry 47). -/
def Obligations.CacheCommands : Prop :=
  ∀ (s : State) (rs rb : BitVec 5) (imm : BitVec 6) (bua bur : BitVec 2),
    let a := cacheAddress s bua rb imm 64
    let d := readReg s (baseUnit bur) rs 0
    (∀ i sz, (i = .cachewl rs rb imm bua bur ∧ sz = .l ∨ i = .cachewd rs rb imm bua bur ∧ sz = .d) →
      ∃ kind t, exec i s = .next t ∧ Flushed s t kind a (some sz) ∧
        (d.extractLsb' 2 6 = 0#6 → kind = .cache (d.getLsbD 0) (d.getLsbD 1) ∧
          (d.getLsbD 1 = true → TlbFlushed s t (line a)) ∧ (d.getLsbD 1 = false → t.xlatOlds = s.xlatOlds) ∧
          ∀ pa, s.translate 0 (line a) = some pa →
            (d.getLsbD 0 = true → ∀ c ∈ t.icOld, line c.1 ≠ line pa) ∧
            (d.getLsbD 0 = false → d.getLsbD 1 = false → ∀ c ∈ t.dcOld, line c.1 ≠ line pa))) ∧
    (∃ kind t, exec (.dcache rs rb imm bua bur) s = .next t ∧ Flushed s t kind (line a) none ∧
      (d = 0#32 → kind = .dataLine ∧ t.xlatOlds = s.xlatOlds ∧
        ∀ pa, s.translate 0 (line a) = some pa → ∀ c ∈ t.dcOld, line c.1 ≠ line pa)) ∧
    (∀ (off : BitVec 15) (count : BitVec 4) (pri : Bool),
      let x := s.th.pc + BitVec.ofInt 32 (64 * off.toInt)
      exec (.icache off count pri) s =
        .next (prefetched s x count pri (some { addr := x, count := count, pri := pri }))) ∧
    (∀ pri, exec (.icacheExit pri) s = .next (prefetched s s.th.pc 0#4 pri none))

/-- LOCK0, LOCK1 and LOCK2. With an empty read pipeline LOCK0 releases both locks if held; LOCK1 takes the voluntary
lock if it is free or held and releases the global one if held; LOCK2 takes both if both are free or held; else the
thread waits. With entries in the pipeline each raises OutstandingReads. While another thread holds the global lock
a thread executes nothing at its turn. -/
def Obligations.Locks : Prop :=
  ∀ s : State,
    (s.th.rdq ≠ [] → ∀ i, i = .lock0 ∨ i = .lock1 ∨ i = .lock2 → exec i s = .next (raise .outstandingReads s)) ∧
    (s.th.rdq = [] →
      exec .lock0 s = .next { atNext s with
        volOwner := freed s.volOwner s.th.tid, globOwner := freed s.globOwner s.th.tid } ∧
      (free s.volOwner s.th.tid → exec .lock1 s = .next { atNext s with
        volOwner := some s.th.tid, globOwner := freed s.globOwner s.th.tid }) ∧
      (¬ free s.volOwner s.th.tid → exec .lock1 s = .next (blockOn .lock s)) ∧
      (free s.volOwner s.th.tid ∧ free s.globOwner s.th.tid → exec .lock2 s = .next { atNext s with
        volOwner := some s.th.tid, globOwner := some s.th.tid }) ∧
      (¬ (free s.volOwner s.th.tid ∧ free s.globOwner s.th.tid) → exec .lock2 s = .next (blockOn .lock s))) ∧
    ∀ owner, s.globOwner = some owner → owner ≠ s.th.tid →
      (s.env = [] → step s = .next (afterStep s)) ∧
      ∀ o rest, s.env = o :: rest → (o = none ∨ ∃ l, o = some (.during l)) →
        step s = .next (afterStep { s with env := rest })

/-- RTI exchanges PC and PCX and returns to the background level; RTH switches the level. With an empty read pipeline
RTI takes the pc from PCX, leaves the address after itself in PCX, and clears ISTAT and the link flag, whatever
ISTAT was; RTH inverts ISTAT, clears the link flag and goes on. With entries in the pipeline each raises
OutstandingReads. That the link flag is cleared is decision D27 (entries 31, 43), and RTI with ISTAT = 0 is a
derivation of R295. -/
def Obligations.LevelReturns : Prop :=
  encode .rti = 0xA3FFFFFF ∧ encode .rth = 0xA37FFFFF ∧ ∀ s : State,
    (s.th.rdq ≠ [] → exec .rti s = .next (raise .outstandingReads s) ∧ exec .rth s = .next (raise .outstandingReads s)) ∧
    (s.th.rdq = [] →
      exec .rti s = .next { s with th := { s.th with
        pc := s.th.pcx, pcx := s.th.pc + 4#32, istat := false, linkFlag := false } } ∧
      exec .rth s = .next { s with th := { s.th with
        pc := s.th.pc + 4#32, istat := !s.th.istat, linkFlag := false } })

/-- SWITCH raises its exception with its value, and is not executed. The word is 0xAF000000 with the value in its low 24
bits; the instruction raises SwitchException with that value; on the Halt outcome nothing changes but the run state,
the link flag and the record of the exception: the pc stays. The outcomes, the link flag and the exchange of PC and
PCX are decision D23 (entry 43). -/
def Obligations.SwitchTraps : Prop :=
  ∀ (v : BitVec 24) (s : State), encode (.switch v) = 0xAF000000 + v.toNat ∧
    exec (.switch v) s = .next (raise (.switchException v) s) ∧
    (s.th.exModes.switchException = .halt ∨ s.th.istat = true →
      exec (.switch v) s = .next (haltedBy s (.switchException v))) ∧
    (s.th.exModes.switchException = .handler ∧ s.th.istat = false →
      exec (.switch v) s = .next (enteredBy s (some (.switchException v))))

/-- Taking a synchronous exception: Halt or the interrupt level. The thread halts, with the pc kept, if the mode of the
kind is Halt or the thread is at interrupt level; else PC and PCX are exchanged and ISTAT is set. The link flag is
cleared and the kind recorded; nothing else changes. OutstandingReads always halts, and the halt trigger is emitted. -/
def Obligations.ExceptionEntry : Prop :=
  ∀ (s : State) (k : ExcKind),
    (k ≠ .outstandingReads → s.th.exModes.mode k = .halt ∨ s.th.istat = true → raise k s = haltedBy s k) ∧
    (k ≠ .outstandingReads → s.th.exModes.mode k = .handler → s.th.istat = false → raise k s = enteredBy s (some k)) ∧
    raise .outstandingReads s =
      { haltedBy s .outstandingReads with emitted := .haltTrigger s.th.tid :: s.emitted }

/-- When an interrupt is taken, and what it does. The event Interrupt for the thread that has the turn, with no other
thread holding the global lock, enters the interrupt level exactly when ISTAT is 0, the thread is not Halted nor in
the middle of an instruction, and a trigger of the interrupt level is active in TXMASKI; else it changes nothing.
The step consumes the event and advances the counter of the free values. -/
def Obligations.Interrupts : Prop :=
  ∀ (s : State) (rest : List (Option EnvEvent)), s.env = some (.interrupt s.th.tid) :: rest →
    (∀ t, s.globOwner = some t → t = s.th.tid) →
    (s.th.istat = false ∧ s.th.runState ≠ .halted ∧ s.th.todo = [] ∧ (∃ b < 16, Triggered s true b) →
      step s = .next (afterStep { enteredBy s s.th.lastException with env := rest })) ∧
    (¬ (s.th.istat = false ∧ s.th.runState ≠ .halted ∧ s.th.todo = [] ∧ (∃ b < 16, Triggered s true b)) →
      step s = .next (afterStep { s with env := rest }))

/-- What the events of the environment do: Trigger, Kick, TimerTick, external writes, deferred reports, translations,
the hook, the scheduler. For any thread, Trigger makes a trigger of a level active, Kick raises the kick count by
one, TimerTick sets the cell of a timer or counter (and does nothing to another register), a deferred error report
writes bits 31:16 of the deferred state of a level and raises the deferred trigger, in Deferred mode after a failed
access only; an external write changes one byte of memory and is seen by every link monitor whose link it touches;
the scheduler gives the turn to a thread; a change of the translations makes new ones the current ones and keeps
those before, for every line, as older ones that no flush has ended; the hook of the control register writes sets
the cell of a control register and may halt the thread. The step consumes the event and advances the counter of the
free values; nothing else changes. The model's choices: the environment picks any value and any level for a report
(entry 66), and the hook acts as an event of its own (entry 32). -/
def Obligations.EnvironmentEvents : Prop :=
  ∀ (s : State) (e : EnvEvent) (rest : List (Option EnvEvent)), s.env = some e :: rest →
    let s1 : State := { s with env := rest }
    (∀ t l b, e = .trigger t l b → step s = .next (afterStep (changed s1 t (triggered l b)))) ∧
    (∀ t, e = .kick t → step s = .next (afterStep (changed s1 t fun o => { o with kickCount := o.kickCount + 1 }))) ∧
    (∀ t r v, e = .timerTick t r v → step s = .next (afterStep (if r.isTimer then
      changed s1 t fun o => { o with ct := o.ct.set r.index.val v r.index.isLt } else s1))) ∧
    (∀ t l v, e = .deferredReport t l v → step s = .next (afterStep (if s.cfg.memErrorMode = .deferred then
      changed s1 t fun o => if o.failedAccess then reportedTo s.cfg.defrBit l v o else o else s1))) ∧
    (∀ a v, e = .extWrite a v → s.mem.wf = true →
      ∃ t, step s = .next (afterStep t) ∧ WrittenFromOutside s1 t a v) ∧
    (∀ tid, e = .select tid → (∃ o ∈ s.others, o.tid = tid) → s.th.tid ≠ tid →
      ∃ t, step s = .next (afterStep t) ∧ t.th.tid = tid ∧ (t.th :: t.others).Perm (s.th :: s.others) ∧
        t = { s1 with th := t.th, others := t.others }) ∧
    (∀ table, e = .retranslate table → step s = .next (afterStep
      { s1 with xlat := table, xlatOlds := { table := s.xlat, flushed := [] } :: s.xlatOlds })) ∧
    (∀ t r v halt, e = .ctHook t r v halt → step s = .next (afterStep (changed s1 t fun o =>
      { o with ct := o.ct.set r.index.val v r.index.isLt, runState := if halt then .halted else o.runState })))

/-- Other threads may run between the two accesses of a 64-bit store, and the thread then goes on with the second. Of an
aligned SETL that gives way before its second access the low half is stored, every other byte is as before, and the
high half is still to be stored at the next four bytes; at its next turn, without fetching anything, the thread
stores it, and nothing else changes but the counter of the free values. So the 64 bits are not one access. The
model's choices here: an instruction that gives way keeps its later accesses and makes them at its next turn (entry
44), its first turn has decided their addresses, data and translation, with the second half at the next four
physical bytes (entry 63), and SETL of a unit without partner does not read the register it names (entry 59). -/
def Obligations.WideAccessesGiveWay : Prop :=
  (∀ s i p unsaid pa, SetPairForm s i p unsaid → s.mem.wf = true → s.mid = [.writes [], .giveWay] → s.th.todo = [] →
      aligned (p.mem.addr s) .l = true → s.target 1 (p.mem.addr s) = some (.ram pa) →
      ∃ (d : DWord) (t : State), exec i s = .next t ∧
        (∀ u : BUnit, p.unit = u.code → ¬ unsaid → d = readReg s u.opp p.reg 1 ++ readReg s u p.reg 0) ∧
        StoredBytes s t pa .d d ∧ t.others = s.others.map (monitored pa 4) ∧
        t.th.todo = [.store (pa + 4#32) .d ((d.extractLsb' 32 32).setWidth 64)]) ∧
    ∀ (s : State) (pa : Word) (v : DWord), s.env = [] → s.mid = [] → s.mem.wf = true → s.th.runState ≠ .halted →
      (∀ t, s.globOwner = some t → t = s.th.tid) → s.th.todo = [.store pa .d v] →
      ∃ t, step s = .next (afterStep t) ∧ StoredBytes s t pa .d v ∧
        t = { s with th := { s.th with todo := [] }, mem := t.mem, icOld := t.icOld, dcOld := t.dcOld,
                     others := s.others.map (monitored pa 4), tick := s.tick + 1 }

/-- A Halted thread executes nothing until Restart. At its turn a Halted thread changes nothing, whatever the
environment has in store for its accesses; Restart sets a Halted thread Running at the address, with all else kept,
and does nothing to a thread that is not Halted. -/
def Obligations.HaltedThread : Prop :=
  ∀ s : State,
    (s.th.runState = .halted → s.env = [] → step s = .next (afterStep s)) ∧
    (∀ o rest, s.th.runState = .halted → s.env = o :: rest → (o = none ∨ ∃ l, o = some (.during l)) →
      step s = .next (afterStep { s with env := rest })) ∧
    (∀ pc rest, s.env = some (.restart s.th.tid pc) :: rest →
      (s.th.runState = .halted → step s =
        .next (afterStep { s with env := rest, th := { s.th with runState := .running, pc := pc } })) ∧
      (s.th.runState ≠ .halted → step s = .next (afterStep { s with env := rest })))

/-- MOVR and SWAPR are refused. The spec gives the two instructions on the shadow registers no bit positions and no
operation, and the model refuses them. -/
def Obligations.ShadowRegisterStops : Prop :=
  ∀ (x : BitVec 24) (s : State),
    exec (.movr x) s = .refused .shadowRegister ∧ exec (.swapr x) s = .refused .shadowRegister

/-- A step runs the instruction that the bytes at the pc decode to. When the thread that has the turn may run and its pc
is aligned and lies in RAM, and the four bytes there decode to an instruction, the step is that instruction in that
state, with the thread Running; around it the step forgets what was still to happen during it and advances the
counter of the free values. -/
def Obligations.StepRunsDecoded : Prop :=
  ∀ (s : State) (pa : Word) (i : Instr), Ready s → s.target 2 s.th.pc = some (.ram pa) → decode
      (s.fetchByte (pa + 3#32) ++ s.fetchByte (pa + 2#32) ++ s.fetchByte (pa + 1#32) ++ s.fetchByte pa).toNat = some i →
    (∀ t, exec i { s with th := { s.th with runState := .running } } = .next t → step s = .next (afterStep t)) ∧
    (∀ f, exec i { s with th := { s.th with runState := .running } } = .fault f → step s = .fault f) ∧
    (∀ r, exec i { s with th := { s.th with runState := .running } } = .refused r → step s = .refused r)

/-- A misaligned pc, an address without instruction, and a word that decodes to nothing. A pc that is no multiple of 4
raises PCMisaligned; an aligned pc without translation or in an unmapped region raises FetchFault; a word in RAM
that decodes to no instruction raises UnknownInstruction. Each is taken as every exception is. That FetchFault is
raised whatever the mode of memory errors, in Deferred mode too, is the model's choice (entry 68). -/
def Obligations.FetchExceptions : Prop :=
  ∀ s : State, s.env = [] → s.th.todo = [] → s.th.runState ≠ .halted → (∀ t, s.globOwner = some t → t = s.th.tid) →
    (s.th.pc.toNat % 4 ≠ 0 → step s = .next (afterStep (raise (.pcMisaligned s.th.pc) s))) ∧
    (s.th.pc.toNat % 4 = 0 → s.target 2 s.th.pc = none → step s = .next (afterStep (raise (.fetchFault s.th.pc) s))) ∧
    (∀ pa, s.th.pc.toNat % 4 = 0 → s.target 2 s.th.pc = some (.ram pa) →
      let w := s.fetchByte (pa + 3#32) ++ s.fetchByte (pa + 2#32) ++ s.fetchByte (pa + 1#32) ++ s.fetchByte pa
      decode w.toNat = none → step s = .next (afterStep (raise (.unknownInstruction w) s)))

/-- No instruction touches another thread, the parameters or the script of the environment. Whatever instruction a
thread runs, in whatever state, every other thread keeps all its registers, flags, control, trigger and trace
registers, its pipeline and its run state: only its link monitor may have seen a write. The thread keeps its number,
and the parameters and the script of the environment are kept, and the counter of the free values does not go back. -/
def Obligations.OtherThreadsKept : Prop :=
  ∀ (i : Instr) (s t : State), exec i s = .next t →
    List.Forall₂ SameThread s.others t.others ∧ t.th.tid = s.th.tid ∧ t.th.exModes = s.th.exModes ∧ t.cfg = s.cfg ∧
      t.env = s.env ∧ s.tick ≤ t.tick

/-- The invariant holds at reset, and what reset leaves. At reset the memory is canonical, every read pipeline is empty,
no lock is held, both threads are at the background level with the link flag clear, thread 0 is Running at the
address of its start record and thread 1 Halted. That thread 0 is the enabled one and starts at 0 is the model's
choice of a start record (entry 3). -/
def Obligations.ResetKeepsInvariant : Prop :=
  State.reset.Inv ∧ State.reset.volOwner = none ∧ State.reset.globOwner = none ∧
    (∀ t ∈ State.reset.th :: State.reset.others,
      t.rdq = [] ∧ t.istat = false ∧ t.linkFlag = false ∧ t.ttrec = [] ∧ t.icachePending = none) ∧
    State.reset.th.runState = .running ∧ State.reset.th.pc = 0#32 ∧ State.reset.others.map Thread.runState = [.halted]

/-- Every step keeps the invariant. From every state whose memory is in canonical form, whose read pipelines, with the
entries still to come, are within their capacity and whose global lock is held only by the holder of the voluntary
one, every step that goes on leads to such a state. -/
def Obligations.StepKeepsInvariant : Prop :=
  ∀ s t : State, s.Inv → step s = .next t → t.Inv

/-- Decode undoes encode: arithmetic, shifts, multiplies and comparisons. Every well-formed instruction of the primary
opcodes 0x0 to 0x8, with every operand at every value its field admits, decodes from its own word. -/
def Obligations.DecodeEncodeArithmetic : Prop :=
  ∀ i : Instr, i.wellFormed = true → bits (encode i) 28 4 < 9 → decode (encode i) = some i

/-- Decode undoes encode: branches, moves, system, linked and cache operations. Every well-formed instruction of the
primary opcode 0xA, with every operand at every value its field admits, decodes from its own word. -/
def Obligations.DecodeEncodeControl : Prop :=
  ∀ i : Instr, i.wellFormed = true → bits (encode i) 28 4 = 10 → decode (encode i) = some i

/-- Decode undoes encode: loads, stores, transfers and coprocessor writes. Every well-formed instruction of the primary
opcodes above 0xA, with every operand at every value its field admits, decodes from its own word. -/
def Obligations.DecodeEncodeMemory : Prop :=
  ∀ i : Instr, i.wellFormed = true → 10 < bits (encode i) 28 4 → decode (encode i) = some i

/-- Words that the spec writes out decode to their instructions. Worked examples of the spec: RTH, RTI, MOV PC,D1.3,
MOVEQ TXENABLE,A0.7, CALL, LNKGETD, MOV TXRPT,#40, TTMOV, ICACHE, DEFR, BEXD and a branch; and words that are no
instruction. -/
def Obligations.DecodeWords : Prop :=
  decode 0xA37FFFFF = some .rth ∧ decode 0xA3FFFFFF = some .rti ∧ decode 0xA0FFFFE0 = some (.branch 0x7FFFF#19 false) ∧
    decode 0xA300C8A0 = some (.movUnit 0#5 3#5 2#4 5#4) ∧ decode 0xA301CC02 = some (.movUnitCc 0#5 7#5 3#4 0#4 1#4) ∧
    decode 0xAC2091A6 = some (.call 4#5 0x1234#16 2#2) ∧ decode 0xAD00C0CC = some (.lnkgetd 0#5 3#5 2#2 1#2) ∧
    decode 0xA9180140 = some (.movCt 3#5 40#16 false false) ∧ decode 0xA3204E21 = some (.ttmov 4#5 1#5 3#4 1#4 0#4) ∧
    decode 0xAEFFFEC0 = some (.icache 0x7FFF#15 6#4 false) ∧ decode 0xA3002041 = some (.defr 0#5 0#5 2#4 0#4) ∧
    decode 0xAA01C004 = some (.bexd 0#5 7#5 false false) ∧ decode 0x90000000 = none ∧ decode 0xF0000000 = none

end Statements
end

