-- ==== Sys2Proof/Laws/State.lean ====
section
/-! SUPPORT. What each update of one field changes: one lemma per field and update, true by definition. -/

namespace Sys2Proof.Machine

@[simp] theorem State.setPc_th (s : State) (v : Word) : (s.setPc v).th = { s.th with pc := v } := rfl
@[simp] theorem State.setPc_others (s : State) (v : Word) : (s.setPc v).others = s.others := rfl
@[simp] theorem State.setPc_gd0 (s : State) (v : Word) : (s.setPc v).gd0 = s.gd0 := rfl
@[simp] theorem State.setPc_gd1 (s : State) (v : Word) : (s.setPc v).gd1 = s.gd1 := rfl
@[simp] theorem State.setPc_ga0 (s : State) (v : Word) : (s.setPc v).ga0 = s.ga0 := rfl
@[simp] theorem State.setPc_ga1 (s : State) (v : Word) : (s.setPc v).ga1 = s.ga1 := rfl
@[simp] theorem State.setPc_volOwner (s : State) (v : Word) : (s.setPc v).volOwner = s.volOwner := rfl
@[simp] theorem State.setPc_globOwner (s : State) (v : Word) : (s.setPc v).globOwner = s.globOwner := rfl
@[simp] theorem State.setPc_mem (s : State) (v : Word) : (s.setPc v).mem = s.mem := rfl
@[simp] theorem State.setPc_icOld (s : State) (v : Word) : (s.setPc v).icOld = s.icOld := rfl
@[simp] theorem State.setPc_dcOld (s : State) (v : Word) : (s.setPc v).dcOld = s.dcOld := rfl
@[simp] theorem State.setPc_xlat (s : State) (v : Word) : (s.setPc v).xlat = s.xlat := rfl
@[simp] theorem State.setPc_xlatOlds (s : State) (v : Word) : (s.setPc v).xlatOlds = s.xlatOlds := rfl
@[simp] theorem State.setPc_emitted (s : State) (v : Word) : (s.setPc v).emitted = s.emitted := rfl
@[simp] theorem State.setPc_env (s : State) (v : Word) : (s.setPc v).env = s.env := rfl
@[simp] theorem State.setPc_mid (s : State) (v : Word) : (s.setPc v).mid = s.mid := rfl
@[simp] theorem State.setPc_tick (s : State) (v : Word) : (s.setPc v).tick = s.tick := rfl
@[simp] theorem State.setPc_cfg (s : State) (v : Word) : (s.setPc v).cfg = s.cfg := rfl

@[simp] theorem State.setPcx_th (s : State) (v : Word) : (s.setPcx v).th = { s.th with pcx := v } := rfl
@[simp] theorem State.setPcx_others (s : State) (v : Word) : (s.setPcx v).others = s.others := rfl
@[simp] theorem State.setPcx_gd0 (s : State) (v : Word) : (s.setPcx v).gd0 = s.gd0 := rfl
@[simp] theorem State.setPcx_gd1 (s : State) (v : Word) : (s.setPcx v).gd1 = s.gd1 := rfl
@[simp] theorem State.setPcx_ga0 (s : State) (v : Word) : (s.setPcx v).ga0 = s.ga0 := rfl
@[simp] theorem State.setPcx_ga1 (s : State) (v : Word) : (s.setPcx v).ga1 = s.ga1 := rfl
@[simp] theorem State.setPcx_volOwner (s : State) (v : Word) : (s.setPcx v).volOwner = s.volOwner := rfl
@[simp] theorem State.setPcx_globOwner (s : State) (v : Word) : (s.setPcx v).globOwner = s.globOwner := rfl
@[simp] theorem State.setPcx_mem (s : State) (v : Word) : (s.setPcx v).mem = s.mem := rfl
@[simp] theorem State.setPcx_icOld (s : State) (v : Word) : (s.setPcx v).icOld = s.icOld := rfl
@[simp] theorem State.setPcx_dcOld (s : State) (v : Word) : (s.setPcx v).dcOld = s.dcOld := rfl
@[simp] theorem State.setPcx_xlat (s : State) (v : Word) : (s.setPcx v).xlat = s.xlat := rfl
@[simp] theorem State.setPcx_xlatOlds (s : State) (v : Word) : (s.setPcx v).xlatOlds = s.xlatOlds := rfl
@[simp] theorem State.setPcx_emitted (s : State) (v : Word) : (s.setPcx v).emitted = s.emitted := rfl
@[simp] theorem State.setPcx_env (s : State) (v : Word) : (s.setPcx v).env = s.env := rfl
@[simp] theorem State.setPcx_mid (s : State) (v : Word) : (s.setPcx v).mid = s.mid := rfl
@[simp] theorem State.setPcx_tick (s : State) (v : Word) : (s.setPcx v).tick = s.tick := rfl
@[simp] theorem State.setPcx_cfg (s : State) (v : Word) : (s.setPcx v).cfg = s.cfg := rfl

@[simp] theorem State.setFlags_th (s : State) (v : Flags) : (s.setFlags v).th = { s.th with flags := v } := rfl
@[simp] theorem State.setFlags_others (s : State) (v : Flags) : (s.setFlags v).others = s.others := rfl
@[simp] theorem State.setFlags_gd0 (s : State) (v : Flags) : (s.setFlags v).gd0 = s.gd0 := rfl
@[simp] theorem State.setFlags_gd1 (s : State) (v : Flags) : (s.setFlags v).gd1 = s.gd1 := rfl
@[simp] theorem State.setFlags_ga0 (s : State) (v : Flags) : (s.setFlags v).ga0 = s.ga0 := rfl
@[simp] theorem State.setFlags_ga1 (s : State) (v : Flags) : (s.setFlags v).ga1 = s.ga1 := rfl
@[simp] theorem State.setFlags_volOwner (s : State) (v : Flags) : (s.setFlags v).volOwner = s.volOwner := rfl
@[simp] theorem State.setFlags_globOwner (s : State) (v : Flags) : (s.setFlags v).globOwner = s.globOwner := rfl
@[simp] theorem State.setFlags_mem (s : State) (v : Flags) : (s.setFlags v).mem = s.mem := rfl
@[simp] theorem State.setFlags_icOld (s : State) (v : Flags) : (s.setFlags v).icOld = s.icOld := rfl
@[simp] theorem State.setFlags_dcOld (s : State) (v : Flags) : (s.setFlags v).dcOld = s.dcOld := rfl
@[simp] theorem State.setFlags_xlat (s : State) (v : Flags) : (s.setFlags v).xlat = s.xlat := rfl
@[simp] theorem State.setFlags_xlatOlds (s : State) (v : Flags) : (s.setFlags v).xlatOlds = s.xlatOlds := rfl
@[simp] theorem State.setFlags_emitted (s : State) (v : Flags) : (s.setFlags v).emitted = s.emitted := rfl
@[simp] theorem State.setFlags_env (s : State) (v : Flags) : (s.setFlags v).env = s.env := rfl
@[simp] theorem State.setFlags_mid (s : State) (v : Flags) : (s.setFlags v).mid = s.mid := rfl
@[simp] theorem State.setFlags_tick (s : State) (v : Flags) : (s.setFlags v).tick = s.tick := rfl
@[simp] theorem State.setFlags_cfg (s : State) (v : Flags) : (s.setFlags v).cfg = s.cfg := rfl

@[simp] theorem State.setIstat_th (s : State) (v : Bool) : (s.setIstat v).th = { s.th with istat := v } := rfl
@[simp] theorem State.setIstat_others (s : State) (v : Bool) : (s.setIstat v).others = s.others := rfl
@[simp] theorem State.setIstat_gd0 (s : State) (v : Bool) : (s.setIstat v).gd0 = s.gd0 := rfl
@[simp] theorem State.setIstat_gd1 (s : State) (v : Bool) : (s.setIstat v).gd1 = s.gd1 := rfl
@[simp] theorem State.setIstat_ga0 (s : State) (v : Bool) : (s.setIstat v).ga0 = s.ga0 := rfl
@[simp] theorem State.setIstat_ga1 (s : State) (v : Bool) : (s.setIstat v).ga1 = s.ga1 := rfl
@[simp] theorem State.setIstat_volOwner (s : State) (v : Bool) : (s.setIstat v).volOwner = s.volOwner := rfl
@[simp] theorem State.setIstat_globOwner (s : State) (v : Bool) : (s.setIstat v).globOwner = s.globOwner := rfl
@[simp] theorem State.setIstat_mem (s : State) (v : Bool) : (s.setIstat v).mem = s.mem := rfl
@[simp] theorem State.setIstat_icOld (s : State) (v : Bool) : (s.setIstat v).icOld = s.icOld := rfl
@[simp] theorem State.setIstat_dcOld (s : State) (v : Bool) : (s.setIstat v).dcOld = s.dcOld := rfl
@[simp] theorem State.setIstat_xlat (s : State) (v : Bool) : (s.setIstat v).xlat = s.xlat := rfl
@[simp] theorem State.setIstat_xlatOlds (s : State) (v : Bool) : (s.setIstat v).xlatOlds = s.xlatOlds := rfl
@[simp] theorem State.setIstat_emitted (s : State) (v : Bool) : (s.setIstat v).emitted = s.emitted := rfl
@[simp] theorem State.setIstat_env (s : State) (v : Bool) : (s.setIstat v).env = s.env := rfl
@[simp] theorem State.setIstat_mid (s : State) (v : Bool) : (s.setIstat v).mid = s.mid := rfl
@[simp] theorem State.setIstat_tick (s : State) (v : Bool) : (s.setIstat v).tick = s.tick := rfl
@[simp] theorem State.setIstat_cfg (s : State) (v : Bool) : (s.setIstat v).cfg = s.cfg := rfl

@[simp] theorem State.setRun_th (s : State) (v : RunState) : (s.setRun v).th = { s.th with runState := v } := rfl
@[simp] theorem State.setRun_others (s : State) (v : RunState) : (s.setRun v).others = s.others := rfl
@[simp] theorem State.setRun_gd0 (s : State) (v : RunState) : (s.setRun v).gd0 = s.gd0 := rfl
@[simp] theorem State.setRun_gd1 (s : State) (v : RunState) : (s.setRun v).gd1 = s.gd1 := rfl
@[simp] theorem State.setRun_ga0 (s : State) (v : RunState) : (s.setRun v).ga0 = s.ga0 := rfl
@[simp] theorem State.setRun_ga1 (s : State) (v : RunState) : (s.setRun v).ga1 = s.ga1 := rfl
@[simp] theorem State.setRun_volOwner (s : State) (v : RunState) : (s.setRun v).volOwner = s.volOwner := rfl
@[simp] theorem State.setRun_globOwner (s : State) (v : RunState) : (s.setRun v).globOwner = s.globOwner := rfl
@[simp] theorem State.setRun_mem (s : State) (v : RunState) : (s.setRun v).mem = s.mem := rfl
@[simp] theorem State.setRun_icOld (s : State) (v : RunState) : (s.setRun v).icOld = s.icOld := rfl
@[simp] theorem State.setRun_dcOld (s : State) (v : RunState) : (s.setRun v).dcOld = s.dcOld := rfl
@[simp] theorem State.setRun_xlat (s : State) (v : RunState) : (s.setRun v).xlat = s.xlat := rfl
@[simp] theorem State.setRun_xlatOlds (s : State) (v : RunState) : (s.setRun v).xlatOlds = s.xlatOlds := rfl
@[simp] theorem State.setRun_emitted (s : State) (v : RunState) : (s.setRun v).emitted = s.emitted := rfl
@[simp] theorem State.setRun_env (s : State) (v : RunState) : (s.setRun v).env = s.env := rfl
@[simp] theorem State.setRun_mid (s : State) (v : RunState) : (s.setRun v).mid = s.mid := rfl
@[simp] theorem State.setRun_tick (s : State) (v : RunState) : (s.setRun v).tick = s.tick := rfl
@[simp] theorem State.setRun_cfg (s : State) (v : RunState) : (s.setRun v).cfg = s.cfg := rfl

@[simp] theorem State.setRdq_th (s : State) (v : List DWord) : (s.setRdq v).th = { s.th with rdq := v } := rfl
@[simp] theorem State.setRdq_others (s : State) (v : List DWord) : (s.setRdq v).others = s.others := rfl
@[simp] theorem State.setRdq_gd0 (s : State) (v : List DWord) : (s.setRdq v).gd0 = s.gd0 := rfl
@[simp] theorem State.setRdq_gd1 (s : State) (v : List DWord) : (s.setRdq v).gd1 = s.gd1 := rfl
@[simp] theorem State.setRdq_ga0 (s : State) (v : List DWord) : (s.setRdq v).ga0 = s.ga0 := rfl
@[simp] theorem State.setRdq_ga1 (s : State) (v : List DWord) : (s.setRdq v).ga1 = s.ga1 := rfl
@[simp] theorem State.setRdq_volOwner (s : State) (v : List DWord) : (s.setRdq v).volOwner = s.volOwner := rfl
@[simp] theorem State.setRdq_globOwner (s : State) (v : List DWord) : (s.setRdq v).globOwner = s.globOwner := rfl
@[simp] theorem State.setRdq_mem (s : State) (v : List DWord) : (s.setRdq v).mem = s.mem := rfl
@[simp] theorem State.setRdq_icOld (s : State) (v : List DWord) : (s.setRdq v).icOld = s.icOld := rfl
@[simp] theorem State.setRdq_dcOld (s : State) (v : List DWord) : (s.setRdq v).dcOld = s.dcOld := rfl
@[simp] theorem State.setRdq_xlat (s : State) (v : List DWord) : (s.setRdq v).xlat = s.xlat := rfl
@[simp] theorem State.setRdq_xlatOlds (s : State) (v : List DWord) : (s.setRdq v).xlatOlds = s.xlatOlds := rfl
@[simp] theorem State.setRdq_emitted (s : State) (v : List DWord) : (s.setRdq v).emitted = s.emitted := rfl
@[simp] theorem State.setRdq_env (s : State) (v : List DWord) : (s.setRdq v).env = s.env := rfl
@[simp] theorem State.setRdq_mid (s : State) (v : List DWord) : (s.setRdq v).mid = s.mid := rfl
@[simp] theorem State.setRdq_tick (s : State) (v : List DWord) : (s.setRdq v).tick = s.tick := rfl
@[simp] theorem State.setRdq_cfg (s : State) (v : List DWord) : (s.setRdq v).cfg = s.cfg := rfl

@[simp] theorem State.setTtrec_th (s : State) (v : List TraceRecord) : (s.setTtrec v).th = { s.th with ttrec := v } := rfl
@[simp] theorem State.setTtrec_others (s : State) (v : List TraceRecord) : (s.setTtrec v).others = s.others := rfl
@[simp] theorem State.setTtrec_gd0 (s : State) (v : List TraceRecord) : (s.setTtrec v).gd0 = s.gd0 := rfl
@[simp] theorem State.setTtrec_gd1 (s : State) (v : List TraceRecord) : (s.setTtrec v).gd1 = s.gd1 := rfl
@[simp] theorem State.setTtrec_ga0 (s : State) (v : List TraceRecord) : (s.setTtrec v).ga0 = s.ga0 := rfl
@[simp] theorem State.setTtrec_ga1 (s : State) (v : List TraceRecord) : (s.setTtrec v).ga1 = s.ga1 := rfl
@[simp] theorem State.setTtrec_volOwner (s : State) (v : List TraceRecord) : (s.setTtrec v).volOwner = s.volOwner := rfl
@[simp] theorem State.setTtrec_globOwner (s : State) (v : List TraceRecord) : (s.setTtrec v).globOwner = s.globOwner := rfl
@[simp] theorem State.setTtrec_mem (s : State) (v : List TraceRecord) : (s.setTtrec v).mem = s.mem := rfl
@[simp] theorem State.setTtrec_icOld (s : State) (v : List TraceRecord) : (s.setTtrec v).icOld = s.icOld := rfl
@[simp] theorem State.setTtrec_dcOld (s : State) (v : List TraceRecord) : (s.setTtrec v).dcOld = s.dcOld := rfl
@[simp] theorem State.setTtrec_xlat (s : State) (v : List TraceRecord) : (s.setTtrec v).xlat = s.xlat := rfl
@[simp] theorem State.setTtrec_xlatOlds (s : State) (v : List TraceRecord) : (s.setTtrec v).xlatOlds = s.xlatOlds := rfl
@[simp] theorem State.setTtrec_emitted (s : State) (v : List TraceRecord) : (s.setTtrec v).emitted = s.emitted := rfl
@[simp] theorem State.setTtrec_env (s : State) (v : List TraceRecord) : (s.setTtrec v).env = s.env := rfl
@[simp] theorem State.setTtrec_mid (s : State) (v : List TraceRecord) : (s.setTtrec v).mid = s.mid := rfl
@[simp] theorem State.setTtrec_tick (s : State) (v : List TraceRecord) : (s.setTtrec v).tick = s.tick := rfl
@[simp] theorem State.setTtrec_cfg (s : State) (v : List TraceRecord) : (s.setTtrec v).cfg = s.cfg := rfl

@[simp] theorem State.setKick_th (s : State) (v : Nat) : (s.setKick v).th = { s.th with kickCount := v } := rfl
@[simp] theorem State.setKick_others (s : State) (v : Nat) : (s.setKick v).others = s.others := rfl
@[simp] theorem State.setKick_gd0 (s : State) (v : Nat) : (s.setKick v).gd0 = s.gd0 := rfl
@[simp] theorem State.setKick_gd1 (s : State) (v : Nat) : (s.setKick v).gd1 = s.gd1 := rfl
@[simp] theorem State.setKick_ga0 (s : State) (v : Nat) : (s.setKick v).ga0 = s.ga0 := rfl
@[simp] theorem State.setKick_ga1 (s : State) (v : Nat) : (s.setKick v).ga1 = s.ga1 := rfl
@[simp] theorem State.setKick_volOwner (s : State) (v : Nat) : (s.setKick v).volOwner = s.volOwner := rfl
@[simp] theorem State.setKick_globOwner (s : State) (v : Nat) : (s.setKick v).globOwner = s.globOwner := rfl
@[simp] theorem State.setKick_mem (s : State) (v : Nat) : (s.setKick v).mem = s.mem := rfl
@[simp] theorem State.setKick_icOld (s : State) (v : Nat) : (s.setKick v).icOld = s.icOld := rfl
@[simp] theorem State.setKick_dcOld (s : State) (v : Nat) : (s.setKick v).dcOld = s.dcOld := rfl
@[simp] theorem State.setKick_xlat (s : State) (v : Nat) : (s.setKick v).xlat = s.xlat := rfl
@[simp] theorem State.setKick_xlatOlds (s : State) (v : Nat) : (s.setKick v).xlatOlds = s.xlatOlds := rfl
@[simp] theorem State.setKick_emitted (s : State) (v : Nat) : (s.setKick v).emitted = s.emitted := rfl
@[simp] theorem State.setKick_env (s : State) (v : Nat) : (s.setKick v).env = s.env := rfl
@[simp] theorem State.setKick_mid (s : State) (v : Nat) : (s.setKick v).mid = s.mid := rfl
@[simp] theorem State.setKick_tick (s : State) (v : Nat) : (s.setKick v).tick = s.tick := rfl
@[simp] theorem State.setKick_cfg (s : State) (v : Nat) : (s.setKick v).cfg = s.cfg := rfl

@[simp] theorem State.clearLink_th (s : State) : s.clearLink.th = { s.th with linkFlag := false } := rfl
@[simp] theorem State.clearLink_others (s : State) : s.clearLink.others = s.others := rfl
@[simp] theorem State.clearLink_gd0 (s : State) : s.clearLink.gd0 = s.gd0 := rfl
@[simp] theorem State.clearLink_gd1 (s : State) : s.clearLink.gd1 = s.gd1 := rfl
@[simp] theorem State.clearLink_ga0 (s : State) : s.clearLink.ga0 = s.ga0 := rfl
@[simp] theorem State.clearLink_ga1 (s : State) : s.clearLink.ga1 = s.ga1 := rfl
@[simp] theorem State.clearLink_volOwner (s : State) : s.clearLink.volOwner = s.volOwner := rfl
@[simp] theorem State.clearLink_globOwner (s : State) : s.clearLink.globOwner = s.globOwner := rfl
@[simp] theorem State.clearLink_mem (s : State) : s.clearLink.mem = s.mem := rfl
@[simp] theorem State.clearLink_icOld (s : State) : s.clearLink.icOld = s.icOld := rfl
@[simp] theorem State.clearLink_dcOld (s : State) : s.clearLink.dcOld = s.dcOld := rfl
@[simp] theorem State.clearLink_xlat (s : State) : s.clearLink.xlat = s.xlat := rfl
@[simp] theorem State.clearLink_xlatOlds (s : State) : s.clearLink.xlatOlds = s.xlatOlds := rfl
@[simp] theorem State.clearLink_emitted (s : State) : s.clearLink.emitted = s.emitted := rfl
@[simp] theorem State.clearLink_env (s : State) : s.clearLink.env = s.env := rfl
@[simp] theorem State.clearLink_mid (s : State) : s.clearLink.mid = s.mid := rfl
@[simp] theorem State.clearLink_tick (s : State) : s.clearLink.tick = s.tick := rfl
@[simp] theorem State.clearLink_cfg (s : State) : s.clearLink.cfg = s.cfg := rfl

@[simp] theorem State.emit_th (s : State) (e : Emit) : (s.emit e).th = s.th := rfl
@[simp] theorem State.emit_others (s : State) (e : Emit) : (s.emit e).others = s.others := rfl
@[simp] theorem State.emit_gd0 (s : State) (e : Emit) : (s.emit e).gd0 = s.gd0 := rfl
@[simp] theorem State.emit_gd1 (s : State) (e : Emit) : (s.emit e).gd1 = s.gd1 := rfl
@[simp] theorem State.emit_ga0 (s : State) (e : Emit) : (s.emit e).ga0 = s.ga0 := rfl
@[simp] theorem State.emit_ga1 (s : State) (e : Emit) : (s.emit e).ga1 = s.ga1 := rfl
@[simp] theorem State.emit_volOwner (s : State) (e : Emit) : (s.emit e).volOwner = s.volOwner := rfl
@[simp] theorem State.emit_globOwner (s : State) (e : Emit) : (s.emit e).globOwner = s.globOwner := rfl
@[simp] theorem State.emit_mem (s : State) (e : Emit) : (s.emit e).mem = s.mem := rfl
@[simp] theorem State.emit_icOld (s : State) (e : Emit) : (s.emit e).icOld = s.icOld := rfl
@[simp] theorem State.emit_dcOld (s : State) (e : Emit) : (s.emit e).dcOld = s.dcOld := rfl
@[simp] theorem State.emit_xlat (s : State) (e : Emit) : (s.emit e).xlat = s.xlat := rfl
@[simp] theorem State.emit_xlatOlds (s : State) (e : Emit) : (s.emit e).xlatOlds = s.xlatOlds := rfl
@[simp] theorem State.emit_emitted (s : State) (e : Emit) : (s.emit e).emitted = e :: s.emitted := rfl
@[simp] theorem State.emit_env (s : State) (e : Emit) : (s.emit e).env = s.env := rfl
@[simp] theorem State.emit_mid (s : State) (e : Emit) : (s.emit e).mid = s.mid := rfl
@[simp] theorem State.emit_tick (s : State) (e : Emit) : (s.emit e).tick = s.tick := rfl
@[simp] theorem State.emit_cfg (s : State) (e : Emit) : (s.emit e).cfg = s.cfg := rfl

@[simp] theorem State.setCtCell_th (s : State) (r : CtReg) (v : Word) : (s.setCtCell r v).th = { s.th with ct := s.th.ct.set r.index.val v r.index.isLt } := rfl
@[simp] theorem State.setCtCell_others (s : State) (r : CtReg) (v : Word) : (s.setCtCell r v).others = s.others := rfl
@[simp] theorem State.setCtCell_gd0 (s : State) (r : CtReg) (v : Word) : (s.setCtCell r v).gd0 = s.gd0 := rfl
@[simp] theorem State.setCtCell_gd1 (s : State) (r : CtReg) (v : Word) : (s.setCtCell r v).gd1 = s.gd1 := rfl
@[simp] theorem State.setCtCell_ga0 (s : State) (r : CtReg) (v : Word) : (s.setCtCell r v).ga0 = s.ga0 := rfl
@[simp] theorem State.setCtCell_ga1 (s : State) (r : CtReg) (v : Word) : (s.setCtCell r v).ga1 = s.ga1 := rfl
@[simp] theorem State.setCtCell_volOwner (s : State) (r : CtReg) (v : Word) : (s.setCtCell r v).volOwner = s.volOwner := rfl
@[simp] theorem State.setCtCell_globOwner (s : State) (r : CtReg) (v : Word) : (s.setCtCell r v).globOwner = s.globOwner := rfl
@[simp] theorem State.setCtCell_mem (s : State) (r : CtReg) (v : Word) : (s.setCtCell r v).mem = s.mem := rfl
@[simp] theorem State.setCtCell_icOld (s : State) (r : CtReg) (v : Word) : (s.setCtCell r v).icOld = s.icOld := rfl
@[simp] theorem State.setCtCell_dcOld (s : State) (r : CtReg) (v : Word) : (s.setCtCell r v).dcOld = s.dcOld := rfl
@[simp] theorem State.setCtCell_xlat (s : State) (r : CtReg) (v : Word) : (s.setCtCell r v).xlat = s.xlat := rfl
@[simp] theorem State.setCtCell_xlatOlds (s : State) (r : CtReg) (v : Word) : (s.setCtCell r v).xlatOlds = s.xlatOlds := rfl
@[simp] theorem State.setCtCell_emitted (s : State) (r : CtReg) (v : Word) : (s.setCtCell r v).emitted = s.emitted := rfl
@[simp] theorem State.setCtCell_env (s : State) (r : CtReg) (v : Word) : (s.setCtCell r v).env = s.env := rfl
@[simp] theorem State.setCtCell_mid (s : State) (r : CtReg) (v : Word) : (s.setCtCell r v).mid = s.mid := rfl
@[simp] theorem State.setCtCell_tick (s : State) (r : CtReg) (v : Word) : (s.setCtCell r v).tick = s.tick := rfl
@[simp] theorem State.setCtCell_cfg (s : State) (r : CtReg) (v : Word) : (s.setCtCell r v).cfg = s.cfg := rfl

@[simp] theorem State.setTtCell_th (s : State) (r : TtReg) (v : Word) : (s.setTtCell r v).th = { s.th with tt := s.th.tt.set r.index.val v r.index.isLt } := rfl
@[simp] theorem State.setTtCell_others (s : State) (r : TtReg) (v : Word) : (s.setTtCell r v).others = s.others := rfl
@[simp] theorem State.setTtCell_gd0 (s : State) (r : TtReg) (v : Word) : (s.setTtCell r v).gd0 = s.gd0 := rfl
@[simp] theorem State.setTtCell_gd1 (s : State) (r : TtReg) (v : Word) : (s.setTtCell r v).gd1 = s.gd1 := rfl
@[simp] theorem State.setTtCell_ga0 (s : State) (r : TtReg) (v : Word) : (s.setTtCell r v).ga0 = s.ga0 := rfl
@[simp] theorem State.setTtCell_ga1 (s : State) (r : TtReg) (v : Word) : (s.setTtCell r v).ga1 = s.ga1 := rfl
@[simp] theorem State.setTtCell_volOwner (s : State) (r : TtReg) (v : Word) : (s.setTtCell r v).volOwner = s.volOwner := rfl
@[simp] theorem State.setTtCell_globOwner (s : State) (r : TtReg) (v : Word) : (s.setTtCell r v).globOwner = s.globOwner := rfl
@[simp] theorem State.setTtCell_mem (s : State) (r : TtReg) (v : Word) : (s.setTtCell r v).mem = s.mem := rfl
@[simp] theorem State.setTtCell_icOld (s : State) (r : TtReg) (v : Word) : (s.setTtCell r v).icOld = s.icOld := rfl
@[simp] theorem State.setTtCell_dcOld (s : State) (r : TtReg) (v : Word) : (s.setTtCell r v).dcOld = s.dcOld := rfl
@[simp] theorem State.setTtCell_xlat (s : State) (r : TtReg) (v : Word) : (s.setTtCell r v).xlat = s.xlat := rfl
@[simp] theorem State.setTtCell_xlatOlds (s : State) (r : TtReg) (v : Word) : (s.setTtCell r v).xlatOlds = s.xlatOlds := rfl
@[simp] theorem State.setTtCell_emitted (s : State) (r : TtReg) (v : Word) : (s.setTtCell r v).emitted = s.emitted := rfl
@[simp] theorem State.setTtCell_env (s : State) (r : TtReg) (v : Word) : (s.setTtCell r v).env = s.env := rfl
@[simp] theorem State.setTtCell_mid (s : State) (r : TtReg) (v : Word) : (s.setTtCell r v).mid = s.mid := rfl
@[simp] theorem State.setTtCell_tick (s : State) (r : TtReg) (v : Word) : (s.setTtCell r v).tick = s.tick := rfl
@[simp] theorem State.setTtCell_cfg (s : State) (r : TtReg) (v : Word) : (s.setTtCell r v).cfg = s.cfg := rfl

@[simp] theorem State.noteStore_th (s : State) : s.noteStore.th = { s.th with txdefrPrev0 := s.th.txdefr0, txdefrPrev1 := s.th.txdefr1 } := rfl
@[simp] theorem State.noteStore_others (s : State) : s.noteStore.others = s.others := rfl
@[simp] theorem State.noteStore_gd0 (s : State) : s.noteStore.gd0 = s.gd0 := rfl
@[simp] theorem State.noteStore_gd1 (s : State) : s.noteStore.gd1 = s.gd1 := rfl
@[simp] theorem State.noteStore_ga0 (s : State) : s.noteStore.ga0 = s.ga0 := rfl
@[simp] theorem State.noteStore_ga1 (s : State) : s.noteStore.ga1 = s.ga1 := rfl
@[simp] theorem State.noteStore_volOwner (s : State) : s.noteStore.volOwner = s.volOwner := rfl
@[simp] theorem State.noteStore_globOwner (s : State) : s.noteStore.globOwner = s.globOwner := rfl
@[simp] theorem State.noteStore_mem (s : State) : s.noteStore.mem = s.mem := rfl
@[simp] theorem State.noteStore_icOld (s : State) : s.noteStore.icOld = s.icOld := rfl
@[simp] theorem State.noteStore_dcOld (s : State) : s.noteStore.dcOld = s.dcOld := rfl
@[simp] theorem State.noteStore_xlat (s : State) : s.noteStore.xlat = s.xlat := rfl
@[simp] theorem State.noteStore_xlatOlds (s : State) : s.noteStore.xlatOlds = s.xlatOlds := rfl
@[simp] theorem State.noteStore_emitted (s : State) : s.noteStore.emitted = s.emitted := rfl
@[simp] theorem State.noteStore_env (s : State) : s.noteStore.env = s.env := rfl
@[simp] theorem State.noteStore_mid (s : State) : s.noteStore.mid = s.mid := rfl
@[simp] theorem State.noteStore_tick (s : State) : s.noteStore.tick = s.tick := rfl
@[simp] theorem State.noteStore_cfg (s : State) : s.noteStore.cfg = s.cfg := rfl

@[simp] theorem State.push_th (s : State) (e : Todo) : (s.push e).th = { s.th with todo := s.th.todo ++ [e] } := rfl
@[simp] theorem State.push_others (s : State) (e : Todo) : (s.push e).others = s.others := rfl
@[simp] theorem State.push_gd0 (s : State) (e : Todo) : (s.push e).gd0 = s.gd0 := rfl
@[simp] theorem State.push_gd1 (s : State) (e : Todo) : (s.push e).gd1 = s.gd1 := rfl
@[simp] theorem State.push_ga0 (s : State) (e : Todo) : (s.push e).ga0 = s.ga0 := rfl
@[simp] theorem State.push_ga1 (s : State) (e : Todo) : (s.push e).ga1 = s.ga1 := rfl
@[simp] theorem State.push_volOwner (s : State) (e : Todo) : (s.push e).volOwner = s.volOwner := rfl
@[simp] theorem State.push_globOwner (s : State) (e : Todo) : (s.push e).globOwner = s.globOwner := rfl
@[simp] theorem State.push_mem (s : State) (e : Todo) : (s.push e).mem = s.mem := rfl
@[simp] theorem State.push_icOld (s : State) (e : Todo) : (s.push e).icOld = s.icOld := rfl
@[simp] theorem State.push_dcOld (s : State) (e : Todo) : (s.push e).dcOld = s.dcOld := rfl
@[simp] theorem State.push_xlat (s : State) (e : Todo) : (s.push e).xlat = s.xlat := rfl
@[simp] theorem State.push_xlatOlds (s : State) (e : Todo) : (s.push e).xlatOlds = s.xlatOlds := rfl
@[simp] theorem State.push_emitted (s : State) (e : Todo) : (s.push e).emitted = s.emitted := rfl
@[simp] theorem State.push_env (s : State) (e : Todo) : (s.push e).env = s.env := rfl
@[simp] theorem State.push_mid (s : State) (e : Todo) : (s.push e).mid = s.mid := rfl
@[simp] theorem State.push_tick (s : State) (e : Todo) : (s.push e).tick = s.tick := rfl
@[simp] theorem State.push_cfg (s : State) (e : Todo) : (s.push e).cfg = s.cfg := rfl

@[simp] theorem State.fresh_th (s : State) : s.fresh.th = s.th := rfl
@[simp] theorem State.fresh_others (s : State) : s.fresh.others = s.others := rfl
@[simp] theorem State.fresh_gd0 (s : State) : s.fresh.gd0 = s.gd0 := rfl
@[simp] theorem State.fresh_gd1 (s : State) : s.fresh.gd1 = s.gd1 := rfl
@[simp] theorem State.fresh_ga0 (s : State) : s.fresh.ga0 = s.ga0 := rfl
@[simp] theorem State.fresh_ga1 (s : State) : s.fresh.ga1 = s.ga1 := rfl
@[simp] theorem State.fresh_volOwner (s : State) : s.fresh.volOwner = s.volOwner := rfl
@[simp] theorem State.fresh_globOwner (s : State) : s.fresh.globOwner = s.globOwner := rfl
@[simp] theorem State.fresh_mem (s : State) : s.fresh.mem = s.mem := rfl
@[simp] theorem State.fresh_icOld (s : State) : s.fresh.icOld = s.icOld := rfl
@[simp] theorem State.fresh_dcOld (s : State) : s.fresh.dcOld = s.dcOld := rfl
@[simp] theorem State.fresh_xlat (s : State) : s.fresh.xlat = s.xlat := rfl
@[simp] theorem State.fresh_xlatOlds (s : State) : s.fresh.xlatOlds = s.xlatOlds := rfl
@[simp] theorem State.fresh_emitted (s : State) : s.fresh.emitted = s.emitted := rfl
@[simp] theorem State.fresh_env (s : State) : s.fresh.env = s.env := rfl
@[simp] theorem State.fresh_mid (s : State) : s.fresh.mid = s.mid := rfl
@[simp] theorem State.fresh_tick (s : State) : s.fresh.tick = s.tick + 1 := rfl
@[simp] theorem State.fresh_cfg (s : State) : s.fresh.cfg = s.cfg := rfl

@[simp] theorem State.close_th (s : State) : s.close.th = s.th := rfl
@[simp] theorem State.close_others (s : State) : s.close.others = s.others := rfl
@[simp] theorem State.close_gd0 (s : State) : s.close.gd0 = s.gd0 := rfl
@[simp] theorem State.close_gd1 (s : State) : s.close.gd1 = s.gd1 := rfl
@[simp] theorem State.close_ga0 (s : State) : s.close.ga0 = s.ga0 := rfl
@[simp] theorem State.close_ga1 (s : State) : s.close.ga1 = s.ga1 := rfl
@[simp] theorem State.close_volOwner (s : State) : s.close.volOwner = s.volOwner := rfl
@[simp] theorem State.close_globOwner (s : State) : s.close.globOwner = s.globOwner := rfl
@[simp] theorem State.close_mem (s : State) : s.close.mem = s.mem := rfl
@[simp] theorem State.close_icOld (s : State) : s.close.icOld = s.icOld := rfl
@[simp] theorem State.close_dcOld (s : State) : s.close.dcOld = s.dcOld := rfl
@[simp] theorem State.close_xlat (s : State) : s.close.xlat = s.xlat := rfl
@[simp] theorem State.close_xlatOlds (s : State) : s.close.xlatOlds = s.xlatOlds := rfl
@[simp] theorem State.close_emitted (s : State) : s.close.emitted = s.emitted := rfl
@[simp] theorem State.close_env (s : State) : s.close.env = s.env := rfl
@[simp] theorem State.close_mid (s : State) : s.close.mid = [] := rfl
@[simp] theorem State.close_tick (s : State) : s.close.tick = s.tick + 1 := rfl
@[simp] theorem State.close_cfg (s : State) : s.close.cfg = s.cfg := rfl

@[simp] theorem advance_th (s : State) : (advance s).th = { s.th with pc := s.th.pc + 4#32 } := rfl
@[simp] theorem advance_others (s : State) : (advance s).others = s.others := rfl
@[simp] theorem advance_gd0 (s : State) : (advance s).gd0 = s.gd0 := rfl
@[simp] theorem advance_gd1 (s : State) : (advance s).gd1 = s.gd1 := rfl
@[simp] theorem advance_ga0 (s : State) : (advance s).ga0 = s.ga0 := rfl
@[simp] theorem advance_ga1 (s : State) : (advance s).ga1 = s.ga1 := rfl
@[simp] theorem advance_volOwner (s : State) : (advance s).volOwner = s.volOwner := rfl
@[simp] theorem advance_globOwner (s : State) : (advance s).globOwner = s.globOwner := rfl
@[simp] theorem advance_mem (s : State) : (advance s).mem = s.mem := rfl
@[simp] theorem advance_icOld (s : State) : (advance s).icOld = s.icOld := rfl
@[simp] theorem advance_dcOld (s : State) : (advance s).dcOld = s.dcOld := rfl
@[simp] theorem advance_xlat (s : State) : (advance s).xlat = s.xlat := rfl
@[simp] theorem advance_xlatOlds (s : State) : (advance s).xlatOlds = s.xlatOlds := rfl
@[simp] theorem advance_emitted (s : State) : (advance s).emitted = s.emitted := rfl
@[simp] theorem advance_env (s : State) : (advance s).env = s.env := rfl
@[simp] theorem advance_mid (s : State) : (advance s).mid = s.mid := rfl
@[simp] theorem advance_tick (s : State) : (advance s).tick = s.tick := rfl
@[simp] theorem advance_cfg (s : State) : (advance s).cfg = s.cfg := rfl

theorem writeReg_shape (s : State) (u : BUnit) (n : BitVec 5) (v : Word) :
    writeReg s u n v = { s with
      th := { s.th with d0 := (writeReg s u n v).th.d0, d1 := (writeReg s u n v).th.d1, a0 := (writeReg s u n v).th.a0,
                        a1 := (writeReg s u n v).th.a1 }
      gd0 := (writeReg s u n v).gd0, gd1 := (writeReg s u n v).gd1, ga0 := (writeReg s u n v).ga0
      ga1 := (writeReg s u n v).ga1 } := by
  cases u <;> simp only [writeReg] <;> (repeat' split) <;> rfl

@[simp] theorem writeReg_th_tid (s : State) (u : BUnit) (n : BitVec 5) (v : Word) :
    (writeReg s u n v).th.tid = s.th.tid := by rw [writeReg_shape]

@[simp] theorem writeReg_th_pc (s : State) (u : BUnit) (n : BitVec 5) (v : Word) :
    (writeReg s u n v).th.pc = s.th.pc := by rw [writeReg_shape]

@[simp] theorem writeReg_th_pcx (s : State) (u : BUnit) (n : BitVec 5) (v : Word) :
    (writeReg s u n v).th.pcx = s.th.pcx := by rw [writeReg_shape]

@[simp] theorem writeReg_th_flags (s : State) (u : BUnit) (n : BitVec 5) (v : Word) :
    (writeReg s u n v).th.flags = s.th.flags := by rw [writeReg_shape]

@[simp] theorem writeReg_th_istat (s : State) (u : BUnit) (n : BitVec 5) (v : Word) :
    (writeReg s u n v).th.istat = s.th.istat := by rw [writeReg_shape]

@[simp] theorem writeReg_th_ct (s : State) (u : BUnit) (n : BitVec 5) (v : Word) :
    (writeReg s u n v).th.ct = s.th.ct := by rw [writeReg_shape]

@[simp] theorem writeReg_th_txdefr0 (s : State) (u : BUnit) (n : BitVec 5) (v : Word) :
    (writeReg s u n v).th.txdefr0 = s.th.txdefr0 := by rw [writeReg_shape]

@[simp] theorem writeReg_th_txdefr1 (s : State) (u : BUnit) (n : BitVec 5) (v : Word) :
    (writeReg s u n v).th.txdefr1 = s.th.txdefr1 := by rw [writeReg_shape]

@[simp] theorem writeReg_th_txdefrPrev0 (s : State) (u : BUnit) (n : BitVec 5) (v : Word) :
    (writeReg s u n v).th.txdefrPrev0 = s.th.txdefrPrev0 := by rw [writeReg_shape]

@[simp] theorem writeReg_th_txdefrPrev1 (s : State) (u : BUnit) (n : BitVec 5) (v : Word) :
    (writeReg s u n v).th.txdefrPrev1 = s.th.txdefrPrev1 := by rw [writeReg_shape]

@[simp] theorem writeReg_th_failedAccess (s : State) (u : BUnit) (n : BitVec 5) (v : Word) :
    (writeReg s u n v).th.failedAccess = s.th.failedAccess := by rw [writeReg_shape]

@[simp] theorem writeReg_th_trig0 (s : State) (u : BUnit) (n : BitVec 5) (v : Word) :
    (writeReg s u n v).th.trig0 = s.th.trig0 := by rw [writeReg_shape]

@[simp] theorem writeReg_th_trig1 (s : State) (u : BUnit) (n : BitVec 5) (v : Word) :
    (writeReg s u n v).th.trig1 = s.th.trig1 := by rw [writeReg_shape]

@[simp] theorem writeReg_th_txmask (s : State) (u : BUnit) (n : BitVec 5) (v : Word) :
    (writeReg s u n v).th.txmask = s.th.txmask := by rw [writeReg_shape]

@[simp] theorem writeReg_th_txmaski (s : State) (u : BUnit) (n : BitVec 5) (v : Word) :
    (writeReg s u n v).th.txmaski = s.th.txmaski := by rw [writeReg_shape]

@[simp] theorem writeReg_th_kickCount (s : State) (u : BUnit) (n : BitVec 5) (v : Word) :
    (writeReg s u n v).th.kickCount = s.th.kickCount := by rw [writeReg_shape]

@[simp] theorem writeReg_th_tt (s : State) (u : BUnit) (n : BitVec 5) (v : Word) :
    (writeReg s u n v).th.tt = s.th.tt := by rw [writeReg_shape]

@[simp] theorem writeReg_th_ttrec (s : State) (u : BUnit) (n : BitVec 5) (v : Word) :
    (writeReg s u n v).th.ttrec = s.th.ttrec := by rw [writeReg_shape]

@[simp] theorem writeReg_th_rdq (s : State) (u : BUnit) (n : BitVec 5) (v : Word) :
    (writeReg s u n v).th.rdq = s.th.rdq := by rw [writeReg_shape]

@[simp] theorem writeReg_th_linkFlag (s : State) (u : BUnit) (n : BitVec 5) (v : Word) :
    (writeReg s u n v).th.linkFlag = s.th.linkFlag := by rw [writeReg_shape]

@[simp] theorem writeReg_th_linkAddr (s : State) (u : BUnit) (n : BitVec 5) (v : Word) :
    (writeReg s u n v).th.linkAddr = s.th.linkAddr := by rw [writeReg_shape]

@[simp] theorem writeReg_th_linkHit (s : State) (u : BUnit) (n : BitVec 5) (v : Word) :
    (writeReg s u n v).th.linkHit = s.th.linkHit := by rw [writeReg_shape]

@[simp] theorem writeReg_th_runState (s : State) (u : BUnit) (n : BitVec 5) (v : Word) :
    (writeReg s u n v).th.runState = s.th.runState := by rw [writeReg_shape]

@[simp] theorem writeReg_th_todo (s : State) (u : BUnit) (n : BitVec 5) (v : Word) :
    (writeReg s u n v).th.todo = s.th.todo := by rw [writeReg_shape]

@[simp] theorem writeReg_th_icachePending (s : State) (u : BUnit) (n : BitVec 5) (v : Word) :
    (writeReg s u n v).th.icachePending = s.th.icachePending := by rw [writeReg_shape]

@[simp] theorem writeReg_th_lastException (s : State) (u : BUnit) (n : BitVec 5) (v : Word) :
    (writeReg s u n v).th.lastException = s.th.lastException := by rw [writeReg_shape]

@[simp] theorem writeReg_th_exModes (s : State) (u : BUnit) (n : BitVec 5) (v : Word) :
    (writeReg s u n v).th.exModes = s.th.exModes := by rw [writeReg_shape]

@[simp] theorem writeReg_others (s : State) (u : BUnit) (n : BitVec 5) (v : Word) :
    (writeReg s u n v).others = s.others := by rw [writeReg_shape]

@[simp] theorem writeReg_volOwner (s : State) (u : BUnit) (n : BitVec 5) (v : Word) :
    (writeReg s u n v).volOwner = s.volOwner := by rw [writeReg_shape]

@[simp] theorem writeReg_globOwner (s : State) (u : BUnit) (n : BitVec 5) (v : Word) :
    (writeReg s u n v).globOwner = s.globOwner := by rw [writeReg_shape]

@[simp] theorem writeReg_mem (s : State) (u : BUnit) (n : BitVec 5) (v : Word) :
    (writeReg s u n v).mem = s.mem := by rw [writeReg_shape]

@[simp] theorem writeReg_icOld (s : State) (u : BUnit) (n : BitVec 5) (v : Word) :
    (writeReg s u n v).icOld = s.icOld := by rw [writeReg_shape]

@[simp] theorem writeReg_dcOld (s : State) (u : BUnit) (n : BitVec 5) (v : Word) :
    (writeReg s u n v).dcOld = s.dcOld := by rw [writeReg_shape]

@[simp] theorem writeReg_xlat (s : State) (u : BUnit) (n : BitVec 5) (v : Word) :
    (writeReg s u n v).xlat = s.xlat := by rw [writeReg_shape]

@[simp] theorem writeReg_xlatOlds (s : State) (u : BUnit) (n : BitVec 5) (v : Word) :
    (writeReg s u n v).xlatOlds = s.xlatOlds := by rw [writeReg_shape]

@[simp] theorem writeReg_emitted (s : State) (u : BUnit) (n : BitVec 5) (v : Word) :
    (writeReg s u n v).emitted = s.emitted := by rw [writeReg_shape]

@[simp] theorem writeReg_env (s : State) (u : BUnit) (n : BitVec 5) (v : Word) :
    (writeReg s u n v).env = s.env := by rw [writeReg_shape]

@[simp] theorem writeReg_mid (s : State) (u : BUnit) (n : BitVec 5) (v : Word) :
    (writeReg s u n v).mid = s.mid := by rw [writeReg_shape]

@[simp] theorem writeReg_tick (s : State) (u : BUnit) (n : BitVec 5) (v : Word) :
    (writeReg s u n v).tick = s.tick := by rw [writeReg_shape]

@[simp] theorem writeReg_cfg (s : State) (u : BUnit) (n : BitVec 5) (v : Word) :
    (writeReg s u n v).cfg = s.cfg := by rw [writeReg_shape]

end Sys2Proof.Machine
end

