-- ==== Sys2Proof/Laws/Memory.lean ====
section
/-! SUPPORT. The memory: what a read after a write gives, and that every operation over memory keeps the canonical form. -/

namespace Sys2Proof.Machine

theorem Memory.wfFrom_mono {m : Memory} {lo lo' : Nat} (h : lo' ≤ lo) (hm : Memory.wfFrom lo m = true) :
    Memory.wfFrom lo' m = true := by
  cases m with
  | nil => rfl
  | cons c m =>
    obtain ⟨k, v⟩ := c
    simp only [Memory.wfFrom, Bool.and_eq_true, decide_eq_true_eq] at hm ⊢
    exact ⟨⟨⟨le_trans h hm.1.1.1, hm.1.1.2⟩, hm.1.2⟩, hm.2⟩

theorem Memory.get_below {m : Memory} {lo a : Nat} (hm : Memory.wfFrom lo m = true) (ha : a < lo) :
    Memory.get m a = Memory.background := by
  induction m generalizing lo with
  | nil => rfl
  | cons c m ih =>
    obtain ⟨k, v⟩ := c
    simp only [Memory.wfFrom, Bool.and_eq_true, decide_eq_true_eq] at hm
    rw [Memory.get, if_neg (by omega), ih hm.2 (by omega)]

/-- A write leaves every other address alone, whatever the form of the memory. -/
theorem Memory.get_set_of_ne (m : Memory) {a b : Nat} (v : Byte) (h : b ≠ a) :
    Memory.get (Memory.set m a v) b = Memory.get m b := by
  induction m with
  | nil => simp only [Memory.set]; split <;> simp [Memory.get, h.symm]
  | cons c m ih =>
    obtain ⟨k, w⟩ := c
    simp only [Memory.set]
    split
    · split <;> simp [Memory.get, h.symm]
    · split
      · rename_i hak
        subst hak
        split <;> simp [Memory.get, Ne.symm h]
      · simp [Memory.get, ih]

/-- A read after a write to the same address, in a canonical memory. -/
theorem Memory.get_set_self {m : Memory} {lo : Nat} (hm : Memory.wfFrom lo m = true) (a : Nat) (v : Byte) :
    Memory.get (Memory.set m a v) a = v := by
  induction m generalizing lo with
  | nil => simp only [Memory.set]; split <;> simp_all [Memory.get]
  | cons c m ih =>
    obtain ⟨k, w⟩ := c
    simp only [Memory.wfFrom, Bool.and_eq_true, decide_eq_true_eq] at hm
    simp only [Memory.set]
    split
    · rename_i hlt
      split
      · rename_i hv
        rw [Memory.get, if_neg (by omega), Memory.get_below hm.2 (by omega), hv]
      · simp [Memory.get]
    · split
      · rename_i hak
        split
        · rename_i hv
          rw [Memory.get_below hm.2 (by omega), hv]
        · simp [Memory.get]
      · rename_i hne
        rw [Memory.get, if_neg (fun h => hne h.symm), ih hm.2]

/-- A read after a write. -/
theorem Memory.get_set {m : Memory} (hm : m.wf = true) (a b : Nat) (v : Byte) :
    Memory.get (Memory.set m a v) b = if b = a then v else Memory.get m b := by
  split
  · rename_i h; rw [h, Memory.get_set_self hm]
  · rename_i h; exact Memory.get_set_of_ne m v h

theorem Memory.wfFrom_set {m : Memory} {lo a : Nat} (hm : Memory.wfFrom lo m = true) (hlo : lo ≤ a) (ha : a < 2 ^ 32)
    (v : Byte) : Memory.wfFrom lo (Memory.set m a v) = true := by
  induction m generalizing lo with
  | nil => simp only [Memory.set]; split <;> simp_all [Memory.wfFrom]
  | cons c m ih =>
    obtain ⟨k, w⟩ := c
    have hm' := hm
    simp only [Memory.wfFrom, Bool.and_eq_true, decide_eq_true_eq, bne_iff_ne, ne_eq] at hm'
    obtain ⟨⟨⟨h1, h2⟩, h3⟩, h4⟩ := hm'
    simp only [Memory.set]
    split
    · rename_i hlt
      split
      · exact hm
      · rename_i hv
        simp only [Memory.wfFrom, Bool.and_eq_true, decide_eq_true_eq, bne_iff_ne, ne_eq]
        exact ⟨⟨⟨hlo, ha⟩, hv⟩, ⟨⟨by omega, h2⟩, h3⟩, h4⟩
    · split
      · rename_i hak
        split
        · exact Memory.wfFrom_mono (by omega) h4
        · rename_i hv
          simp only [Memory.wfFrom, Bool.and_eq_true, decide_eq_true_eq, bne_iff_ne, ne_eq]
          exact ⟨⟨⟨hlo, ha⟩, hv⟩, by rw [hak]; exact h4⟩
      · rename_i h5 h6
        simp only [Memory.wfFrom, Bool.and_eq_true, decide_eq_true_eq, bne_iff_ne, ne_eq]
        exact ⟨⟨⟨h1, h2⟩, h3⟩, ih h4 (by omega)⟩

/-- A write of an address of the 32-bit space keeps the canonical form. -/
theorem Memory.wf_set {m : Memory} (hm : m.wf = true) (a : Word) (v : Byte) : (m.set a.toNat v).wf = true :=
  Memory.wfFrom_set hm (Nat.zero_le _) a.isLt v

theorem State.reset_mem_wf : State.reset.mem.wf = true := rfl

theorem State.storeByte_mem (s : State) (pa : Word) (v : Byte) : (s.storeByte pa v).mem = s.mem.set pa.toNat v := rfl

theorem State.storeByte_wf {s : State} (h : s.mem.wf = true) (pa : Word) (v : Byte) :
    (s.storeByte pa v).mem.wf = true := Memory.wf_set h pa v

theorem State.storeBytes_wf {s : State} (h : s.mem.wf = true) (pa : Word) (n v : Nat) :
    (s.storeBytes pa n v).mem.wf = true := by
  induction n generalizing s pa v with
  | zero => exact h
  | succ n ih => exact ih (State.storeByte_wf h pa _) _ _

theorem State.storeFree_wf {s : State} (h : s.mem.wf = true) (pa : Word) (n : Nat) :
    (s.storeFree pa n).mem.wf = true := by
  induction n generalizing s pa with
  | zero => exact h
  | succ n ih => exact ih (State.storeByte_wf h pa _) _

theorem State.foreignByte_wf {s : State} (h : s.mem.wf = true) (c : Word × Byte) : (s.foreignByte c).mem.wf = true :=
  Memory.wf_set h c.1 c.2

theorem foldl_foreignByte_wf {s : State} (h : s.mem.wf = true) (l : List (Word × Byte)) :
    (l.foldl State.foreignByte s).mem.wf = true := by
  induction l generalizing s with
  | nil => exact h
  | cons c l ih => exact ih (State.foreignByte_wf h c)

theorem interleave_wf {s : State} (h : s.mem.wf = true) : (interleave s).mem.wf = true := by
  unfold interleave
  split
  · exact h
  · exact foldl_foreignByte_wf (by exact h) _
  · exact h

theorem State.placeByte_wf {s : State} (h : s.mem.wf = true) (pa : Word) (v : Byte) :
    (s.placeByte pa v).mem.wf = true := Memory.wf_set h pa v

theorem State.placeWord_wf {s : State} (h : s.mem.wf = true) (pa w : Word) : (s.placeWord pa w).mem.wf = true :=
  State.placeByte_wf (State.placeByte_wf (State.placeByte_wf (State.placeByte_wf h _ _) _ _) _ _) _ _

/-- Outside a run of stored bytes every address reads as before. -/
theorem State.storeBytes_get_of_ne (s : State) (pa : Word) (n v : Nat) (a : Nat)
    (h : ∀ k < n, a ≠ (pa + BitVec.ofNat 32 k).toNat) : (s.storeBytes pa n v).mem.get a = s.mem.get a := by
  induction n generalizing s pa v with
  | zero => rfl
  | succ n ih =>
    have h0 : a ≠ pa.toNat := by simpa using h 0 (Nat.succ_pos n)
    rw [State.storeBytes, ih, State.storeByte_mem, Memory.get_set_of_ne _ _ h0]
    intro k hk
    have := h (k + 1) (by omega)
    rwa [show pa + 1#32 + BitVec.ofNat 32 k = pa + BitVec.ofNat 32 (k + 1) by
      rw [BitVec.add_assoc]; congr 1; apply BitVec.eq_of_toNat_eq; simp [Nat.add_comm]]

/-- The bytes of a store of `n` bytes, `n` at most 8, in a canonical memory: byte `k` lies at the address plus `k`. -/
theorem State.storeBytes_get {s : State} (hm : s.mem.wf = true) (pa : Word) (n v : Nat) (hn : n ≤ 8) (k : Nat)
    (hk : k < n) : (s.storeBytes pa n v).mem.get (pa + BitVec.ofNat 32 k).toNat = BitVec.ofNat 8 (v / 256 ^ k) := by
  induction n generalizing s pa v k with
  | zero => omega
  | succ n ih =>
    cases k with
    | zero =>
      rw [State.storeBytes, State.storeBytes_get_of_ne]
      · rw [State.storeByte_mem]; simp [Memory.get_set_self hm]
      · intro j hj hEq
        have := congrArg (BitVec.ofNat 32) hEq
        simp only [BitVec.ofNat_toNat, BitVec.setWidth_eq] at this
        have h2 : BitVec.ofNat 32 (j + 1) = 0#32 := by
          have : pa + BitVec.ofNat 32 0 = pa + BitVec.ofNat 32 (j + 1) := by
            rw [this, BitVec.add_assoc]; congr 1; apply BitVec.eq_of_toNat_eq; simp [Nat.add_comm]
          simpa using this.symm
        have h3 := congrArg BitVec.toNat h2
        simp only [BitVec.toNat_ofNat] at h3
        omega
    | succ k =>
      rw [State.storeBytes, show pa + BitVec.ofNat 32 (k + 1) = pa + 1#32 + BitVec.ofNat 32 k by
        rw [BitVec.add_assoc]; congr 1; apply BitVec.eq_of_toNat_eq; simp [Nat.add_comm],
        ih (State.storeByte_wf hm pa _) _ _ (by omega) _ (by omega), Nat.div_div_eq_div_mul, Nat.pow_succ, Nat.mul_comm]

end Sys2Proof.Machine
end

