-- ==== Sys2Proof/Laws/Ops.lean ====
section
/-! SUPPORT. The registers: what a read after a write gives. The accesses: when one happens at once. -/

namespace Sys2Proof.Machine

theorem vector_get_set {α : Type} {n : Nat} [NeZero n] (xs : Vector α n) (i : Nat) (x : α) (hi : i < n) (j : Nat) :
    (xs.set i x hi).get (Fin.ofNat n j) = if i = j % n then x else xs.get (Fin.ofNat n j) := by
  show (xs.set i x hi)[j % n]'(Nat.mod_lt _ (Nat.pos_of_neZero n)) = _
  rw [Vector.getElem_set]; rfl

/-- A write leaves the registers of every other unit alone. -/
theorem readReg_writeReg_other_unit (s : State) {u u' : BUnit} (n n' : BitVec 5) (v : Word) (k : Nat) (h : u' ≠ u) :
    readReg (writeReg s u n v) u' n' k = readReg s u' n' k := by
  cases u <;> cases u' <;> first | exact absurd rfl h | (simp only [writeReg]; (repeat' split) <;> rfl)

/-- A read after a write, in full. -/
theorem readReg_writeReg (s : State) (u u' : BUnit) (n n' : BitVec 5) (v : Word) (k : Nat) :
    readReg (writeReg s u n v) u' n' k =
      if u' = u ∧ n' = n ∧ regPresent s u n = true then v else readReg s u' n' k := by
  by_cases hu : u' = u
  · subst hu
    have hn := n.isLt
    have hn' := n'.isLt
    have he : n' = n ↔ n'.toNat = n.toNat := BitVec.toNat_inj.symm
    cases hd : s.cfg.dspRegs <;> cases u' <;> simp only [readReg, writeReg, readData, readAddr, regPresent, BUnit.isData, he, true_and, if_true,
        Bool.false_eq_true, if_false, Bool.or_eq_true, Bool.and_eq_true, decide_eq_true_eq] <;>
      (repeat' split) <;> (try rw [vector_get_set]) <;> (try split) <;>
      first | rfl | omega | (simp only [hd, or_false, or_true, and_false, and_true, Bool.false_eq_true, not_true_eq_false] at * <;> (try (exfalso; omega)))
  · rw [if_neg (fun h => hu h.1), readReg_writeReg_other_unit s n n' v k hu]

/-- A write of a register that is not there does nothing. -/
theorem writeReg_of_absent (s : State) (u : BUnit) (n : BitVec 5) (v : Word) (h : regPresent s u n = false) :
    writeReg s u n v = s := by
  cases u <;> simp only [regPresent, BUnit.isData, if_true, Bool.false_eq_true, if_false, Bool.or_eq_false_iff,
    Bool.and_eq_false_iff, decide_eq_false_iff_not] at h <;> simp only [writeReg, Bool.or_eq_true, decide_eq_true_eq] <;>
    (repeat' split) <;> first | rfl | (exfalso; simp_all; try omega)

/-- With nothing from outside and nothing still to come an access happens at once. -/
theorem State.defer_of_quiet {s : State} (hm : s.mid = []) (ht : s.th.todo = []) (e : Todo) (act : State → State) :
    s.defer e act = act s := by
  simp [State.defer, interleave, State.givesWay, hm, ht]

/-- What is still to come stays in order: an access after it is added at its end. -/
theorem State.defer_of_todo {s : State} (ht : s.th.todo ≠ []) (e : Todo) (act : State → State) :
    s.defer e act = s.push e := by
  simp [State.defer, ht]

/-- Where the instruction gives way the access is still to come. -/
theorem State.defer_of_givesWay {s : State} (h : s.givesWay = true) (e : Todo) (act : State → State) :
    s.defer e act = s.push e := by
  simp [State.defer, h]

theorem State.event_of_quiet {s : State} (hm : s.mid = []) (ht : s.th.todo = []) (e : Todo) : s.event e = e.act s :=
  State.defer_of_quiet hm ht _ _

end Sys2Proof.Machine
end

