-- ==== Sys2Proof/Laws/Access.lean ====
section
/-! SUPPORT. Everything a write of registers, a memory read and a memory write can do, in the vocabulary of the
statements. -/

namespace Sys2Proof.Claims
open Sys2Proof.Machine

theorem readReg_congr (s t : State) (hd0 : t.th.d0 = s.th.d0) (hd1 : t.th.d1 = s.th.d1) (ha0 : t.th.a0 = s.th.a0)
    (ha1 : t.th.a1 = s.th.a1) (g0 : t.gd0 = s.gd0) (g1 : t.gd1 = s.gd1) (g2 : t.ga0 = s.ga0) (g3 : t.ga1 = s.ga1)
    (hpc : t.th.pc = s.th.pc) (hc : t.cfg = s.cfg) (ht : t.tick = s.tick) (u n k) : readReg t u n k =
        readReg s u n k := by
  cases u <;> simp only [readReg, readData, readAddr, *]

theorem readReg_congr_present (s t : State) (hd0 : t.th.d0 = s.th.d0) (hd1 : t.th.d1 = s.th.d1)
    (ha0 : t.th.a0 = s.th.a0)
    (ha1 : t.th.a1 = s.th.a1) (g0 : t.gd0 = s.gd0) (g1 : t.gd1 = s.gd1) (g2 : t.ga0 = s.ga0) (g3 : t.ga1 = s.ga1)
    (hc : t.cfg = s.cfg) (ht : t.tick = s.tick) (u n k) (hp : regPresent s u n = true) : readReg t u n k =
        readReg s u n k := by
  cases u
  · simp only [readReg, readData, *]
  · simp only [readReg, readData, *]
  all_goals
    simp only [regPresent, BUnit.isData, Bool.false_eq_true, if_false, Bool.or_eq_true, Bool.and_eq_true,
        decide_eq_true_eq] at hp
    simp only [readReg, readAddr, *]
    split
    · rfl
    · rw [if_pos (by omega), if_pos (by omega)]

theorem regPresent_congr (s t : State) (hc : t.cfg = s.cfg) (u n) : regPresent t u n = regPresent s u n := by
  simp only [regPresent, hc]

theorem writeReg_gprWrite (s : State) (u : BUnit) (n : BitVec 5) (v : Word) :
    GprWrite s (writeReg s u n v) u n v where
  value h k := by rw [readReg_writeReg, if_pos ⟨rfl, rfl, h⟩]
  others u' n' k _ hn := by
    rw [readReg_writeReg, if_neg]
    rintro ⟨rfl, rfl, _⟩; simp at hn
  pc := by simp
  flags := by simp
  rest := by unfold OnlyRegs; cases u <;> simp only [writeReg] <;> (repeat' split) <;> rfl
  bytes a := by simp

theorem writePair_pairWrite (s : State) (u : BUnit) (n1 n2 : BitVec 5) (v : DWord) :
    PairWrite s (writePair s u n1 n2 v) u n1 n2 v where
  low h k := by
    unfold writePair
    rw [readReg_writeReg, if_neg (by rintro ⟨h, _⟩; cases u <;> cases h), readReg_writeReg, if_pos ⟨rfl, rfl, h⟩]; rfl
  high h k := by
    unfold writePair
    rw [readReg_writeReg, if_pos ⟨rfl, rfl, by rwa [regPresent_congr s _ (by simp)]⟩]; rfl
  others u' n' k _ hn := by
    simp at hn
    unfold writePair
    rw [readReg_writeReg, if_neg (by rintro ⟨rfl, rfl, _⟩; simp at hn), readReg_writeReg, if_neg
        (by rintro ⟨rfl, rfl, _⟩; simp at hn)]
  pc := by simp [writePair]
  flags := by simp [writePair]
  rest := by
    have h1 := (writeReg_gprWrite s u n1 (lowWord v)).rest
    have h2 := (writeReg_gprWrite (writeReg s u n1 (lowWord v)) u.opp n2 (highWord v)).rest
    unfold OnlyRegs at *
    unfold writePair
    rw [h2]
    generalize writeReg (writeReg s u n1 (lowWord v)) u.opp n2 (highWord v) = t2 at *
    rw [h1]
  bytes a := by simp [writePair]

theorem interleave_nil {s : State} (h : s.mid = []) : interleave s = s := by simp [interleave, h]

theorem loadBytes_lt (s : State) (pa : Word) (n : Nat) : s.loadBytes pa n < 256 ^ n := by
  induction n generalizing pa with
  | zero => simp [State.loadBytes]
  | succ n ih =>
    have := ih (pa + 1#32); have h2 := (s.dataByte pa).isLt
    simp only [State.loadBytes]; rw [Nat.pow_succ]; omega

theorem ramWord_eq (s : State) (pa : Word) : BitVec.ofNat 32 (s.loadBytes pa 4) = ramWord s pa := by
  have e : pa + 1#32 + 1#32 = pa + 2#32 := by bv_omega
  have e2 : pa + 2#32 + 1#32 = pa + 3#32 := by bv_omega
  apply BitVec.eq_of_toNat_eq
  have h0 := (s.dataByte pa).isLt
  have h1 := (s.dataByte (pa+1#32)).isLt
  have h2 := (s.dataByte (pa+2#32)).isLt
  have h3 := (s.dataByte (pa+3#32)).isLt
  simp only [State.loadBytes, e, e2, ramWord, BitVec.toNat_append, BitVec.toNat_ofNat]
  rw [← Nat.shiftLeft_add_eq_or_of_lt (by omega), ← Nat.shiftLeft_add_eq_or_of_lt (by omega),
      ← Nat.shiftLeft_add_eq_or_of_lt (by omega)]
  omega

theorem ramValue_eq (s : State) (pa : Word) (sz : Size) (h : sz ≠ .l) :
    BitVec.ofNat 64 (s.loadBytes pa sz.bytes) = ramValue s pa sz := by
  cases sz
  · apply BitVec.eq_of_toNat_eq
    have h0 := (s.dataByte pa).isLt
    simp [Size.bytes, State.loadBytes, ramValue]
  · apply BitVec.eq_of_toNat_eq
    have h0 := (s.dataByte pa).isLt
    have h1 := (s.dataByte (pa+1#32)).isLt
    simp only [Size.bytes, State.loadBytes, ramValue, BitVec.toNat_setWidth, BitVec.toNat_append, BitVec.toNat_ofNat]
    rw [← Nat.shiftLeft_add_eq_or_of_lt (by omega)]
    omega
  · simp only [ramValue, ← ramWord_eq]
    apply BitVec.eq_of_toNat_eq
    have := loadBytes_lt s pa 4
    simp only [Size.bytes, BitVec.toNat_setWidth, BitVec.toNat_ofNat]; omega
  · exact absurd rfl h

theorem ramValueL_eq (s : State) (pa : Word) :
    lowWord (BitVec.ofNat 64 (s.loadBytes (pa + 4#32) 4)) ++ lowWord (BitVec.ofNat 64 (s.loadBytes pa 4)) =
      ramValue s pa .l := by
  have e : ∀ n, lowWord (BitVec.ofNat 64 n) = BitVec.ofNat 32 n := by
    intro n; apply BitVec.eq_of_toNat_eq; simp only [lowWord, BitVec.extractLsb'_toNat, BitVec.toNat_ofNat]; omega
  simp only [ramValue, ← ramWord_eq, e]

theorem trunc_trunc (sz : Size) (v : DWord) : Size.trunc sz (Size.trunc sz v) = Size.trunc sz v := by
  cases sz <;> simp only [Size.trunc] <;>
      (try (apply BitVec.eq_of_toNat_eq; simp only [BitVec.toNat_setWidth]; omega))

/-- What reading the located data of a size gives: the value and the state after both accesses. -/
def readLocated (p : Source × Option Source) (sz : Size) (s : State) : DWord × State :=
  match p.2 with
  | none => p.1.read sz s
  | some hi =>
    ((lowWord (hi.read .d (p.1.read .d s).2).1) ++ lowWord (p.1.read .d s).1, (hi.read .d (p.1.read .d s).2).2)

/-- Nothing but the deferred state of the thread differs. -/
def SameButReport (s t : State) : Prop :=
  ∃ (t0 t1 : Word) (g0 g1 : BitVec 16) (b : Bool), t = { s with
    th := { s.th with txdefr0 := t0, txdefr1 := t1, trig0 := g0, trig1 := g1, failedAccess := b } }

theorem setTxdefr_shape (t : Thread) (l : Bool) (v : Word) : t.setTxdefr l v = { t with
    txdefr0 := if l then t.txdefr0 else v, txdefr1 := if l then v else t.txdefr1 } := by cases l <;> rfl

theorem raiseTrigger_shape (t : Thread) (l : Bool) (b : BitVec 4) : t.raiseTrigger l b = { t with
    trig0 := if l then t.trig0 else t.trig0 ||| oneTrigger b
    trig1 := if l then t.trig1 ||| oneTrigger b else t.trig1 } := by cases l <;> rfl

theorem SameButReport.trans {s t u : State} (h : SameButReport s t) (h' : SameButReport t u) : SameButReport s u := by
  obtain ⟨_, _, _, _, _, rfl⟩ := h
  obtain ⟨_, _, _, _, _, rfl⟩ := h'
  exact ⟨_, _, _, _, _, rfl⟩

theorem reportCode_same (s : State) (c : BitVec 6) : SameButReport s (s.reportCode c) := by
  have h : ∀ v, SameButReport s { s with th := s.th.setTxdefr s.th.istat v } := by
    intro v; rw [setTxdefr_shape]; exact ⟨_, _, _, _, _, rfl⟩
  exact h _

theorem raiseDeferred_same (s : State) : SameButReport s s.raiseDeferred := by
  have h : SameButReport s { s with th := s.th.raiseTrigger s.th.istat s.cfg.defrBit } := by
    rw [raiseTrigger_shape]; exact ⟨_, _, _, _, _, rfl⟩
  exact h

theorem reportFailure_same (s : State) : SameButReport s s.reportFailure :=
  ((reportCode_same s _).trans (raiseDeferred_same _)).trans ⟨_, _, _, _, _, rfl⟩

theorem SameButReport.refl (s : State) : SameButReport s s :=
  ⟨s.th.txdefr0, s.th.txdefr1, s.th.trig0, s.th.trig1, s.th.failedAccess, rfl⟩

/-- Everything that locating the data of a read can do. -/
theorem locate_cases (s : State) (slot a sz) :
    (∃ p s1, locate s slot a sz = .ok p s1 ∧ SameButReport s s1 ∧ (p.2 ≠ none → sz = .l) ∧
      (sz ≠ .l → p.2 = none) ∧ Reads s slot a sz (readLocated p sz s1).1 (readLocated p sz s1).2) ∨
    (locate s slot a sz = .exc (.memoryFault a .read) ∧ s.cfg.memErrorMode = .sync ∧
      (s.target slot a = none ∨ aligned a sz = false)) := by
  have hfail : (s.target slot a = none ∨ aligned a sz = false) → locate s slot a sz = failedRead s slot a sz →
      (∃ p s1, locate s slot a sz = .ok p s1 ∧ SameButReport s s1 ∧ (p.2 ≠ none → sz = .l) ∧
        (sz ≠ .l → p.2 = none) ∧ Reads s slot a sz (readLocated p sz s1).1 (readLocated p sz s1).2) ∨
      (locate s slot a sz = .exc (.memoryFault a .read) ∧ s.cfg.memErrorMode = .sync ∧
        (s.target slot a = none ∨ aligned a sz = false)) := by
    intro h e
    rw [e]
    unfold failedRead
    cases hm : s.cfg.memErrorMode with
    | sync => exact .inr ⟨rfl, rfl, h⟩
    | deferred =>
      exact .inl ⟨_, _, rfl, reportFailure_same s, by simp, by simp, .failed h hm (trunc_trunc _ _)⟩
  by_cases ha : aligned a sz = true
  · cases ht : s.target slot a with
    | none => exact ht ▸ hfail (.inl ht) (by simp [locate, ha, ht])
    | some x =>
      left
      cases x with
      | ram pa =>
        refine ⟨(.ram pa, if sz = .l then some (.ram (pa + 4#32)) else none), s,
          by simp only [locate, ha, ht, if_true], .refl s, by simp, fun h => if_neg h, ?_⟩
        by_cases hl : sz = .l
        · subst hl
          simp only [if_true, readLocated, Source.read, Size.bytes, ramValueL_eq]
          exact .ram ha ht
        · simp only [hl, if_false, readLocated, Source.read]
          rw [ramValue_eq _ _ _ hl]; exact .ram ha ht
      | device d pa =>
        refine ⟨(.device d pa, if sz = .l then some (.device d (pa + 4#32)) else none), s,
          by simp only [locate, ha, ht, if_true], .refl s, by simp, fun h => if_neg h, ?_⟩
        by_cases hl : sz = .l
        · subst hl
          simp only [if_true, readLocated, Source.read, deviceRead]
          exact .deviceL ha ht (trunc_trunc _ _) (trunc_trunc _ _)
        · simp only [hl, if_false, readLocated, Source.read, deviceRead]
          exact .device ht (.inl hl) (trunc_trunc _ _)
  · have ha' : aligned a sz = false := by simpa using ha
    by_cases hf : Config.freeBit s.tick (.misaligned slot a) = true
    · exact hfail (.inr ha') (by simp [locate, ha', hf])
    · cases ht : s.target slot a with
      | none => exact ht ▸ hfail (.inl ht) (by simp [locate, ha', hf, ht])
      | some x =>
        left
        cases x with
        | ram pa =>
          exact ⟨(.value (Size.trunc sz (Config.freeDWord s.tick (.data slot a))), none), s,
            by simp [locate, ha', hf, ht], .refl s, by simp, by simp, .stray ha' ht (trunc_trunc _ _)⟩
        | device d pa =>
          exact ⟨(.device d pa, none), s, by simp [locate, ha', hf, ht], .refl s, by simp, by simp,
            .device ht (.inr ha') (trunc_trunc _ _)⟩

theorem locate_ok {s : State} {slot a sz} (h : Accessible s slot a sz) :
    ∃ p s1, locate s slot a sz = .ok p s1 ∧ SameButReport s s1 ∧ (p.2 ≠ none → sz = .l) ∧ (sz ≠ .l → p.2 = none) ∧
      Reads s slot a sz (readLocated p sz s1).1 (readLocated p sz s1).2 := by
  obtain ⟨_, ha, ht⟩ := h
  rcases locate_cases s slot a sz with h | ⟨_, hs, h⟩
  · exact h
  · rcases h with h | h
    · rcases ht with ht | ht
      · exact absurd h ht
      · rw [ht] at hs; cases hs
    · rw [ha] at h; cases h

theorem locate_fault {s : State} {slot a sz} (h : Faults s slot a sz) :
    locate s slot a sz = .exc (.memoryFault a .read) := by
  obtain ⟨_, ha, ht, hs⟩ := h
  simp only [locate, ha, if_true, ht, failedRead, hs]

/-- The value of a read of at most 32 bits. -/
theorem memRead_cases {s : State} (hq : Quiet s) (slot a) {sz} (hl : sz ≠ .l) :
    (∃ v s1, memRead s slot a sz = .ok v s1 ∧ Reads s slot a sz v s1) ∨
    (memRead s slot a sz = .exc (.memoryFault a .read) ∧ s.cfg.memErrorMode = .sync ∧
      (s.target slot a = none ∨ aligned a sz = false)) := by
  unfold memRead
  rcases locate_cases s slot a sz with ⟨p, s1, e, hs, _, hp, hr⟩ | ⟨e, h⟩
  · left
    have hm : s1.mid = [] := by obtain ⟨_, _, _, _, _, rfl⟩ := hs; exact hq.1
    simp only [e, Res.bind, interleave_nil hm]
    simp only [readLocated, hp hl] at hr
    exact ⟨_, _, rfl, hr⟩
  · right; simp only [e, Res.bind]; exact ⟨trivial, h⟩

theorem memRead_ok {s : State} {slot a sz} (hl : sz ≠ .l) (h : Accessible s slot a sz) :
    ∃ v s1, memRead s slot a sz = .ok v s1 ∧ Reads s slot a sz v s1 := by
  rcases memRead_cases h.1 slot a hl with h1 | ⟨_, hs, h1⟩
  · exact h1
  · obtain ⟨_, ha, ht⟩ := h
    rcases h1 with h | h
    · rcases ht with ht | ht
      · exact absurd h ht
      · rw [ht] at hs; cases hs
    · rw [ha] at h; cases h

theorem memRead_fault {s : State} {slot a sz} (h : Faults s slot a sz) :
    memRead s slot a sz = .exc (.memoryFault a .read) := by
  simp only [memRead, locate_fault h, Res.bind]

theorem Reads.frame {s slot a sz v s1} (h : Reads s slot a sz v s1) :
    ∃ (t0 t1 : Word) (g0 g1 : BitVec 16) (b : Bool) (e : List Emit), s1 = { s with
      th := { s.th with txdefr0 := t0, txdefr1 := t1, trig0 := g0, trig1 := g1, failedAccess := b }
      emitted := e } := by
  cases h with
  | ram _ _ => exact ⟨s.th.txdefr0, s.th.txdefr1, s.th.trig0, s.th.trig1, s.th.failedAccess, s.emitted, rfl⟩
  | stray _ _ _ => exact ⟨s.th.txdefr0, s.th.txdefr1, s.th.trig0, s.th.trig1, s.th.failedAccess, s.emitted, rfl⟩
  | device _ _ _ => exact ⟨s.th.txdefr0, s.th.txdefr1, s.th.trig0, s.th.trig1, s.th.failedAccess, _, rfl⟩
  | deviceL _ _ _ _ => exact ⟨s.th.txdefr0, s.th.txdefr1, s.th.trig0, s.th.trig1, s.th.failedAccess, _, rfl⟩
  | failed _ _ _ =>
    obtain ⟨_, _, _, _, _, e⟩ := reportFailure_same s
    rw [e]; exact ⟨_, _, _, _, _, _, rfl⟩

theorem target_congr (s t : State) (h1 : t.xlatOlds = s.xlatOlds) (h2 : t.xlat = s.xlat) (h3 : t.tick = s.tick)
    (h4 : t.th.tid = s.th.tid) (h5 : t.cfg = s.cfg) (slot a) :
   t.target slot a = s.target slot a := by simp only [State.target, State.translate, State.tableFor, *]

theorem Reads.mem_eq {s slot a sz v s1} (h : Reads s slot a sz v s1) : s1.mem = s.mem := by
  obtain ⟨_, _, _, _, _, _, rfl⟩ := Reads.frame h; rfl

theorem storeBytes_shape (s : State) (pa : Word) (n v : Nat) : s.storeBytes pa n v = { s with
    mem := (s.storeBytes pa n v).mem
    icOld := (s.storeBytes pa n v).icOld
    dcOld := (s.storeBytes pa n v).dcOld
    others := (s.storeBytes pa n v).others } := by
  induction n generalizing s pa v with
  | zero => rfl
  | succ n ih => rw [State.storeBytes]; conv => lhs; rw [ih]
                 rfl

theorem touches_zero (o : Thread) (pa : Word) : touches o pa 0 = false := by
  unfold touches; split <;> simp

theorem touches_succ (o : Thread) (pa : Word) (n : Nat) :
    touches o pa (n + 1) = (touches o pa 1 || touches o (pa + 1#32) n) := by
  unfold touches
  split
  · rfl
  · rename_i l _
    have e : (fun k => (List.range l.size.bytes).any fun j =>
          pa + BitVec.ofNat 32 (Nat.succ k) == l.phys + BitVec.ofNat 32 j) =
        fun k => (List.range l.size.bytes).any fun j =>
          pa + 1#32 + BitVec.ofNat 32 k == l.phys + BitVec.ofNat 32 j := by
      funext k
      rw [show pa + BitVec.ofNat 32 (Nat.succ k) = pa + 1#32 + BitVec.ofNat 32 k by
        rw [BitVec.add_assoc]; congr 1; apply BitVec.eq_of_toNat_eq; simp [Nat.add_comm]]
    rw [List.range_succ_eq_map (n := n)]
    simp only [List.any_cons, List.any_map, Function.comp_def, List.range_one, List.any_nil, Bool.or_false]
    rw [e]

theorem linked_eq (o : Thread) (pa : Word) : o.linked pa = touches o pa 1 := by
  unfold Thread.linked touches
  split
  · rename_i l h
    rw [h]
    have hb : l.size.bytes ≤ 8 := by cases l.size <;> decide
    rw [Bool.eq_iff_iff, decide_eq_true_eq]
    simp only [List.range_one, List.any_cons, List.any_nil, Bool.or_false, List.any_eq_true, List.mem_range,
      BitVec.add_zero, beq_iff_eq]
    constructor
    · intro hlt
      refine ⟨(pa - l.phys).toNat, hlt, ?_⟩
      rw [BitVec.ofNat_toNat, BitVec.setWidth_eq, BitVec.add_comm, BitVec.sub_add_cancel]
    · rintro ⟨j, hj, rfl⟩
      rw [BitVec.add_comm, BitVec.add_sub_cancel, BitVec.toNat_ofNat]
      omega
  · rename_i h; rw [h]

theorem noteWrite_eq (pa : Word) : Thread.noteWrite pa = monitored pa 1 := by
  funext o; simp [Thread.noteWrite, monitored, linked_eq]

theorem monitored_zero (pa : Word) : monitored pa 0 = id := by
  funext o; simp [monitored, touches_zero]

theorem monitored_succ (pa : Word) (n : Nat) : monitored pa (n + 1) = monitored (pa + 1#32) n ∘ monitored pa 1 := by
  funext o
  show { o with linkHit := _ } = { o with linkHit := _ }
  rw [touches_succ, ← Bool.or_assoc]
  rfl

theorem storeBytes_others (s : State) (pa : Word) (n v : Nat) :
    (s.storeBytes pa n v).others = s.others.map (monitored pa n) := by
  induction n generalizing s pa v with
  | zero => simp [State.storeBytes, monitored_zero]
  | succ n ih => rw [State.storeBytes, ih, monitored_succ pa n]; simp only [State.storeByte, List.map_map, noteWrite_eq]

theorem storeFree_others (s : State) (pa : Word) (n : Nat) :
    (s.storeFree pa n).others = s.others.map (monitored pa n) := by
  induction n generalizing s pa with
  | zero => simp [State.storeFree, monitored_zero]
  | succ n ih => rw [State.storeFree, ih, monitored_succ pa n]; simp only [State.storeByte, List.map_map, noteWrite_eq]

theorem noteBytes_eq (s : State) (pa : Word) (n : Nat) :
    s.noteBytes pa n = { s with others := s.others.map (monitored pa n) } := by
  induction n generalizing s pa with
  | zero => simp [State.noteBytes, monitored_zero]
  | succ n ih => rw [State.noteBytes, ih, monitored_succ pa n]; simp only [List.map_map, noteWrite_eq]

theorem storeFree_shape (s : State) (pa : Word) (n : Nat) : s.storeFree pa n = { s with
    mem := (s.storeFree pa n).mem
    icOld := (s.storeFree pa n).icOld
    dcOld := (s.storeFree pa n).dcOld
    others := (s.storeFree pa n).others } := by
  induction n generalizing s pa with
  | zero => rfl
  | succ n ih => rw [State.storeFree]; conv => lhs; rw [ih]
                 rfl

theorem storeFree_get_of_ne (s : State) (pa : Word) (n : Nat) (a : Nat)
    (h : ∀ k < n, a ≠ (pa + BitVec.ofNat 32 k).toNat) : (s.storeFree pa n).mem.get a = s.mem.get a := by
  induction n generalizing s pa with
  | zero => rfl
  | succ n ih =>
    have h0 : a ≠ pa.toNat := by simpa using h 0 (Nat.succ_pos n)
    rw [State.storeFree, ih, State.storeByte_mem, Memory.get_set_of_ne _ _ h0]
    intro k hk
    have := h (k + 1) (by omega)
    rwa [show pa + 1#32 + BitVec.ofNat 32 k = pa + BitVec.ofNat 32 (k + 1) by
      rw [BitVec.add_assoc]; congr 1; apply BitVec.eq_of_toNat_eq; simp [Nat.add_comm]]

theorem storeBytes_add (s : State) (pa : Word) (n m v : Nat) :
   s.storeBytes pa (n + m) v = (s.storeBytes pa n v).storeBytes (pa + BitVec.ofNat 32 n) m (v / 256 ^ n) := by
  induction n generalizing s pa v with
  | zero => simp [State.storeBytes]
  | succ n ih =>
    rw [Nat.add_right_comm, State.storeBytes, ih, State.storeBytes]
    congr 1
    · rw [BitVec.add_assoc]; congr 1; apply BitVec.eq_of_toNat_eq; simp [Nat.add_comm]
    · rw [Nat.div_div_eq_div_mul, Nat.pow_succ, Nat.mul_comm]

theorem storeBytes_mod (s : State) (pa : Word) (n v w : Nat) (h : v % 256 ^ n = w % 256 ^ n) :
    s.storeBytes pa n v = s.storeBytes pa n w := by
  induction n generalizing s pa v w with
  | zero => rfl
  | succ n ih =>
    have hb : BitVec.ofNat 8 v = BitVec.ofNat 8 w := by
      apply BitVec.eq_of_toNat_eq; simp only [BitVec.toNat_ofNat]
      have := congrArg (· % 256) h
      simpa [Nat.mod_mod_of_dvd, Nat.pow_succ] using this
    rw [State.storeBytes, State.storeBytes, hb]
    apply ih
    rw [Nat.pow_succ, Nat.mul_comm] at h
    rw [← Nat.mod_mul_right_div_self, h, Nat.mod_mul_right_div_self]

theorem oldBytes_filter_self (l : List (Word × Byte)) (pa : Word) :
    oldBytes (l.filter fun c => c.1 != pa) pa = [] := by
  simp [oldBytes, List.filter_filter]

theorem oldBytes_filter_nil (l : List (Word × Byte)) (pa q : Word) (h : oldBytes l q = []) :
    oldBytes (l.filter fun c => c.1 != pa) q = [] := by
  simp only [oldBytes, List.map_eq_nil_iff, List.filter_eq_nil_iff, List.mem_filter] at h ⊢
  intro a ha; exact h a ha.1

theorem storeBytes_old_nil (s : State) (pa q : Word) (n v : Nat) (h : oldBytes s.dcOld q = []) :
    oldBytes (s.storeBytes pa n v).dcOld q = [] := by
  induction n generalizing s pa v with
  | zero => exact h
  | succ n ih => rw [State.storeBytes]; exact ih _ _ _ (oldBytes_filter_nil _ _ _ h)

theorem storeBytes_old (s : State) (pa : Word) (n v k : Nat) (hk : k < n) :
    oldBytes (s.storeBytes pa n v).dcOld (pa + BitVec.ofNat 32 k) = [] := by
  induction n generalizing s pa v k with
  | zero => omega
  | succ n ih =>
    rw [State.storeBytes]
    cases k with
    | zero => exact storeBytes_old_nil _ _ _ _ _ (by simpa [State.storeByte] using oldBytes_filter_self s.dcOld pa)
    | succ k =>
      have := ih (s.storeByte pa (BitVec.ofNat 8 v)) (pa + 1#32) (v / 256) k (by omega)
      rwa [show pa + 1#32 + BitVec.ofNat 32 k = pa + BitVec.ofNat 32 (k + 1) by
        rw [BitVec.add_assoc]; congr 1; apply BitVec.eq_of_toNat_eq; simp [Nat.add_comm]] at this

theorem storeBytes_stored (s : State) (hm : s.mem.wf = true) (pa : Word) (sz : Size) (v : DWord) :
    StoredBytes s (s.storeBytes pa sz.bytes v.toNat) pa sz v where
  stored k hk := by
    have h8 : sz.bytes ≤ 8 := by cases sz <;> decide
    rw [State.storeBytes_get hm _ _ _ h8 _ hk]
    apply BitVec.eq_of_toNat_eq
    simp only [BitVec.toNat_ofNat, BitVec.extractLsb'_toNat, Nat.shiftRight_eq_div_pow]
    rw [show 256 ^ k = 2 ^ (8 * k) by rw [Nat.pow_mul]]
  seen k hk := by
    have h8 : sz.bytes ≤ 8 := by cases sz <;> decide
    unfold State.dataByte
    rw [storeBytes_old _ _ _ _ _ hk]
    simp only [chooseByte, List.getElem?_nil, Option.getD_none]
    rw [State.storeBytes_get hm _ _ _ h8 _ hk]
    apply BitVec.eq_of_toNat_eq
    simp only [BitVec.toNat_ofNat, BitVec.extractLsb'_toNat, Nat.shiftRight_eq_div_pow]
    rw [show 256 ^ k = 2 ^ (8 * k) by rw [Nat.pow_mul]]
  kept a h := State.storeBytes_get_of_ne _ _ _ _ _ h

theorem StoredBytes.of_noteStore {s t pa sz v} (h : StoredBytes (State.noteStore s) t pa sz v) :
    StoredBytes s t pa sz v := ⟨h.1, h.2, h.3⟩

theorem noteStore_storeOnly (s : State) (pa : Word) (n v : Nat) :
    StoreOnly s (s.noteStore.storeBytes pa n v) pa n := by
  unfold StoreOnly
  conv => lhs; rw [storeBytes_shape, storeBytes_others]
  rfl

theorem noteStore_storeFree (s : State) (pa : Word) (n : Nat) : StoreOnly s (s.noteStore.storeFree pa n) pa n := by
  unfold StoreOnly
  conv => lhs; rw [storeFree_shape, storeFree_others]
  rfl

theorem deviceWrite_eq (s : State) (d : Nat) (pa : Word) (sz : Size) (v : DWord) (first : Word) (n : Nat) :
    deviceWrite s d pa sz v first n = toldDevice s d pa sz v first n := by
  unfold deviceWrite toldDevice; rw [noteBytes_eq]; rfl

/-- Two stores of 32 bits are one of 64. -/
theorem storeBytes_halves (s : State) (pa : Word) (v : DWord) :
    (s.storeBytes pa 4 v.toNat).storeBytes (pa + 4#32) 4 ((highWord v).setWidth 64).toNat =
      s.storeBytes pa 8 v.toNat := by
  rw [show (8 : Nat) = 4 + 4 from rfl, storeBytes_add]
  congr 1
  simp [highWord, Nat.shiftRight_eq_div_pow]; have := v.isLt; omega

/-- Everything that a write can do. -/
theorem memWrite_cases {s : State} (v : DWord) (hw : s.mem.wf = true) (hq : Quiet s) (slot a sz) :
    (∃ t, memWrite s slot a sz v = .ok () t ∧ Writes s slot a v sz t) ∨
    (memWrite s slot a sz v = .exc (.memoryFault a .write) ∧ s.cfg.memErrorMode = .sync ∧
      (s.target slot a = none ∨ aligned a sz = false)) := by
  obtain ⟨hm, hd⟩ := hq
  have e : s.noteStore.target slot a = s.target slot a := rfl
  have ev : ∀ (t : State) (x : Todo), t.mid = [] → t.th.todo = [] → t.event x = x.act t :=
    fun t x h1 h2 => State.event_of_quiet h1 h2 x
  have hfail : (s.target slot a = none ∨ aligned a sz = false) →
      locateWrite s.noteStore slot a sz v = failedWrite s.noteStore a →
      (∃ t, memWrite s slot a sz v = .ok () t ∧ Writes s slot a v sz t) ∨
      (memWrite s slot a sz v = .exc (.memoryFault a .write) ∧ s.cfg.memErrorMode = .sync ∧
        (s.target slot a = none ∨ aligned a sz = false)) := by
    intro h he
    unfold memWrite
    rw [he]
    unfold failedWrite
    have hc : s.noteStore.cfg.memErrorMode = s.cfg.memErrorMode := rfl
    rw [hc]
    cases hmm : s.cfg.memErrorMode with
    | sync => exact .inr ⟨rfl, rfl, h⟩
    | deferred => exact .inl ⟨_, rfl, .failed h hmm⟩
  by_cases ha : aligned a sz = true
  · cases ht : s.target slot a with
    | none => exact ht ▸ hfail (.inl ht) (by simp [locateWrite, ha, e, ht])
    | some x =>
      left
      cases x with
      | ram pa =>
        simp only [memWrite, locateWrite, ha, e, ht, if_true, Res.bind]
        by_cases hl : sz = .l
        · subst hl
          simp only [if_true, List.foldl]
          rw [ev s.noteStore _ hm hd]
          simp only [Todo.act, Size.bytes]
          rw [ev _ _ (by rw [storeBytes_shape]; exact hm) (by rw [storeBytes_shape]; exact hd)]
          simp only [Todo.act, Size.bytes, storeBytes_halves]
          exact ⟨_, rfl, .ram ha ht (StoredBytes.of_noteStore (storeBytes_stored s.noteStore hw pa .l v))
            (noteStore_storeOnly s pa _ _)⟩
        · simp only [hl, if_false, List.foldl]
          rw [ev s.noteStore _ hm hd]
          exact ⟨_, rfl, .ram ha ht (StoredBytes.of_noteStore (storeBytes_stored s.noteStore hw pa sz v))
            (noteStore_storeOnly s pa _ _)⟩
      | device d pa =>
        simp only [memWrite, locateWrite, ha, e, ht, if_true, Res.bind]
        by_cases hl : sz = .l
        · subst hl
          simp only [if_true, List.foldl]
          rw [ev s.noteStore _ hm hd]
          simp only [Todo.act, deviceWrite_eq]
          rw [ev _ _ (by exact hm) (by exact hd)]
          simp only [Todo.act, deviceWrite_eq]
          exact ⟨_, rfl, .deviceL ha ht⟩
        · simp only [hl, if_false, List.foldl]
          rw [ev s.noteStore _ hm hd]
          simp only [Todo.act, deviceWrite_eq]
          exact ⟨_, rfl, .device ha ht hl⟩
  · have ha' : aligned a sz = false := by simpa using ha
    by_cases hf : Config.freeBit s.tick (.misaligned slot a) = true
    · exact hfail (.inr ha') (by simp [locateWrite, ha', hf])
    · cases ht : s.target slot a with
      | none => exact ht ▸ hfail (.inl ht) (by simp [locateWrite, ha', hf, e, ht])
      | some x =>
        left
        cases x with
        | ram pa =>
          simp only [memWrite, locateWrite, ha', e, ht, State.noteStore_tick, hf, Bool.false_eq_true, if_false,
            Res.bind, List.foldl]
          rw [ev s.noteStore _ hm hd]
          exact ⟨_, rfl, .stray ha' ht (fun b hb => storeFree_get_of_ne s.noteStore _ _ _ hb)
            (noteStore_storeFree s _ _)⟩
        | device d pa =>
          simp only [memWrite, locateWrite, ha', e, ht, State.noteStore_tick, hf, Bool.false_eq_true, if_false,
            Res.bind, List.foldl]
          rw [ev s.noteStore _ hm hd]
          simp only [Todo.act, deviceWrite_eq]
          exact ⟨_, rfl, .strayDevice ha' ht⟩

theorem memWrite_ok {s : State} {slot a sz} (v : DWord) (hw : s.mem.wf = true) (h : Accessible s slot a sz) :
    ∃ t, memWrite s slot a sz v = .ok () t ∧ Writes s slot a v sz t := by
  rcases memWrite_cases v hw h.1 slot a sz with h1 | ⟨_, hs, h1⟩
  · exact h1
  · obtain ⟨_, ha, ht⟩ := h
    rcases h1 with h | h
    · rcases ht with ht | ht
      · exact absurd h ht
      · rw [ht] at hs; cases hs
    · rw [ha] at h; cases h

theorem memWrite_fault {s : State} {slot a sz} (v : DWord) (h : Faults s slot a sz) :
    memWrite s slot a sz v = .exc (.memoryFault a .write) := by
  obtain ⟨_, ha, ht, hs⟩ := h
  have e : s.noteStore.target slot a = s.target slot a := rfl
  have hs' : s.noteStore.cfg.memErrorMode = .sync := hs
  simp only [memWrite, locateWrite, ha, if_true, e, ht, failedWrite, hs', Res.bind]

end Sys2Proof.Claims
end

