-- ==== Sys2Proof/Laws/Encoding.lean ====
section
/-! SUPPORT. What the encoder puts into a word, and what the decoder reads from it. -/

namespace Sys2Proof.Laws

theorem bool_lt (b : Bool) : b.toNat < 2 := by cases b <;> decide

theorem place_nil (w : Nat) : place w [] = w := rfl

theorem place_cons (w v lo : Nat) (fields : List (Nat × Nat)) :
    place w ((v, lo) :: fields) = place (w + v * 2 ^ lo) fields := rfl

/-- A bit of a word that holds a Boolean is read as it. -/
theorem bit_eq (b : Bool) {w lo : Nat} (h : bits w lo 1 = b.toNat) : bit w lo = b := by
  cases b <;> simp_all [bit]

/-- A field of a word that holds a value is read as it. -/
theorem fld_eq {n : Nat} (v : BitVec n) {w lo : Nat} (h : bits w lo n = v.toNat) : fld w lo n = v := by
  apply BitVec.eq_of_toNat_eq; simp [fld, h]

theorem bits_lt (w lo n : Nat) : bits w lo n < 2 ^ n := Nat.mod_lt _ (Nat.two_pow_pos n)

end Sys2Proof.Laws
end

