-- ==== Sys2Proof/Laws/Units.lean ====
section
/-! SUPPORT. Everything a read and a write of any unit and an issue to the read pipeline can do, in the vocabulary of the
statements. -/

namespace Sys2Proof.Claims
open Sys2Proof.Machine

theorem CtReg.index_inj : ∀ r r' :
    CtReg, r.index = r'.index → r = r' := by intro r r' h; cases r <;> cases r' <;> first | rfl |
    (exact absurd h (by decide))
theorem TtReg.index_inj : ∀ r r' :
    TtReg, r.index = r'.index → r = r' := by intro r r' h; cases r <;> cases r' <;> first | rfl |
    (exact absurd h (by decide))

theorem ctCell_set (s : State) (r r' : CtReg) (v : Word) :
    (s.setCtCell r v).ctCell r' = if r = r' then v else s.ctCell r' := by
  simp only [State.ctCell, State.setCtCell, Vector.get_eq_getElem, Vector.getElem_set]
  by_cases h : r = r'
  · simp [h]
  · rw [if_neg h, if_neg (fun e => h (CtReg.index_inj _ _ (Fin.ext e)))]

theorem ttCell_set (s : State) (r r' : TtReg) (v : Word) :
    (s.setTtCell r v).ttCell r' = if r = r' then v else s.ttCell r' := by
  simp only [State.ttCell, State.setTtCell, Vector.get_eq_getElem, Vector.getElem_set]
  by_cases h : r = r'
  · simp [h]
  · rw [if_neg h, if_neg (fun e => h (TtReg.index_inj _ _ (Fin.ext e)))]

theorem writeCt_ctWrite (s : State) (n : BitVec 5) (v : Word) : CtWrite s (writeCt s n v) n v := by
  have h2 : CtReg.ofNum 2#5 = none := rfl
  have h20 : CtReg.ofNum 20#5 = none := rfl
  unfold writeCt
  cases hn : CtReg.ofNum n with
  | some r =>
    have n2 : n ≠ 2#5 := by rintro rfl; cases hn
    have n20 : n ≠ 20#5 := by rintro rfl; cases hn
    try simp only [n2, n20, hn]
    constructor <;> simp [hn, n2, n20, ctCell_set, State.emit]
    · intro r'; simpa [State.ctCell, State.setCtCell] using ctCell_set s r r' v
    all_goals rfl
  | none =>
    by_cases e2 : n = 2#5
    · subst e2; simp only [if_true]; constructor <;> simp [h2, State.emit, State.setIstat, State.setFlags,
        State.ctCell]
    · by_cases e20 : n = 20#5
      · subst e20
        cases hi : s.th.istat <;> (constructor <;> simp [h20, State.emit, State.ctCell, Thread.setTxdefr, hi])
      · simp only [e2, e20, if_false]; constructor <;> simp [hn, e2, e20]

theorem writeTt_ttWrite (s : State) (n : BitVec 5) (v : Word) : TtWrite s (writeTt s n v) n v := by
  unfold writeTt
  cases hn : TtReg.ofNum n with
  | some r =>
    have n3 : n ≠ 3#5 := by rintro rfl; cases hn
    constructor
    · intro r'; simp [hn, ttCell_set]
    · simp [State.setTtCell, n3]
    · rfl
  | none =>
    by_cases e : n = 3#5
    · subst e; constructor <;> simp [traceRecord, State.setTtrec, State.ttCell]; intro r hr; cases hr
    · constructor <;> simp [e, hn]

theorem and_allOnes_16 (x : BitVec 16) : x &&& 65535#16 = x := by
  rw [show 65535#16 = BitVec.allOnes 16 from rfl, BitVec.and_allOnes]

theorem trigger_number_cases (n : BitVec 5) : n = 0#5 ∨ n = 1#5 ∨ n = 2#5 ∨ n = 3#5 ∨ n = 4#5 ∨ n = 6#5 ∨
    (n ≠ 0#5 ∧ n ≠ 1#5 ∧ n ≠ 2#5 ∧ n ≠ 3#5 ∧ n ≠ 4#5 ∧ n ≠ 6#5 ∧ n.toNat ≠ 0 ∧ n.toNat ≠ 1 ∧ n.toNat ≠ 2 ∧
        n.toNat ≠ 3 ∧ n.toNat ≠ 4 ∧ n.toNat ≠ 6) := by
  revert n; decide

theorem writeTr_trWrite (s : State) (n : BitVec 5) (v : Word) : TrWrite s (writeTr s n v) n v := by
  rcases trigger_number_cases n with rfl | rfl | rfl | rfl | rfl | rfl | ⟨h0, h1, h2, h3, h4, h6, g⟩
  case inr.inr.inr.inr.inr.inr =>
    have : writeTr s n v = s := by
      unfold writeTr; split <;> simp_all
    rw [this]
    constructor <;> simp [*, and_allOnes_16]
  all_goals
    simp only [writeTr, BitVec.toNat_ofNat, Nat.reducePow, Nat.reduceMod]
    constructor <;> simp [clearSomeTriggers, and_allOnes_16]
  all_goals first | exact ⟨_, rfl⟩ | rfl

theorem oneTrigger_bit (k : BitVec 4) (b : Nat) (hb : b < 16) : (oneTrigger k).getLsbD b = decide (b = k.toNat) := by
  have hk := k.isLt
  simp only [oneTrigger, BitVec.getLsbD_shiftLeft, hb, decide_true, Bool.true_and, BitVec.getLsbD_one]
  by_cases h : b = k.toNat
  · simp [h]
  · by_cases h2 : b < k.toNat
    · simp [h2, h]
    · simp [h2, h]; omega

theorem active_bit (s : State) (level : Bool) (b : Nat) (hb : b < 16) :
    (s.th.active s.cfg.kickBit level).getLsbD b = true ↔ Triggered s level b := by
  unfold Triggered Thread.active
  have h1 := oneTrigger_bit s.cfg.kickBit b hb
  by_cases hk : s.th.kickCount = 0
  all_goals
    simp only [hk, if_true, if_false, BitVec.getLsbD_and, BitVec.getLsbD_or, BitVec.getLsbD_not,
        BitVec.getLsbD_setWidth, hb, h1, decide_true, Bool.true_and]
    by_cases hbk : b = s.cfg.kickBit.toNat
    all_goals simp only [hbk, decide_true, decide_false, Bool.not_true, Bool.not_false, Bool.and_false, Bool.and_true,
        Bool.or_true, Bool.or_false, Bool.false_and, Bool.true_and, if_true, if_false]
    all_goals (cases level <;> simp only [Bool.and_eq_true, Bool.false_eq_true, if_true, if_false] <;> tauto)

theorem active_zero (s : State) (level : Bool) :
    s.th.active s.cfg.kickBit level = 0#16 ↔ ∀ b < 16, ¬ Triggered s level b := by
  constructor
  · intro h b hb; rw [← active_bit s level b hb, h]; simp
  · intro h
    apply BitVec.eq_of_getLsbD_eq; intro b hb
    have := h b hb; rw [← active_bit s level b hb] at this
    simpa using this

theorem readStatus_wait {s : State} {level slot} (h : ∀ b < 16, ¬ Triggered s level b) :
    readStatus s level slot = .block .trigger := by
  simp [readStatus, (active_zero s level).2 h]

theorem readStatus_ok {s : State} {level slot} (h : ¬ ∀ b < 16, ¬ Triggered s level b) :
    ∃ v t, readStatus s level slot = .ok v t ∧ StatusRead s t level v := by
  have h0 : s.th.active s.cfg.kickBit level ≠ 0#16 := fun e => h ((active_zero s level).1 e)
  unfold readStatus
  simp only [h0, if_false]
  refine ⟨_, _, rfl, ?_⟩
  have hv : ∀ b < 16,
      ((Config.freeWord s.tick (.operand slot)).extractLsb' 16 16 ++ s.th.active s.cfg.kickBit level).getLsbD b =
      (s.th.active s.cfg.kickBit level).getLsbD b := by
    intro b hb; rw [BitVec.getLsbD_append]; simp [hb]
  have hkb := s.cfg.kickBit.isLt
  constructor
  · intro b hb; rw [hv b hb, active_bit s level b hb]
  · intro b hb; rw [hv b hb]
    have h1 := oneTrigger_bit s.cfg.kickBit b hb
    have e : ∀ x : BitVec 16,
        (x &&& ~~~(s.th.active s.cfg.kickBit level &&& ~~~(oneTrigger s.cfg.kickBit))).getLsbD b =
        (x.getLsbD b && !((s.th.active s.cfg.kickBit level).getLsbD b && b != s.cfg.kickBit.toNat)) := by
      intro x
      simp only [BitVec.getLsbD_and, BitVec.getLsbD_not, hb, h1, decide_true, Bool.true_and, bne, BEq.beq]
    cases level <;> exact e _
  · cases level <;> rfl
  · rw [hv _ hkb]; cases level <;> rfl
  · cases level <;> rfl

theorem trRead_waits {s : State} {n slot} (h : (n = 0#5 ∧ ∀ b < 16, ¬ Triggered s false b) ∨
    (n = 2#5 ∧ ∀ b < 16, ¬ Triggered s true b)) :
    readTr s n slot = .block .trigger := by
  rcases h with ⟨rfl, h⟩ | ⟨rfl, h⟩
  · exact readStatus_wait h
  · exact readStatus_wait h

theorem active_poll_bits (s : State) (level : Bool) :
    ∀ b < 32, ((s.th.active s.cfg.kickBit level).setWidth 32).getLsbD b = true ↔ b < 16 ∧ Triggered s level b := by
  intro b hb
  by_cases h : b < 16
  · rw [BitVec.getLsbD_setWidth]; simp only [hb, h, decide_true, Bool.true_and,
      true_and]; exact active_bit s level b h
  · rw [BitVec.getLsbD_setWidth, BitVec.getLsbD_of_ge _ _ (by omega)]; simp [h]

theorem trRead_ok {s : State} {n slot} (h : ¬ ((n = 0#5 ∧ ∀ b < 16, ¬ Triggered s false b) ∨
    (n = 2#5 ∧ ∀ b < 16, ¬ Triggered s true b))) :
    ∃ v t, readTr s n slot = .ok v t ∧ TrRead s t n v := by
  rcases trigger_number_cases n with rfl | rfl | rfl | rfl | rfl | rfl | ⟨h0, h1, h2, h3, h4, h6, g⟩
  · exact readStatus_ok (level := false) (fun e => h (.inl ⟨rfl, e⟩))
  · exact ⟨_, _, rfl, rfl, rfl⟩
  · exact readStatus_ok (level := true) (fun e => h (.inr ⟨rfl, e⟩))
  · exact ⟨_, _, rfl, rfl, rfl⟩
  · exact ⟨_, _, rfl, rfl, active_poll_bits s false⟩
  · exact ⟨_, _, rfl, rfl, active_poll_bits s true⟩
  · refine ⟨Config.freeWord s.tick (.operand slot), s, ?_, ?_⟩
    · unfold readTr; split <;> simp_all
    · unfold TrRead; split <;> simp_all

theorem replaceBit_bit (w : Word) (k : BitVec 5) (b : Bool) : (replaceBit w k b).getLsbD k.toNat = b := by
  have hk := k.isLt
  cases b <;> simp [replaceBit, hk, BitVec.getLsbD_shiftLeft]

theorem readCt_ctRead (s : State) (n : BitVec 5) (slot : Nat) : CtRead s n (readCt s n slot) := by
  have h2 : CtReg.ofNum 2#5 = none := rfl
  have h20 : CtReg.ofNum 20#5 = none := rfl
  refine ⟨?_, ?_, ?_⟩
  · intro r hr ht hc
    unfold readCt
    simp only [hr, ht]
    by_cases hcc : r.isCatch = true
    · simp [hcc, hc hcc]
    · simp [hcc]
  · rintro rfl; simp [readCt, h2, replaceBit_bit]
  · rintro rfl; simp [readCt, h20, Thread.txdefr]

theorem setRdq_popped {s : State} {e q} (h : s.th.rdq = e :: q) : Popped s (s.setRdq q) e := by
  simp [Popped, State.setRdq, h]

theorem readUnit_waits {s u n k} (h : ReadWaits s u n) : readUnit s u n k = .block .trigger := by
  obtain ⟨rfl, h⟩ := h; exact trRead_waits h

theorem readUnit_underflow {s u n k} (h : ReadUnderflows s u n) : readUnit s u n k = .exc .readPipelineUnderflow := by
  obtain ⟨rfl, rfl, h⟩ := h; simp [readUnit, rdPop, h, Res.bind]

theorem cpRead_coproRead (s : State) (port : BitVec 3) (sz : Size) :
    CoproRead s (cpRead s port sz).2 port sz (cpRead s port sz).1 := by
  unfold cpRead CoproRead State.hasPort
  by_cases h : s.cfg.coproPorts.getLsbD port.toNat = true
  · simp only [h, if_true, trunc_trunc, true_and]; rfl
  · simp only [h, if_false, trunc_trunc, true_and, Bool.false_eq_true]

theorem readUnit_ok {s u n} (k : Nat) (h : CanRead s u n) :
    ∃ v t, readUnit s u n k = .ok v t ∧ UnitRead s t u n k v := by
  obtain ⟨hw, hu⟩ := h
  unfold readUnit UnitRead
  split
  · exact ⟨_, _, rfl, by simp_all [readCt_ctRead]⟩
  · exact ⟨_, _, rfl, by simp_all⟩
  · exact ⟨_, _, rfl, by simp_all⟩
  · exact ⟨_, _, rfl, by simp_all⟩
  · exact ⟨_, _, rfl, by simp_all⟩
  · rename_i hu5
    try simp only [hu5]
    by_cases h0 : n = 0#5
    · subst h0; exact ⟨_, _, rfl, rfl, by simp [pcValue], by simp⟩
    · by_cases h1 : n = 1#5
      · subst h1; exact ⟨_, _, rfl, rfl, by simp, by simp⟩
      · simp only [h0, h1, if_false]; exact ⟨_, _, rfl, rfl, by simp, by simp⟩
  · rename_i hu6
    have e6 : u = 6#4 := BitVec.eq_of_toNat_eq hu6
    subst e6
    simp only [BitVec.toNat_ofNat, Nat.reducePow, Nat.reduceMod]
    by_cases h8 : n.toNat < 8
    · simp only [h8, if_true, PortRead]
      exact ⟨_, _, rfl, _, cpRead_coproRead s _ .d, rfl⟩
    · by_cases h16 : n = 16#5
      · subst h16
        cases hq : s.th.rdq with
        | nil => exact absurd ⟨rfl, rfl, hq⟩ hu
        | cons e q =>
          simp [rdPop, hq, Res.bind, PortRead]
          exact ⟨_, setRdq_popped hq, rfl⟩
      · simp only [h8, h16, if_false, PortRead]; exact ⟨_, _, rfl, rfl⟩
  · rename_i hu7
    have e7 : u = 7#4 := BitVec.eq_of_toNat_eq hu7
    subst e7
    exact trRead_ok (fun h => hw ⟨rfl, h⟩)
  · rename_i hu8
    try simp only [hu8]
    refine ⟨_, _, rfl, rfl, ?_⟩
    intro r hr; simp [readTt, hr]
  · exact ⟨_, _, rfl, by first | rfl | (split <;> simp_all)⟩

theorem Quiet.congr {s t : State} (h0 : t.mid = s.mid) (h1 : t.th.todo = s.th.todo) (h : Quiet s) : Quiet t := by
  rw [Quiet, h0, h1]; exact h

theorem Accessible.congr {s t : State} (h0 : t.mid = s.mid) (hd : t.th.todo = s.th.todo)
    (h1 : t.xlatOlds = s.xlatOlds) (h2 : t.xlat = s.xlat) (h3 : t.tick = s.tick) (h4 : t.th.tid = s.th.tid)
    (h5 : t.cfg = s.cfg) {slot a sz} (h : Accessible s slot a sz) : Accessible t slot a sz := by
  rw [Accessible, Quiet, h0, hd, target_congr s t h1 h2 h3 h4 h5, h5]; exact h

theorem Faults.congr {s t : State} (h0 : t.mid = s.mid) (hd : t.th.todo = s.th.todo)
    (h1 : t.xlatOlds = s.xlatOlds) (h2 : t.xlat = s.xlat) (h3 : t.tick = s.tick) (h4 : t.th.tid = s.th.tid)
    (h5 : t.cfg = s.cfg) {slot a sz} (h : Faults s slot a sz) : Faults t slot a sz := by
  rw [Faults, Quiet, h0, hd, target_congr s t h1 h2 h3 h4 h5, h5]; exact h

theorem Quiet.room {s : State} (h : Quiet s) : s.th.pipelineUse s.cfg = s.th.rdq.length := by
  simp [Thread.pipelineUse, h.2]

theorem SameButReport.quiet {s t : State} (h : SameButReport s t) (hq : Quiet s) : Quiet t := by
  obtain ⟨_, _, _, _, _, rfl⟩ := h; exact hq

theorem read_quiet {s : State} (hq : Quiet s) (src : Source) (sz : Size) : Quiet (src.read sz s).2 := by
  cases src <;> exact hq

/-- What an issue to a quiet machine does once its data is located. -/
theorem issue_located {s : State} (hq : Quiet s) (port : BitVec 5) (p : Source × Option Source) (sz : Size)
    (h : p.2 ≠ none → sz = .l) :
    s.event (match p.2 with | none => .issue p.1 port sz | some hi => .wide p.1 hi port) =
      (readLocated p sz s).2.append port (readLocated p sz s).1 sz := by
  obtain ⟨lo, hi⟩ := p
  cases hi with
  | none => rw [State.event_of_quiet hq.1 hq.2]; rfl
  | some hi =>
    have h' : sz = .l := h (by simp)
    subst h'
    rw [State.event_of_quiet hq.1 hq.2]
    exact State.defer_of_quiet (read_quiet hq lo .d).1 (read_quiet hq lo .d).2 _ _

theorem append_issued {s s1 : State} {port a sz d} (hp : isReadPort port = true) (h : Reads s 3 a sz d s1)
    (hc : s1.cfg = s.cfg) : Issued s (s1.append port d sz) port a sz := by
  unfold Issued
  rw [if_pos hp]
  refine ⟨d, s1, h, ?_⟩
  unfold State.append State.setRdq
  rw [← hc]
  cases portReturns s1.cfg port <;> simp

theorem Reads.cfg_eq {s slot a sz v s1} (h : Reads s slot a sz v s1) : s1.cfg = s.cfg := by
  obtain ⟨_, _, _, _, _, _, rfl⟩ := Reads.frame h; rfl

theorem append_mem (s : State) (port d sz) : (s.append port d sz).mem = s.mem := by
  unfold State.append; split <;> rfl

/-- Everything that an issue to a pipeline with room can do. -/
theorem raIssue_cases {s : State} {port sz} (a) (hq : Quiet s) (hp : isReadPort port = true)
    (hd : s.th.rdq.length < Params.rdFifoDepth s.cfg) :
    (∃ t, raIssue s port a sz = .ok () t ∧ Issued s t port a sz ∧ t.mem = s.mem) ∨
    (raIssue s port a sz = .exc (.memoryFault a .read) ∧ s.cfg.memErrorMode = .sync ∧
      (s.target 3 a = none ∨ aligned a sz = false)) := by
  unfold raIssue
  rw [if_pos hp, if_neg (by rw [hq.room]; omega)]
  rcases locate_cases s 3 a sz with ⟨p, s1, e, hs, hl, _, hr⟩ | ⟨e, h⟩
  · rw [e]
    exact .inl ⟨_, congrArg (Res.ok ()) (issue_located (hs.quiet hq) port p sz hl), append_issued hp hr hr.cfg_eq,
      by rw [append_mem, hr.mem_eq]⟩
  · rw [e]; exact .inr ⟨rfl, h⟩

theorem raIssue_ok {s : State} {port a sz} (h : Issuable s port a sz) :
    ∃ t, raIssue s port a sz = .ok () t ∧ Issued s t port a sz ∧ t.mem = s.mem := by
  by_cases hp : isReadPort port = true
  · obtain ⟨hd, ha⟩ := h hp
    rcases raIssue_cases (sz := sz) a ha.1 hp hd with h1 | ⟨_, hs, h1⟩
    · exact h1
    · obtain ⟨_, ha, ht⟩ := ha
      rcases h1 with h | h
      · rcases ht with ht | ht
        · exact absurd h ht
        · rw [ht] at hs; cases hs
      · rw [ha] at h; cases h
  · unfold raIssue Issued
    simp only [hp, Bool.false_eq_true, if_false]; exact ⟨_, rfl, rfl, rfl⟩

theorem raIssue_waits {s : State} {port a sz} (h : WriteWaits s 6#4 port) :
    raIssue s port a sz = .block .pipelineFull := by
  obtain ⟨_, h1, h2⟩ := h
  unfold raIssue
  rw [if_pos h1, if_pos (Nat.le_trans h2 (show s.th.rdq.length ≤ s.th.pipelineUse s.cfg from Nat.le_add_right _ _))]

theorem raIssue_fault {s : State} {port a sz} (h1 : isReadPort port = true) (h2 : ¬ WriteWaits s 6#4 port)
    (hf : Faults s 3 a sz) : raIssue s port a sz = .exc (.memoryFault a .read) := by
  unfold raIssue
  rw [if_pos h1, if_neg (by rw [hf.1.room]; exact fun h => h2 ⟨rfl, h1, h⟩), locate_fault hf]; rfl

theorem writeUnit_ok {s : State} {u n v} (h : CanWrite s u n v) :
    ∃ t, writeUnit s u n v = .ok () t ∧ UnitWrite s t u n v ∧ t.mem = s.mem := by
  unfold writeUnit UnitWrite
  split
  · exact ⟨_, rfl, by simp_all [writeCt_ctWrite], by have := (writeCt_ctWrite s n v).rest; rw [this]⟩
  · exact ⟨_, rfl, by simp_all [writeReg_gprWrite], by simp⟩
  · exact ⟨_, rfl, by simp_all [writeReg_gprWrite], by simp⟩
  · exact ⟨_, rfl, by simp_all [writeReg_gprWrite], by simp⟩
  · exact ⟨_, rfl, by simp_all [writeReg_gprWrite], by simp⟩
  · rename_i hu
    try simp only [hu]
    try simp only [PcWrite]
    by_cases h0 : n = 0#5
    · subst h0; exact ⟨_, rfl, by simp [State.setPc], rfl⟩
    · by_cases h1 : n = 1#5
      · subst h1; exact ⟨_, rfl, by simp [State.setPcx], rfl⟩
      · simp only [h0, h1, if_false]; exact ⟨_, rfl, rfl, rfl⟩
  · rename_i hu
    try simp only [hu]
    exact raIssue_ok (h (BitVec.eq_of_toNat_eq hu))
  · exact ⟨_, rfl, by simp_all [writeTr_trWrite], by have := (writeTr_trWrite s n v).rest; rw [this]⟩
  · exact ⟨_, rfl, by simp_all [writeTt_ttWrite], by have := (writeTt_ttWrite s n v).rest; rw [this]⟩
  · exact ⟨_, rfl, by first | rfl | (split <;> simp_all), rfl⟩

theorem writeUnit_waits {s : State} {u n v} (h : WriteWaits s u n) : writeUnit s u n v = .block .pipelineFull := by
  obtain ⟨rfl, h⟩ := h; exact raIssue_waits ⟨rfl, h⟩

theorem writeUnit_fault {s : State} {u n v} (h : WriteFaults s u n v) :
    writeUnit s u n v = .exc (.memoryFault v .read) := by
  obtain ⟨rfl, h1, h2, h3⟩ := h; exact raIssue_fault h1 h2 h3

theorem writeUnit_strays {s : State} {u n v} (h : WriteStrays s u n v) :
    (∃ t, writeUnit s u n v = .ok () t ∧ UnitWrite s t u n v ∧ t.mem = s.mem) ∨
    (writeUnit s u n v = .exc (.memoryFault v .read) ∧ s.cfg.memErrorMode = .sync) := by
  obtain ⟨rfl, h1, h2, h3⟩ := h
  have hd : s.th.rdq.length < Params.rdFifoDepth s.cfg := Nat.lt_of_not_le fun h => h2 ⟨rfl, h1, h⟩
  rcases raIssue_cases v h3.1 h1 hd with h | ⟨h, hs, _⟩
  · exact .inl h
  · exact .inr ⟨h, hs⟩

/-! ## Loads -/

/-- A change that a read of memory or of a device neither sees nor disturbs. -/
def ReadsThrough (f : State → State) : Prop :=
  ∀ src sz t, Source.read src sz (f t) = ((Source.read src sz t).1, f (Source.read src sz t).2)

theorem loadBytes_congr {s t : State} (h1 : t.mem = s.mem) (h2 : t.dcOld = s.dcOld) (h3 : t.tick = s.tick) (pa n) :
    t.loadBytes pa n = s.loadBytes pa n := by
  induction n generalizing pa with
  | zero => rfl
  | succ n ih => simp only [State.loadBytes, State.dataByte, h1, h2, h3, ih]

theorem readsThrough_of {f : State → State} (h1 : ∀ t, (f t).mem = t.mem) (h2 : ∀ t, (f t).dcOld = t.dcOld)
    (h3 : ∀ t, (f t).tick = t.tick) (h4 : ∀ t, (f t).th.tid = t.th.tid) (h5 : ∀ t, (f t).emitted = t.emitted)
    (h6 : ∀ t e, (f t).emit e = f (t.emit e)) : ReadsThrough f := by
  intro src sz t
  cases src with
  | ram pa => simp only [Source.read, loadBytes_congr (h1 t) (h2 t) (h3 t)]
  | device d pa => simp only [Source.read, deviceRead, h3, h4, h5, h6]
  | value v => rfl

theorem ReadsThrough.comp {f g : State → State} (hf : ReadsThrough f) (hg : ReadsThrough g) :
    ReadsThrough (f ∘ g) := by
  intro src sz t; simp only [Function.comp, hf src sz (g t), hg src sz t]

theorem writeReg_emit (s : State) (u n v e) : (writeReg s u n v).emit e = writeReg (s.emit e) u n v := by
  unfold writeReg State.emit
  cases u <;> dsimp only <;> (repeat' split) <;> rfl

theorem readsThrough_writeReg (u n v) : ReadsThrough fun t => writeReg t u n v :=
  readsThrough_of (fun _ => writeReg_mem _ _ _ _) (fun _ => writeReg_dcOld _ _ _ _) (fun _ => writeReg_tick _ _ _ _)
    (fun _ => writeReg_th_tid _ _ _ _) (fun _ => writeReg_emitted _ _ _ _) fun t e => writeReg_emit t u n v e

theorem readsThrough_deliverTo (d : Dest) (v : Word) : ReadsThrough fun t => t.deliverTo d v := by
  cases d with
  | none => exact fun _ _ _ => rfl
  | some p => exact readsThrough_writeReg _ _ _

theorem readsThrough_advance : ReadsThrough advance :=
  readsThrough_of (fun _ => rfl) (fun _ => rfl) (fun _ => rfl) (fun _ => rfl) (fun _ => rfl) fun _ _ => rfl

theorem readsThrough_exprUpdate (e : AddrExpr) : ReadsThrough (exprUpdate e) := by
  unfold exprUpdate
  cases e.update
  · exact fun _ _ _ => rfl
  · exact readsThrough_writeReg _ _ _

theorem readLocated_through {f : State → State} (hf : ReadsThrough f) (p sz t) :
    readLocated p sz (f t) = ((readLocated p sz t).1, f (readLocated p sz t).2) := by
  unfold readLocated
  split
  · exact hf _ _ _
  · rename_i hi _
    rw [hf p.1 .d t]
    simp only []
    rw [hf hi .d]

theorem lowWord_append (a b : Word) : lowWord (a ++ b) = b := by
  apply BitVec.eq_of_getLsbD_eq
  intro i hi
  rw [lowWord, BitVec.getLsbD_extractLsb', BitVec.getLsbD_append]
  simp [hi]

theorem highWord_append (a b : Word) : highWord (a ++ b) = a := by
  apply BitVec.eq_of_getLsbD_eq
  intro i hi
  rw [highWord, BitVec.getLsbD_extractLsb', BitVec.getLsbD_append]
  simp [hi]

/-- What a load does once its data is located: both accesses, and what comes between them, then the registers. -/
theorem loads_located {s : State} (hq : Quiet s) (p : Source × Option Source) {sz} (lo hi : Dest) {f : State → State}
    (hp : p.2 ≠ none → sz = .l) (hf : ReadsThrough f) (hq' : ∀ t, Quiet t → Quiet (f t))
    (hd : ∀ t d v, f (State.deliverTo t d v) = (f t).deliverTo d v) :
    s.loads p sz lo hi f = ((f (readLocated p sz s).2).deliverTo lo (lowWord (readLocated p sz s).1)).deliverTo hi
      (highWord (readLocated p sz s).1) := by
  have hdq : ∀ t d v, Quiet t → Quiet (State.deliverTo t d v) := by
    intro t d v h
    cases d with
    | none => exact h
    | some p => exact Quiet.congr (writeReg_mid _ _ _ _) (writeReg_th_todo _ _ _ _) h
  obtain ⟨src, o⟩ := p
  cases o with
  | none =>
    unfold State.loads readLocated
    simp only []
    rw [State.event_of_quiet hq.1 hq.2]
    simp only [Todo.act, hd]
  | some src2 =>
    have h' : sz = .l := hp (by simp)
    subst h'
    unfold State.loads readLocated
    simp only []
    rw [State.event_of_quiet hq.1 hq.2]
    have e1 : Todo.act (.load src .d lo none) s = (src.read .d s).2.deliverTo lo (lowWord (src.read .d s).1) := rfl
    have h1 : Quiet (Todo.act (.load src .d lo none) s) := by rw [e1]; exact hdq _ _ _ (read_quiet hq src .d)
    rw [State.event_of_quiet (hq' _ h1).1 (hq' _ h1).2]
    have e2 : ∀ t, Todo.act (.load src2 .d hi none) t =
        (src2.read .d t).2.deliverTo hi (lowWord (src2.read .d t).1) := fun _ => rfl
    rw [e1, e2, hd, readsThrough_deliverTo lo _ src2 .d, hf src2 .d]
    rw [lowWord_append, highWord_append]

/-- An unspecified write of anything but a port. -/
theorem writeFree_ok {s : State} {u : BitVec 4} (n slot) (h : u ≠ 6#4) :
    ∃ t, writeFree s u n slot = .ok () t ∧ UnitFree s t u n ∧ t.mem = s.mem := by
  unfold writeFree
  rw [if_neg (by simp [h])]
  obtain ⟨t, h1, h2, h3⟩ := writeUnit_ok (v := Config.freeWord s.tick (.dest slot)) (fun e => absurd e h)
  exact ⟨t, h1, ⟨_, h2⟩, h3⟩

/-- An unspecified write of a port: nothing, or the issue of some address. -/
theorem writeFree_port (s : State) (n slot) :
    writeFree s 6#4 n slot = .ok () s ∨ ∃ v, writeFree s 6#4 n slot = writeUnit s 6#4 n v := by
  unfold writeFree
  split
  · exact .inl rfl
  · exact .inr ⟨_, rfl⟩

/-- The last act of an instruction. -/
theorem endsWith_of_write {i s0 s s' u n v v'} (h : exec i s0 = finish s0 (writeUnit s' u n v')) (e : s' = s)
    (ev : v' = v) (hm : s.mem = s0.mem) (hc : s.cfg = s0.cfg) : EndsWith i s0 s u n v := by
  subst e ev
  refine ⟨?_, ?_, ?_, ?_⟩
  · intro hc
    obtain ⟨t, ht, hw, hmm⟩ := writeUnit_ok hc
    exact ⟨t, by rw [h, ht]; rfl, hw, fun a => by rw [hmm, hm]⟩
  · intro hc; rw [h, writeUnit_waits hc]; rfl
  · intro hc; rw [h, writeUnit_fault hc]; rfl
  · intro hw
    rcases writeUnit_strays hw with ⟨t, ht, hw, hmm⟩ | ⟨he, hs⟩
    · exact .inr ⟨t, by rw [h, ht]; rfl, hw, fun a => by rw [hmm, hm]⟩
    · exact .inl ⟨hc ▸ hs, by rw [h, he]; rfl⟩

end Sys2Proof.Claims
end

