-- ==== Sys2Proof/Laws/Values.lean ====
section
/-! SUPPORT. The second operand, the results and the flags of the data unit, in the vocabulary of the statements. -/

namespace Sys2Proof.Claims
open Sys2Proof.Machine

theorem Res.bind_congr {α β} (r : Res α) (f g : α → State → Res β) (h : ∀ a s, r = .ok a s → f a s = g a s) :
    r.bind f = r.bind g := by
  cases r with
  | ok a s => exact h a s rfl
  | exc => rfl
  | block => rfl

/-- The value of the second operand. -/
def secondValue (s : State) (u : BUnit) : Opd → Res Word
  | .zero => .ok 0#32 s
  | .reg n => .ok (readReg s u n 1) s
  | .pc => .ok s.th.pc s
  | .imm w => .ok w s
  | .rep sel n => readO2R s u sel n 1

theorem readO2R_cases (s : State) (u : BUnit) (sel : BitVec 2) (n : BitVec 3) :
    (sel ≠ 2#2 ∧ ∃ v, O2RSource u sel v ∧ readO2R s u sel n 1 = .ok (readReg s v (n.setWidth 5) 1) s) ∨
    (sel = 2#2 ∧ readO2R s u sel n 1 = (rdPop s).bind fun e s1 => .ok (lowWord e) s1) := by
  have : sel = 0#2 ∨ sel = 1#2 ∨ sel = 2#2 ∨ sel = 3#2 := by revert sel; decide
  rcases this with rfl | rfl | rfl | rfl
  · left; refine ⟨by decide, ?_⟩; cases u <;> exact ⟨_, by constructor, rfl⟩
  · left; refine ⟨by decide, ?_⟩; cases u <;> exact ⟨_, by constructor, rfl⟩
  · right; refine ⟨rfl, ?_⟩; cases u <;> rfl
  · left; refine ⟨by decide, ?_⟩; cases u <;> exact ⟨_, by constructor, rfl⟩

theorem secondValue_of_Second {s u o b s1} (h : Second s u o b s1) : secondValue s u o = .ok b s1 := by
  cases h with
  | zero => rfl
  | reg => rfl
  | pc => rfl
  | imm => rfl
  | unit sel n v hv =>
    rcases readO2R_cases s u sel n with ⟨_, w, hw, h⟩ | ⟨rfl, _⟩
    · have : v = w := by cases hv <;> cases hw <;> rfl
      subst this; exact h
    · cases hv
  | rd n e t hp =>
    rcases readO2R_cases s u 2#2 n with ⟨h, _⟩ | ⟨_, h⟩
    · exact absurd rfl h
    · show readO2R s u 2#2 n 1 = _
      obtain ⟨h1, h2⟩ := hp
      rw [h, rdPop, h1]; simp only [Res.bind]; rw [h2]; rfl

theorem Second.only_rdq {s u o b s1} (h : Second s u o b s1) :
    s1 = { s with th := { s.th with rdq := s1.th.rdq } } := by
  cases h with
  | rd n e t hp => exact hp.2
  | _ => rfl

/-- An arithmetic instruction in the terms of its `DataOp`. -/
def runDataOp (s : State) (p : DataOp) (fl : Word → Flags) : Res Unit :=
  (secondValue s p.unit p.second).bind fun b s1 =>
    if cond s.th.flags p.cc then
      writeUnit
        { s1 with th := { s1.th with pc := s.th.pc + 4#32, flags := if p.sets then fl b else s.th.flags } } p.ud p.rd
        (p.result (firstValue s p.unit p.first) b)
    else .ok () (atNext s1)

theorem dataEffect_of_runDataOp {i : Instr} {s : State} {p : DataOp} (fl : Word → Flags)
    (h : exec i s = finish s (runDataOp s p fl))
    (hf : ∀ b, p.sets = true → p.flags (firstValue s p.unit p.first) b (fl b)) : DataEffect i s p := by
  constructor
  · intro n hn hq
    rw [h, runDataOp, hn]
    rcases readO2R_cases s p.unit 2#2 n with ⟨h, _⟩ | ⟨_, h⟩
    · exact absurd rfl h
    · simp only [secondValue, h, rdPop, hq, Res.bind]; rfl
  · intro b s1 hs
    have e := secondValue_of_Second hs
    have fr := Second.only_rdq hs
    simp only [runDataOp, e, Res.bind] at h
    constructor
    · intro hc
      simp only [hc, Bool.false_eq_true, if_false] at h; rw [h]; rfl
    · intro hc
      simp only [hc, if_true] at h
      refine ⟨if p.sets then fl b else s.th.flags, ?_, ?_, ?_⟩
      · intro hp; simp only [hp, if_true]; exact hf b hp
      · intro hp; simp [hp]
      · exact endsWith_of_write h rfl rfl (by rw [fr]) (by rw [fr])

theorem writeUnit_code (s : State) (u : BUnit) (n v) :
    writeUnit s u.code n v = .ok () (writeReg s u n v) := by cases u <;> rfl

theorem opValue_eq (op : AluOp) (a b : Word) : op.result a b = opValue op a b := by
  cases op <;> simp only [AluOp.result, opValue]
  · apply BitVec.eq_of_toNat_eq; simp
  · rw [← BitVec.toInt_inj]; simp [BitVec.toInt_sub]
  · rw [← BitVec.toInt_inj]; simp [BitVec.toInt_neg]

theorem neg_iff (x : Word) : x.getLsbD 31 = true ↔ x.toInt < 0 := by
  rw [BitVec.toInt_eq_msb_cond, BitVec.msb_eq_getLsbD_last]
  have := x.isLt
  cases h : x.getLsbD 31 <;> simp [h] <;> omega

theorem addFlags_ok (a b : Word) : AddFlags a b (addFlags a b) := by
  constructor
  · simp [addFlags]
  · exact neg_iff _
  · simp [addFlags]
  · simp [addFlags]; omega

theorem subFlags_ok (a b : Word) : SubFlags a b (subFlags a b) := by
  constructor
  · simp only [subFlags, beq_iff_eq]; constructor <;> intro h <;> bv_omega
  · exact neg_iff _
  · simp [subFlags]
  · simp [subFlags]; omega

theorem logicFlags_ok (t : Nat) (r : Word) : LogicFlags r (logicFlags t r) := by
  constructor
  · simp [logicFlags]
  · exact neg_iff _

theorem opFlags_ok (op : AluOp) (t : Nat) (a b : Word) : OpFlags op a b (op.flags t a b) := by
  cases op <;> simp only [OpFlags, AluOp.flags, addFlags_ok, subFlags_ok, logicFlags_ok]

theorem shiftValue_eq (op : ShiftOp) (a : Word) (n : Nat) (hn : n < 32) : op.result a n = shiftValue op a n := by
  cases op <;> simp only [ShiftOp.result, shiftValue]
  · apply BitVec.eq_of_toNat_eq; simp [Nat.shiftLeft_eq]
  · apply BitVec.eq_of_toNat_eq; simp [Nat.shiftRight_eq_div_pow]
    have := a.isLt
    rw [Nat.mod_eq_of_lt]; exact lt_of_le_of_lt (Nat.div_le_self _ _) this
  · apply BitVec.eq_of_toNat_eq; simp [Nat.shiftLeft_eq]
  · rw [← BitVec.toInt_inj, BitVec.toInt_sshiftRight, BitVec.toInt_ofInt, Int.shiftRight_eq_div_pow]
    have h1 := BitVec.toInt_lt (x := a); have h2 := BitVec.le_toInt (x := a)
    have hp : (0:Int) < 2 ^ n := by positivity
    symm
    rw [Int.bmod_eq_of_le]
    · rfl
    · have : -2^31 ≤ a.toInt / 2 ^ n := by
        rw [Int.le_ediv_iff_mul_le hp]
        have : (1:Int) ≤ 2 ^ n := by exact_mod_cast Nat.one_le_two_pow
        simp at h2; nlinarith
      simpa using this
    · have : a.toInt / 2 ^ n < 2^31 := by
        rw [Int.ediv_lt_iff_lt_mul hp]
        have : (1:Int) ≤ 2 ^ n := by exact_mod_cast Nat.one_le_two_pow
        simp at h1; nlinarith
      simpa using this

theorem shiftFlags_ok (op : ShiftOp) (t : Nat) (a : Word) (n : Nat) (hn : n < 32) :
    ShiftFlags op a n (op.flags t a n) := by
  constructor
  · simp [ShiftOp.flags, shiftValue_eq op a n hn]
  · rw [← shiftValue_eq op a n hn]; exact neg_iff _
  · cases op <;> simp only [ShiftOp.flags, ShiftOp.carry, lastOut]

theorem mulValue_eq (op : MulOp) (a b : Word) : op.result a b = mulValue op a b := by
  cases op <;> simp only [MulOp.result, mulValue] <;> apply BitVec.eq_of_toNat_eq <;> simp

theorem flags_self (s : State) : { s with th := { s.th with flags := s.th.flags } } = s := rfl

theorem cond_always (f : Flags) : cond f 0#4 = true := rfl

theorem setFlagsIf_eq (sf : Bool) (f : Flags) (s : State) :
    setFlagsIf sf f s = { s with th := { s.th with flags := if sf then f else s.th.flags } } := by
  cases sf <;> rfl

theorem readO2R_only_rdq {s u sel n b s1} (h : readO2R s u sel n 1 = .ok b s1) :
    s1 = { s with th := { s.th with rdq := s1.th.rdq } } := by
  rcases readO2R_cases s u sel n with ⟨_, w, hw, h2⟩ | ⟨rfl, h2⟩
  · rw [h2] at h; cases h; rfl
  · rw [h2] at h
    unfold rdPop at h
    cases hq : s.th.rdq with
    | nil => simp [hq, Res.bind] at h
    | cons e q => simp [hq, Res.bind] at h; obtain ⟨_, rfl⟩ := h; rfl

theorem readReg_rdq (s : State) (q : List DWord) (u n k) :
    readReg { s with th := { s.th with rdq := q } } u n k = readReg s u n k :=
  readReg_congr _ _ rfl rfl rfl rfl rfl rfl rfl rfl rfl rfl rfl _ _ _

end Sys2Proof.Claims
end

