-- ==== Sys2Proof/Laws/Kept.lean ====
section
/-! SUPPORT. What every shared operation keeps: the other threads, the parameters, the canonical form of the memory, the
capacity of the pipeline and the order of the locks. -/

namespace Sys2Proof.Claims
open Sys2Proof.Machine

/-- `t` follows `s` with what no operation changes kept. -/
structure Kept (s t : State) : Prop where
  others : List.Forall₂ SameThread s.others t.others
  tid : t.th.tid = s.th.tid
  ex : t.th.exModes = s.th.exModes
  cfg : t.cfg = s.cfg
  env : t.env = s.env
  tick : s.tick ≤ t.tick
  mem : s.mem.wf = true → t.mem.wf = true
  fits : s.th.pipelineUse s.cfg ≤ Params.rdFifoDepth s.cfg → t.th.pipelineUse s.cfg ≤ Params.rdFifoDepth s.cfg
  locks : s.lockOrder → t.lockOrder

theorem SameThread.refl (t : Thread) : SameThread t t := ⟨rfl, id⟩

theorem SameThread.trans {t u v : Thread} (h : SameThread t u) (h2 : SameThread u v) : SameThread t v := by
  obtain ⟨a, b⟩ := h; obtain ⟨c, d⟩ := h2
  refine ⟨?_, fun h => d (b h)⟩
  rw [c, a]

theorem sameThreads_refl (l : List Thread) : List.Forall₂ SameThread l l := by
  induction l with
  | nil => exact .nil
  | cons a l ih => exact .cons (SameThread.refl a) ih

theorem sameThreads_trans {l m n : List Thread} (h : List.Forall₂ SameThread l m) (h2 : List.Forall₂ SameThread m n) :
    List.Forall₂ SameThread l n := by
  induction h generalizing n with
  | nil => exact h2
  | cons a b ih => cases h2 with
    | cons c d => exact .cons (SameThread.trans a c) (ih d)

theorem sameThreads_map (l : List Thread) (pa) : List.Forall₂ SameThread l (l.map (Thread.noteWrite pa)) := by
  induction l with
  | nil => exact .nil
  | cons a l ih => exact .cons ⟨rfl, fun h => by simp [Thread.noteWrite, h]⟩ ih

theorem Kept.refl (s) : Kept s s := ⟨sameThreads_refl _, rfl, rfl, rfl, rfl, Nat.le_refl _, id, id, id⟩

theorem Kept.trans {s t u} (h : Kept s t) (h2 : Kept t u) : Kept s u where
  others := sameThreads_trans h.others h2.others
  tid := h2.tid.trans h.tid
  ex := h2.ex.trans h.ex
  cfg := h2.cfg.trans h.cfg
  env := h2.env.trans h.env
  tick := h.tick.trans h2.tick
  mem := fun x => h2.mem (h.mem x)
  fits := fun x => by have := h2.fits (by rw [h.cfg]; exact h.fits x); rwa [h.cfg] at this
  locks := fun x => h2.locks (h.locks x)

/-- A change of the thread alone that keeps number, modes and pipeline. -/
theorem Kept.thread {s0 s : State} (h : Kept s0 s) (th : Thread) (h1 : th.tid = s.th.tid)
    (h2 : th.exModes = s.th.exModes) (h3 : th.rdq = s.th.rdq) (h4 : th.todo = s.th.todo) :
    Kept s0 { s with th := th } :=
  h.trans ⟨sameThreads_refl _, h1, h2, rfl, rfl, Nat.le_refl _, id, fun x => by
    unfold Thread.pipelineUse at *; rw [h3, h4]; exact x, id⟩

theorem Kept.writeReg {s0 s} (h : Kept s0 s) (u n v) : Kept s0 (writeReg s u n v) := by
  refine h.trans ?_
  constructor
  · rw [writeReg_others]; exact sameThreads_refl _
  · simp
  · simp
  · simp
  · simp
  · simp
  · intro x; simpa using x
  · intro x; simpa [Thread.pipelineUse] using x
  · intro x t ht; simp at ht ⊢; exact x t ht

theorem Kept.setPc {s0 s} (h : Kept s0 s) (v) : Kept s0 (s.setPc v) := h.thread _ rfl rfl rfl rfl

theorem Kept.setPcx {s0 s} (h : Kept s0 s) (v) : Kept s0 (s.setPcx v) := h.thread _ rfl rfl rfl rfl

theorem Kept.setFlags {s0 s} (h : Kept s0 s) (v) : Kept s0 (s.setFlags v) := h.thread _ rfl rfl rfl rfl

theorem Kept.setKick {s0 s} (h : Kept s0 s) (v) : Kept s0 (s.setKick v) := h.thread _ rfl rfl rfl rfl

theorem Kept.setIstat {s0 s} (h : Kept s0 s) (v) : Kept s0 (s.setIstat v) := h.thread _ rfl rfl rfl rfl

theorem Kept.clearLink {s0 s} (h : Kept s0 s) : Kept s0 (s.clearLink) := h.thread _ rfl rfl rfl rfl

theorem Kept.setCtCell {s0 s} (h : Kept s0 s) (r v) : Kept s0 (s.setCtCell r v) := h.thread _ rfl rfl rfl rfl

theorem Kept.setTtCell {s0 s} (h : Kept s0 s) (r v) : Kept s0 (s.setTtCell r v) := h.thread _ rfl rfl rfl rfl

theorem Kept.traceRecord {s0 s} (h : Kept s0 s) (r v) : Kept s0 (traceRecord s r v) := h.thread _ rfl rfl rfl rfl

theorem Kept.setRun {s0 s} (h : Kept s0 s) (r) : Kept s0 (s.setRun r) := h.thread _ rfl rfl rfl rfl

theorem Kept.blockOn {s0 s} (h : Kept s0 s) (r) : Kept s0 (blockOn r s) := h.setRun _

theorem Kept.setPrefetch {s0 s} (h : Kept s0 s) (r) : Kept s0 (setPrefetch s r) := h.thread _ rfl rfl rfl rfl

theorem Kept.setLink {s0 s} (h : Kept s0 s) (r v) : Kept s0 (setLink s r v) := h.thread _ rfl rfl rfl rfl

theorem Kept.returnFromInterrupt {s0 s} (h : Kept s0 s) : Kept s0 (returnFromInterrupt s) := h.thread _ rfl rfl rfl rfl

theorem Kept.noteStore {s0 s} (h : Kept s0 s) : Kept s0 s.noteStore := h.thread _ rfl rfl rfl rfl

theorem Kept.emit {s0 s} (h : Kept s0 s) (e) :
    Kept s0 (s.emit e) := h.trans ⟨sameThreads_refl _, rfl, rfl, rfl, rfl, Nat.le_refl _, id, id, id⟩

theorem Kept.fresh {s0 s} (h : Kept s0 s) : Kept s0 s.fresh :=
  h.trans ⟨sameThreads_refl _, rfl, rfl, rfl, rfl, Nat.le_succ _, id, id, id⟩

theorem Kept.advance {s0 s} (h : Kept s0 s) : Kept s0 (advance s) := h.setPc _

theorem Kept.ite {s0 s t} {c : Prop} [Decidable c] (h : Kept s0 s) (h2 : Kept s0 t) :
    Kept s0 (if c then s else t) := by split <;> assumption

theorem Kept.setFlagsIf {s0 s} (h : Kept s0 s) (c v) :
    Kept s0 (setFlagsIf c v s) := by unfold Machine.setFlagsIf; exact .ite (h.setFlags _) h

theorem Kept.writePair {s0 s} (h : Kept s0 s) (u n m v) :
    Kept s0 (writePair s u n m v) := (h.writeReg _ _ _).writeReg _ _ _

theorem Kept.exprUpdate {s0 s} (h : Kept s0 s) (e) :
    Kept s0 (exprUpdate e s) := by unfold Machine.exprUpdate; exact .ite (h.writeReg _ _ _) h

theorem Kept.writeCt {s0 s} (h : Kept s0 s) (n v) : Kept s0 (writeCt s n v) := by
  unfold Machine.writeCt
  split
  · exact (h.setCtCell _ _).emit _
  · refine .ite (((h.setIstat _).setFlags _).emit _) (.ite (.emit (h.thread _ ?_ ?_ ?_ ?_) _) h) <;>
      (unfold Thread.setTxdefr; split <;> rfl)

theorem Kept.clearSome {s0 s} (h : Kept s0 s) (l v) : Kept s0 (clearSomeTriggers s l v) := by
  unfold clearSomeTriggers; exact .ite (h.thread _ rfl rfl rfl rfl) (h.thread _ rfl rfl rfl rfl)

theorem Kept.writeTr {s0 s} (h : Kept s0 s) (n v) : Kept s0 (writeTr s n v) := by
  unfold Machine.writeTr
  split <;> first | exact h.clearSome _ _ | exact h.thread _ rfl rfl rfl rfl | exact h

theorem Kept.writeTt {s0 s} (h : Kept s0 s) (n v) : Kept s0 (writeTt s n v) := by
  unfold Machine.writeTt
  split
  · exact h.setTtCell _ _
  · exact .ite (h.traceRecord _ _) h

theorem Kept.raise {s0 s} (h : Kept s0 s) (k) : Kept s0 (raise k s) := by
  unfold Machine.raise
  refine .ite (.emit (h.thread _ ?_ ?_ ?_ ?_) _) (h.thread _ ?_ ?_ ?_ ?_) <;> split <;> rfl

theorem Kept.reportCode {s0 s} (h : Kept s0 s) (c) : Kept s0 (s.reportCode c) := by
  unfold State.reportCode
  refine h.thread _ ?_ ?_ ?_ ?_ <;> (unfold Thread.setTxdefr; split <;> rfl)

theorem Kept.raiseDeferred {s0 s} (h : Kept s0 s) : Kept s0 s.raiseDeferred := by
  unfold State.raiseDeferred
  refine h.thread _ ?_ ?_ ?_ ?_ <;> (unfold Thread.raiseTrigger; split <;> rfl)

theorem Kept.reportFailure {s0 s} (h : Kept s0 s) : Kept s0 s.reportFailure := by
  unfold State.reportFailure
  exact ((h.reportCode _).raiseDeferred).thread _ rfl rfl rfl rfl

theorem Kept.storeByte {s0 s} (h : Kept s0 s) (pa v) : Kept s0 (s.storeByte pa v) :=
  h.trans ⟨sameThreads_map _ _, rfl, rfl, rfl, rfl, Nat.le_refl _, fun x => State.storeByte_wf x _ _, id, id⟩

theorem Kept.foreignByte {s0 s} (h : Kept s0 s) (c) : Kept s0 (s.foreignByte c) :=
  h.trans ⟨sameThreads_map _ _, rfl, rfl, rfl, rfl, Nat.le_refl _, fun x => State.foreignByte_wf x _, id, id⟩

theorem Kept.storeBytes {s0 s} (h : Kept s0 s) (pa n v) : Kept s0 (s.storeBytes pa n v) := by
  induction n generalizing s pa v with
  | zero => exact h
  | succ n ih => exact ih (h.storeByte _ _) _ _

theorem Kept.storeFree {s0 s} (h : Kept s0 s) (pa n) : Kept s0 (s.storeFree pa n) := by
  induction n generalizing s pa with
  | zero => exact h
  | succ n ih => exact ih (h.storeByte _ _) _

theorem Kept.interleave {s0 s} (h : Kept s0 s) : Kept s0 (interleave s) := by
  unfold Machine.interleave
  split
  · exact h
  · rename_i ws rest _
    have : ∀ (ws : List (Word × Byte)) (t : State), Kept s0 t → Kept s0 (ws.foldl State.foreignByte t) := by
      intro ws; induction ws with
      | nil => intro t h; exact h
      | cons c ws ih => intro t h; exact ih _ (h.foreignByte c)
    exact this _ _ (h.trans ⟨sameThreads_refl _, rfl, rfl, rfl, rfl, Nat.le_refl _, id, id, id⟩)
  · exact h.trans ⟨sameThreads_refl _, rfl, rfl, rfl, rfl, Nat.le_refl _, id, id, id⟩

theorem Kept.noteBytes {s0 s} (h : Kept s0 s) (pa n) : Kept s0 (s.noteBytes pa n) := by
  induction n generalizing s pa with
  | zero => exact h
  | succ n ih =>
    have h1 : Kept s { s with others := s.others.map (Thread.noteWrite pa) } :=
      ⟨sameThreads_map _ _, rfl, rfl, rfl, rfl, Nat.le_refl _, id, id, id⟩
    exact ih (h.trans h1) _

theorem Kept.deviceWrite {s0 s} (h : Kept s0 s) (d pa sz v p n) : Kept s0 (deviceWrite s d pa sz v p n) :=
  (h.noteBytes _ _).emit _

/-! ## The accesses one by one -/

/-- An access changes neither the pipeline nor what is still to come. -/
def SamePipe (s t : State) : Prop := t.th.rdq = s.th.rdq ∧ t.th.todo = s.th.todo

theorem SamePipe.use {s t : State} (h : SamePipe s t) (p : Params) : t.th.pipelineUse p = s.th.pipelineUse p := by
  simp only [Thread.pipelineUse, h.1, h.2]

theorem foreignBytes_pipe (ws : List (Word × Byte)) (s : State) : SamePipe s (ws.foldl State.foreignByte s) := by
  induction ws generalizing s with
  | nil => exact ⟨rfl, rfl⟩
  | cons c ws ih => exact ih (s.foreignByte c)

theorem interleave_pipe (s : State) : SamePipe s (interleave s) := by
  unfold Machine.interleave
  split
  · exact ⟨rfl, rfl⟩
  · exact foreignBytes_pipe _ { s with mid := _ }
  · exact ⟨rfl, rfl⟩

theorem read_shape (src : Source) (sz : Size) (s : State) : ∃ e, (src.read sz s).2 = { s with emitted := e } := by
  cases src <;> exact ⟨_, rfl⟩

theorem read_pipe (src : Source) (sz : Size) (s : State) : SamePipe s (src.read sz s).2 := by
  obtain ⟨e, h⟩ := read_shape src sz s
  rw [h]; exact ⟨rfl, rfl⟩

theorem deliverTo_pipe (s : State) (d : Dest) (v : Word) : SamePipe s (s.deliverTo d v) := by
  cases d with
  | none => exact ⟨rfl, rfl⟩
  | some p => exact ⟨by simp [State.deliverTo], by simp [State.deliverTo]⟩

theorem append_use (s : State) (port d sz) :
    (s.append port d sz).th.pipelineUse s.cfg ≤ s.th.pipelineUse s.cfg + if portReturns s.cfg port then 1 else 0 := by
  unfold State.append
  cases h : portReturns s.cfg port
  · exact Nat.le_add_right _ _
  · simp only [Thread.pipelineUse, State.setRdq, if_true, List.length_append, List.length_singleton]; omega

theorem read_cfg (src : Source) (sz : Size) (s : State) : (src.read sz s).2.cfg = s.cfg := by
  obtain ⟨e, h⟩ := read_shape src sz s
  rw [h]

theorem issueHigh_use (src port lo) (s : State) : (issueHigh src port lo s).th.pipelineUse s.cfg ≤
    s.th.pipelineUse s.cfg + if portReturns s.cfg port then 1 else 0 := by
  have h := append_use (src.read .d s).2 port (lowWord (src.read .d s).1 ++ lo) .l
  rw [read_cfg, (read_pipe src .d s).use] at h
  exact h

theorem raise_pipe (k : ExcKind) (s : State) : SamePipe s (raise k s) := by
  unfold Machine.raise SamePipe
  simp only []
  split <;> constructor <;> (try simp only [State.emit_th]) <;> split <;> rfl

theorem push_use (s : State) (e : Todo) :
    (s.push e).th.pipelineUse s.cfg = s.th.pipelineUse s.cfg + if e.appends s.cfg then 1 else 0 := by
  simp only [Thread.pipelineUse, State.push, List.filter_append, List.length_append]
  cases h : e.appends s.cfg <;> simp [h] <;> omega

theorem defer_use (s : State) (e : Todo) (act : State → State)
    (h : (act (interleave s)).th.pipelineUse s.cfg ≤
      (interleave s).th.pipelineUse s.cfg + if e.appends s.cfg then 1 else 0) :
    (s.defer e act).th.pipelineUse s.cfg ≤ s.th.pipelineUse s.cfg + if e.appends s.cfg then 1 else 0 := by
  unfold State.defer
  split
  · rwa [(interleave_pipe s).use] at h
  · exact Nat.le_of_eq (push_use s e)

theorem act_use (e : Todo) (s : State) : (e.act s).th.pipelineUse s.cfg ≤ s.th.pipelineUse s.cfg + if e.appends s.cfg then 1 else 0 := by
  have hr := fun src sz => (read_pipe src sz s).use s.cfg
  cases e with
  | load src sz lo hi =>
    show ((((src.read sz s).2.deliverTo lo _)).deliverTo hi _).th.pipelineUse s.cfg ≤ _
    rw [(deliverTo_pipe _ _ _).use, (deliverTo_pipe _ _ _).use, hr]; exact Nat.le_add_right _ _
  | issue src port sz =>
    have h := append_use (src.read sz s).2 port (src.read sz s).1 sz
    rw [read_cfg, hr] at h; exact h
  | wide lo hi port =>
    have hh := issueHigh_use hi port (lowWord (lo.read .d s).1) (interleave (lo.read .d s).2)
    rw [(Kept.refl _).interleave.cfg] at hh
    have h := defer_use (lo.read .d s).2 (.high hi port (lowWord (lo.read .d s).1)) _ hh
    rw [read_cfg, hr] at h; exact h
  | high src port lo => exact issueHigh_use _ _ _ _
  | store pa sz v =>
    show (s.storeBytes pa sz.bytes v.toNat).th.pipelineUse s.cfg ≤ _
    rw [storeBytes_shape]; exact Nat.le_add_right _ _
  | storeFree pa n =>
    show (s.storeFree pa n).th.pipelineUse s.cfg ≤ _
    rw [storeFree_shape]; exact Nat.le_add_right _ _
  | storeDevice d pa sz v p n =>
    show (deviceWrite s d pa sz v p n).th.pipelineUse s.cfg ≤ _
    unfold Machine.deviceWrite; rw [noteBytes_eq]; exact Nat.le_add_right _ _
  | trap k => exact Nat.le_of_eq ((raise_pipe k s).use _)

theorem event_use (s : State) (e : Todo) :
    (s.event e).th.pipelineUse s.cfg ≤ s.th.pipelineUse s.cfg + if e.appends s.cfg then 1 else 0 := by
  have h := act_use e (interleave s)
  rw [(Kept.refl _).interleave.cfg] at h
  exact defer_use s e _ h

/-- What `Kept` says but for the capacity of the pipeline. -/
structure KeptBut (s t : State) : Prop where
  others : List.Forall₂ SameThread s.others t.others
  tid : t.th.tid = s.th.tid
  ex : t.th.exModes = s.th.exModes
  cfg : t.cfg = s.cfg
  env : t.env = s.env
  tick : s.tick ≤ t.tick
  mem : s.mem.wf = true → t.mem.wf = true
  locks : s.lockOrder → t.lockOrder

theorem Kept.but {s t} (h : Kept s t) : KeptBut s t :=
  ⟨h.others, h.tid, h.ex, h.cfg, h.env, h.tick, h.mem, h.locks⟩

theorem KeptBut.fits {s t} (h : KeptBut s t)
    (hf : s.th.pipelineUse s.cfg ≤ Params.rdFifoDepth s.cfg → t.th.pipelineUse s.cfg ≤ Params.rdFifoDepth s.cfg) : Kept s t :=
  ⟨h.others, h.tid, h.ex, h.cfg, h.env, h.tick, h.mem, hf, h.locks⟩

theorem KeptBut.trans {s t u} (h : KeptBut s t) (h2 : KeptBut t u) : KeptBut s u :=
  ⟨sameThreads_trans h.others h2.others, h2.tid.trans h.tid, h2.ex.trans h.ex, h2.cfg.trans h.cfg, h2.env.trans h.env,
    h.tick.trans h2.tick, fun x => h2.mem (h.mem x), fun x => h2.locks (h.locks x)⟩

theorem push_but (s : State) (e : Todo) : KeptBut s (s.push e) :=
  ⟨sameThreads_refl _, rfl, rfl, rfl, rfl, Nat.le_refl _, id, id⟩

theorem append_but (s : State) (port d sz) : KeptBut s (s.append port d sz) := by
  unfold State.append
  split
  · exact ⟨sameThreads_refl _, rfl, rfl, rfl, rfl, Nat.le_refl _, id, id⟩
  · exact (Kept.refl s).but

theorem Kept.read {s0 s} (h : Kept s0 s) (src : Source) (sz) : Kept s0 (src.read sz s).2 := by
  cases src
  · exact h
  · exact h.emit _
  · exact h

theorem Kept.deliverTo {s0 s} (h : Kept s0 s) (d v) : Kept s0 (s.deliverTo d v) := by
  cases d
  · exact h
  · exact h.writeReg _ _ _

theorem issueHigh_but (src port lo) (s : State) : KeptBut s (issueHigh src port lo s) :=
  ((Kept.refl s).read src .d).but.trans (append_but _ _ _ _)

theorem defer_but (s : State) (e : Todo) (act : State → State) (h : ∀ t, KeptBut t (act t)) :
    KeptBut s (s.defer e act) := by
  unfold State.defer
  split
  · exact (Kept.refl s).interleave.but.trans (h _)
  · exact push_but s e

theorem act_but (e : Todo) (s : State) : KeptBut s (e.act s) := by
  cases e with
  | load src sz lo hi => exact ((((Kept.refl s).read src sz).deliverTo lo _).deliverTo hi _).but
  | issue src port sz => exact ((Kept.refl s).read src sz).but.trans (append_but _ _ _ _)
  | wide lo hi port => exact ((Kept.refl s).read lo .d).but.trans (defer_but _ _ _ (issueHigh_but _ _ _))
  | high src port lo => exact issueHigh_but _ _ _ _
  | store pa sz v => exact ((Kept.refl s).storeBytes _ _ _).but
  | storeFree pa n => exact ((Kept.refl s).storeFree _ _).but
  | storeDevice d pa sz v p n => exact ((Kept.refl s).deviceWrite _ _ _ _ _ _).but
  | trap k => exact ((Kept.refl s).raise k).but

theorem event_but (s : State) (e : Todo) : KeptBut s (s.event e) := defer_but s e _ (act_but e)

/-- An access keeps what `Kept` says, if there is room for the entry it may append. -/
theorem Kept.event {s0 s} (h : Kept s0 s) (e : Todo)
    (hr : e.appends s.cfg = true → s.th.pipelineUse s.cfg < Params.rdFifoDepth s.cfg) : Kept s0 (s.event e) := by
  refine h.trans ((event_but s e).fits fun x => ?_)
  have hu := event_use s e
  cases ha : e.appends s.cfg
  · simp only [ha] at hu; exact Nat.le_trans hu x
  · have := hr ha; simp only [ha, if_true] at hu; omega

/-- Accesses that append nothing to the pipeline keep what `Kept` says. -/
theorem Kept.events {s0} (l : List Todo) {s} (h : Kept s0 s) (hl : ∀ e ∈ l, ∀ p, e.appends p = false) :
    Kept s0 (l.foldl State.event s) := by
  induction l generalizing s with
  | nil => exact h
  | cons e l ih =>
    refine ih (h.event e fun ha => ?_) fun x hx => hl x (List.mem_cons_of_mem _ hx)
    rw [hl e List.mem_cons_self s.cfg] at ha; cases ha

/-- Accesses that are made in a later turn keep what `Kept` says, if there is room for the entries they append. -/
theorem Kept.resumed {s0} (l : List Todo) {s} (h : Kept s0 s)
    (hl : s.th.pipelineUse s.cfg + (l.filter (Todo.appends s.cfg)).length ≤ Params.rdFifoDepth s.cfg) :
    Kept s0 (l.foldl State.resumeOne s) := by
  induction l generalizing s with
  | nil => exact h
  | cons e l ih =>
    have hu := event_use s e
    have hc : (s.resumeOne e).cfg = s.cfg := (event_but s e).cfg
    have ht : (s.resumeOne e).th = (s.event e).th := rfl
    refine ih (h.event e ?_).fresh ?_
    · intro ha; simp only [List.filter_cons, ha, if_true, List.length_cons] at hl; omega
    · rw [hc, ht]
      cases ha : e.appends s.cfg <;> simp only [ha, List.filter_cons, if_true, Bool.false_eq_true, if_false,
        List.length_cons] at hl hu <;> omega

/-- What is still to come keeps the capacity of the pipeline, if it was kept before. -/
theorem resume_kept {s : State} (h : s.th.pipelineUse s.cfg ≤ Params.rdFifoDepth s.cfg) : Kept s s.resume := by
  have h0 : Kept s { s with th := { s.th with todo := [] } } :=
    ⟨sameThreads_refl _, rfl, rfl, rfl, rfl, Nat.le_refl _, id, fun x => by
      simp only [Thread.pipelineUse, List.filter_nil, List.length_nil] at *; omega, id⟩
  refine h0.resumed s.th.todo ?_
  simpa [Thread.pipelineUse] using h

theorem Kept.push {s0 s} (h : Kept s0 s) (e : Todo) (he : ∀ p, e.appends p = false) : Kept s0 (s.push e) :=
  h.trans ((push_but s e).fits fun x => by rw [push_use, he]; exact x)

theorem Kept.loads {s0 s} (h : Kept s0 s) (p sz lo hi) (f : State → State) (hf : ∀ t, Kept s0 t → Kept s0 (f t)) :
    Kept s0 (s.loads p sz lo hi f) := by
  unfold State.loads
  split
  · exact hf _ (h.event _ (by rintro ⟨⟩))
  · exact (hf _ (h.event _ (by rintro ⟨⟩))).event _ (by rintro ⟨⟩)

/-- A part of an instruction that leads on from `s0` keeps what `Kept` says. -/
def KeepsRes {α} (s0 : State) (r : Res α) : Prop := ∀ a t, r = .ok a t → Kept s0 t

theorem KeepsRes.ok {α s0 s} (h : Kept s0 s) (a : α) : KeepsRes s0 (.ok a s) := by intro a t e; cases e; exact h

theorem KeepsRes.exc {α s0 k} : KeepsRes s0 (.exc k : Res α) := by intro a t e; cases e

theorem KeepsRes.block {α s0 k} : KeepsRes s0 (.block k : Res α) := by intro a t e; cases e

theorem KeepsRes.bind {α β s0} {r : Res α} {f : α → State → Res β} (h : KeepsRes s0 r)
    (h2 : ∀ a t, Kept s0 t → KeepsRes s0 (f a t)) : KeepsRes s0 (r.bind f) := by
  cases r with
  | ok a t => exact h2 a t (h a t rfl)
  | exc => exact .exc
  | block => exact .block

theorem KeepsRes.ite {α s0} {r r2 : Res α} {c : Prop} [Decidable c] (h : KeepsRes s0 r) (h2 : KeepsRes s0 r2) :
    KeepsRes s0 (if c then r else r2) := by split <;> assumption

theorem KeepsRes.failedRead {s0 s} (h : Kept s0 s) (slot a sz) : KeepsRes s0 (failedRead s slot a sz) := by
  unfold Machine.failedRead; split
  · exact .exc
  · exact .ok h.reportFailure _

theorem KeepsRes.failedWrite {s0 s} (h : Kept s0 s) (a) : KeepsRes s0 (failedWrite s a) := by
  unfold Machine.failedWrite; split
  · exact .exc
  · exact .ok h.reportFailure _

theorem KeepsRes.locate {s0 s} (h : Kept s0 s) (slot a sz) : KeepsRes s0 (locate s slot a sz) := by
  unfold Machine.locate
  refine .ite ?_ (.ite (.failedRead h _ _ _) ?_) <;> split <;> first | exact .failedRead h _ _ _ | exact .ok h _

theorem KeepsRes.memRead {s0 s} (h : Kept s0 s) (slot a sz) : KeepsRes s0 (memRead s slot a sz) :=
  .bind (.locate h _ _ _) fun _ _ ht => .ok (ht.interleave.read _ _) _

theorem KeepsRes.locateWrite {s0 s} (h : Kept s0 s) (slot a sz v) : KeepsRes s0 (locateWrite s slot a sz v) := by
  unfold Machine.locateWrite
  refine .ite ?_ (.ite (.failedWrite h _) ?_) <;> split <;> first | exact .failedWrite h _ | exact .ok h _

/-- A write appends nothing to the pipeline. -/
theorem locateWrite_appends {s slot a sz v l t} (h : locateWrite s slot a sz v = .ok l t) :
    ∀ e ∈ l, ∀ p, e.appends p = false := by
  have hf : ∀ {l t}, failedWrite s a = .ok l t → ∀ e ∈ l, ∀ p, e.appends p = false := by
    intro l t h
    unfold failedWrite at h
    split at h <;> cases h
    intro e he; cases he
  unfold Machine.locateWrite at h
  split at h
  · split at h
    · exact hf h
    · cases h; split <;> simp [Todo.appends]
    · cases h; split <;> simp [Todo.appends]
  · split at h
    · exact hf h
    · split at h
      · exact hf h
      · cases h; simp [Todo.appends]
      · cases h; simp [Todo.appends]

theorem KeepsRes.memWrite {s0 s} (h : Kept s0 s) (slot a sz v) : KeepsRes s0 (memWrite s slot a sz v) := by
  have hl := KeepsRes.locateWrite h.noteStore slot a sz v
  unfold Machine.memWrite
  cases he : Machine.locateWrite s.noteStore slot a sz v with
  | ok l t => exact .ok ((hl _ _ he).events l (locateWrite_appends he)) _
  | exc => exact .exc
  | block => exact .block

theorem KeepsRes.rdPop {s0 s} (h : Kept s0 s) : KeepsRes s0 (rdPop s) := by
  unfold Machine.rdPop
  split
  · exact .exc
  · rename_i e q hq
    have : Kept s (s.setRdq q) := ⟨sameThreads_refl _, rfl, rfl, rfl, rfl, Nat.le_refl _, id,
      fun x => by simp only [Thread.pipelineUse, State.setRdq, hq, List.length_cons] at *; omega, id⟩
    exact .ok (h.trans this) _

theorem failedRead_pipe {s slot a sz p t} (h : failedRead s slot a sz = .ok p t) : SamePipe s t := by
  unfold failedRead at h
  split at h
  · cases h
  · cases h; obtain ⟨_, _, _, _, _, e⟩ := reportFailure_same s; rw [e]; exact ⟨rfl, rfl⟩

theorem locate_pipe {s slot a sz p t} (h : locate s slot a sz = .ok p t) : SamePipe s t := by
  unfold locate at h
  split at h
  · split at h
    · exact failedRead_pipe h
    · cases h; exact ⟨rfl, rfl⟩
    · cases h; exact ⟨rfl, rfl⟩
  · split at h
    · exact failedRead_pipe h
    · split at h
      · exact failedRead_pipe h
      · cases h; exact ⟨rfl, rfl⟩
      · cases h; exact ⟨rfl, rfl⟩

theorem KeepsRes.raIssue {s0 s} (h : Kept s0 s) (port a sz) : KeepsRes s0 (raIssue s port a sz) := by
  unfold Machine.raIssue
  refine .ite ?_ (.ok h _)
  split
  · exact .block
  · rename_i hd
    have hl := KeepsRes.locate (Kept.refl s) 3 a sz
    cases he : Machine.locate s 3 a sz with
    | ok p t =>
      have ht := hl _ _ he
      refine .ok ((h.trans ht).event _ fun _ => ?_) _
      rw [ht.cfg, (locate_pipe he).use]; omega
    | exc => exact .exc
    | block => exact .block

theorem Kept.takeTriggers {s0 s} (h : Kept s0 s) (l g) : Kept s0 (takeTriggers s l g) := by
  unfold Machine.takeTriggers; simp only []
  refine h.thread _ ?_ ?_ ?_ ?_ <;> cases l <;> rfl

theorem KeepsRes.readStatus {s0 s} (h : Kept s0 s) (l k) : KeepsRes s0 (readStatus s l k) := by
  unfold Machine.readStatus; exact .ite .block (.ok (h.takeTriggers _ _) _)

theorem KeepsRes.readTr {s0 s} (h : Kept s0 s) (n k) : KeepsRes s0 (readTr s n k) := by
  unfold Machine.readTr; split <;> first | exact .readStatus h _ _ | exact .ok h _

theorem Kept.cpRead {s0 s} (h : Kept s0 s) (p sz) : Kept s0 (cpRead s p sz).2 := by
  unfold Machine.cpRead
  split
  · exact h.emit _
  · exact h

theorem Kept.cpWrite {s0 s} (h : Kept s0 s) (p v) : Kept s0 (cpWrite s p v) := .ite (h.emit _) h

theorem KeepsRes.readUnit {s0 s} (h : Kept s0 s) (u n k) : KeepsRes s0 (readUnit s u n k) := by
  unfold Machine.readUnit
  split
  case h_6 => exact .ite (.ok h _) (.ite (.ok h _) (.ok h _))
  case h_7 => exact .ite (.ok (h.cpRead _ _) _) (.ite (.bind (.rdPop h) fun _ _ ht => .ok ht _) (.ok h _))
  case h_8 => exact .readTr h _ _
  all_goals exact .ok h _

theorem KeepsRes.writeUnit {s0 s} (h : Kept s0 s) (u n v) : KeepsRes s0 (writeUnit s u n v) := by
  unfold Machine.writeUnit
  split
  · exact .ok (h.writeCt _ _) _
  · exact .ok (h.writeReg _ _ _) _
  · exact .ok (h.writeReg _ _ _) _
  · exact .ok (h.writeReg _ _ _) _
  · exact .ok (h.writeReg _ _ _) _
  · exact .ite (.ok (h.setPc _) _) (.ite (.ok (h.setPcx _) _) (.ok h _))
  · exact .raIssue h _ _ _
  · exact .ok (h.writeTr _ _) _
  · exact .ok (h.writeTt _ _) _
  · exact .ok h _

theorem KeepsRes.writeFree {s0 s} (h : Kept s0 s) (u n k) : KeepsRes s0 (writeFree s u n k) :=
  .ite (.ok h _) (.writeUnit h _ _ _)

theorem KeepsRes.readO2R {s0 s} (h : Kept s0 s) (u a b c) : KeepsRes s0 (readO2R s u a b c) := by
  unfold Machine.readO2R; split
  · exact .ok h _
  · exact .bind (.rdPop h) fun _ _ ht => .ok ht _

theorem KeepsRes.portData {s0 s} (h : Kept s0 s) (a b) : KeepsRes s0 (portData s a b) := by
  unfold Machine.portData
  exact .ite (.ok (h.cpRead _ _) _) (.ite (.rdPop h) (.ok h _))

theorem KeepsRes.setData {s0 s} (h : Kept s0 s) (a b c d) :
    KeepsRes s0 (setData s a b c d) := .bind (.readUnit h _ _ _) fun _ _ ht => .ok ht _

theorem KeepsRes.endGet {s0 s} (h : Kept s0 s) (a b c d) :
    KeepsRes s0 (endGet a b c d s) := .ite (.writeFree h _ _ _) (.writeUnit h _ _ _)

theorem KeepsRes.endGetPair {s0 s} (h : Kept s0 s) (a b c) : KeepsRes s0 (endGetPair a b c s) := by
  unfold Machine.endGetPair; split
  · exact .ok (h.loads _ _ _ _ _ fun _ h => h) _
  · exact .writeFree (h.loads _ _ _ _ _ fun _ h => h) _ _ _

theorem KeepsRes.endMulOut {s0 s} (h : Kept s0 s) (a b c) : KeepsRes s0 (endMulOut a b c s) := by
  unfold Machine.endMulOut; split
  · exact .ok (h.advance.writeReg _ _ _) _
  · exact .writeFree h.advance _ _ _

theorem Kept.repeatOrAdvance {s0 s} (h : Kept s0 s) : Kept s0 (repeatOrAdvance s) := .ite h.advance (h.setCtCell _ _)

theorem Kept.reportSuccess {s0 s} (h : Kept s0 s) :
    Kept s0 (reportSuccess s) := .ite (h.reportCode _).raiseDeferred (h.reportCode _)

theorem Kept.reportNoStore {s0 s} (h : Kept s0 s) :
    Kept s0 (reportNoStore s) := (h.noteStore.reportCode _).raiseDeferred

theorem Kept.linkedStore {s0 s} (h : Kept s0 s) (a sz v) : Kept s0 (linkedStore s a sz v) := by
  have hi := h.interleave
  unfold Machine.linkedStore
  simp only []
  refine .ite (.ite hi.noteStore.reportFailure ?_) hi.reportNoStore
  split
  · rename_i e l s1 he
    have hn := locateWrite_appends he
    have ha : Kept s0 (e.act s1) := by
      refine (KeepsRes.locateWrite hi.noteStore _ _ _ _ _ _ he).trans ((act_but e s1).fits fun x => ?_)
      have hu := act_use e s1
      rw [hn e List.mem_cons_self s1.cfg] at hu
      exact Nat.le_trans hu x
    exact (ha.events l (fun x hx => hn x (List.mem_cons_of_mem _ hx))).reportSuccess
  · rename_i s1 he; exact KeepsRes.locateWrite hi.noteStore _ _ _ _ _ _ he
  · exact hi.noteStore.reportFailure
  · exact hi.noteStore.reportFailure

theorem Kept.clearDeferred {s0 s} (h : Kept s0 s) (a) : Kept s0 (clearDeferred s a) := by
  unfold Machine.clearDeferred
  refine .ite (h.thread _ ?_ ?_ ?_ ?_) h <;> (unfold Thread.setTxdefr; split <;> rfl)

theorem Kept.flushLine {s0 s} (h : Kept s0 s) (a b c d) :
    Kept s0 (flushLine s a b c d) := h.trans ⟨sameThreads_refl _, rfl, rfl, rfl, rfl, Nat.le_refl _, id, id, id⟩

theorem Kept.cacheCommand {s0 s} (h : Kept s0 s) (a b c) :
    Kept s0 (cacheCommand s a b c) := .ite ((h.flushLine _ _ _ _).emit _) (h.emit _)

theorem Kept.lineCommand {s0 s} (h : Kept s0 s) (a b) :
    Kept s0 (lineCommand s a b) := .ite ((h.flushLine _ _ _ _).emit _) (h.emit _)

theorem Kept.countDown {s0 s} (h : Kept s0 s) : Kept s0 (countDown s) := .ite h (h.setCtCell _ _)

theorem Kept.writeElement {s0 s} (h : Kept s0 s) (a b c d e) :
    Kept s0 (writeElement s a b c d e) := .ite (h.writeReg _ _ _) h

theorem Kept.freeElement {s0 s} (h : Kept s0 s) (a b c d) : Kept s0 (freeElement s a b c d) :=
  .ite (h.writeElement _ _ _ _ _) h

theorem Kept.raiseLast {s0 s} (h : Kept s0 s) (k) : Kept s0 (raiseLast k s) := .ite (h.raise _) (h.push _ fun _ => rfl)

/-- An instruction that leads on from `s0` keeps what `Kept` says. -/
def KeepsOut (s0 : State) (o : Out) : Prop := ∀ t, o = .next t → Kept s0 t

theorem KeepsOut.finish {s0 s} {r : Res Unit} (h : Kept s0 s) (hr : KeepsRes s0 r) : KeepsOut s0 (finish s r) := by
  intro t e
  unfold Machine.finish at e
  split at e <;> cases e
  · exact hr _ _ rfl
  · exact h.raise _
  · exact h.blockOn _

theorem KeepsOut.ite {s0} {r r2 : Out} {c : Prop} [Decidable c] (h : KeepsOut s0 r) (h2 : KeepsOut s0 r2) :
    KeepsOut s0 (if c then r else r2) := by split <;> assumption

theorem KeepsOut.refused {s0 r} : KeepsOut s0 (.refused r) := by intro t e; cases e

theorem KeepsOut.runElements {α s0 s1 s} {el : α → State → Res Unit} (hel : ∀ e t, Kept s0 t → KeepsRes s0 (el e t))
    (l : List α) (h1 : Kept s0 s1) (h : Kept s0 s) : KeepsOut s0 (runElements s1 el l s) := by
  induction l generalizing s with
  | nil => intro t e; cases e; exact h.advance
  | cons a l ih =>
    intro t e
    rw [Machine.runElements] at e
    split at e
    · rename_i s2 he; exact ih (hel _ _ h _ _ he).fresh t e
    · cases e; exact h.raiseLast _
    · cases e
      exact (show Kept s0 { s1 with tick := s.tick } from
        ⟨h1.others, h1.tid, h1.ex, h1.cfg, h1.env, h.tick, h1.mem, h1.fits, h1.locks⟩).blockOn _

end Sys2Proof.Claims
end

