-- ==== Sys2Proof/Laws/PerInstr.lean ====
section
/-! SUPPORT. A statement about the syntax of every instruction, one lemma for each constructor: its encoding is one word of
32 bits (30_encoding.md R152). -/

namespace Sys2Proof.Laws

/-- The instruction is encoded in one word of 32 bits. -/
def EncodeBound.Statement (i : Instr) : Prop := encode i < 2 ^ 32

theorem EncodeBound.addRR (sf : Bool) (du : Bool) (rd : BitVec 5) (rs1 : BitVec 5) (rs2 : BitVec 5) :
    EncodeBound.Statement (.addRR sf du rd rs1 rs2) := by
  change place _ _ < _
  simp only [place_cons, place_nil]
  have := bool_lt sf; have := bool_lt du; have := rd.isLt; have := rs1.isLt; have := rs2.isLt
  omega

theorem EncodeBound.addRX (sf : Bool) (du : Bool) (rd : BitVec 5)
    (rs1 : BitVec 5) (osel : BitVec 2) (oreg : BitVec 3) :
    EncodeBound.Statement (.addRX sf du rd rs1 osel oreg) := by
  change place _ _ < _
  simp only [place_cons, place_nil]
  have := bool_lt sf
  have := bool_lt du
  have := rd.isLt
  have := rs1.isLt
  have := osel.isLt
  have := oreg.isLt
  omega

theorem EncodeBound.movRR (sf : Bool) (du : Bool) (rd : BitVec 5) (rs2 : BitVec 5) :
    EncodeBound.Statement (.movRR sf du rd rs2) := by
  change place _ _ < _
  simp only [place_cons, place_nil]
  have := bool_lt sf; have := bool_lt du; have := rd.isLt; have := rs2.isLt
  omega

theorem EncodeBound.movRX (sf : Bool) (du : Bool) (rd : BitVec 5) (osel : BitVec 2) (oreg : BitVec 3) :
    EncodeBound.Statement (.movRX sf du rd osel oreg) := by
  change place _ _ < _
  simp only [place_cons, place_nil]
  have := bool_lt sf; have := bool_lt du; have := rd.isLt; have := osel.isLt; have := oreg.isLt
  omega

theorem EncodeBound.addI16 (sf : Bool) (du : Bool) (rd : BitVec 5) (imm : BitVec 16) (se : Bool) (h : Bool) :
    EncodeBound.Statement (.addI16 sf du rd imm se h) := by
  change place _ _ < _
  simp only [place_cons, place_nil]
  have := bool_lt sf
  have := bool_lt du
  have := rd.isLt
  have := imm.isLt
  have := bool_lt se
  have := bool_lt h
  omega

theorem EncodeBound.movI16 (sf : Bool) (du : Bool) (rd : BitVec 5) (imm : BitVec 16) (se : Bool) (h : Bool) :
    EncodeBound.Statement (.movI16 sf du rd imm se h) := by
  change place _ _ < _
  simp only [place_cons, place_nil]
  have := bool_lt sf
  have := bool_lt du
  have := rd.isLt
  have := imm.isLt
  have := bool_lt se
  have := bool_lt h
  omega

theorem EncodeBound.addCR (sf : Bool) (du : Bool) (rd : BitVec 5)
    (rs1 : BitVec 5) (rs2 : BitVec 5) (ud : BitVec 4) (cc : BitVec 4) :
    EncodeBound.Statement (.addCR sf du rd rs1 rs2 ud cc) := by
  change place _ _ < _
  simp only [place_cons, place_nil]
  have := bool_lt sf
  have := bool_lt du
  have := rd.isLt
  have := rs1.isLt
  have := rs2.isLt
  have := ud.isLt
  have := cc.isLt
  omega

theorem EncodeBound.addCX (sf : Bool) (du : Bool) (rd : BitVec 5) (rs1 : BitVec 5)
    (osel : BitVec 2) (oreg : BitVec 3) (ud : BitVec 4) (cc : BitVec 4) :
    EncodeBound.Statement (.addCX sf du rd rs1 osel oreg ud cc) := by
  change place _ _ < _
  simp only [place_cons, place_nil]
  have := bool_lt sf
  have := bool_lt du
  have := rd.isLt
  have := rs1.isLt
  have := osel.isLt
  have := oreg.isLt
  have := ud.isLt
  have := cc.isLt
  omega

theorem EncodeBound.addUX8 (sf : Bool) (du : Bool) (rd : BitVec 5) (rs : BitVec 5) (imm : BitVec 8) (ud : BitVec 4) :
    EncodeBound.Statement (.addUX8 sf du rd rs imm ud) := by
  change place _ _ < _
  simp only [place_cons, place_nil]
  have := bool_lt sf; have := bool_lt du; have := rd.isLt; have := rs.isLt; have := imm.isLt; have := ud.isLt
  omega

theorem EncodeBound.addCX8 (sf : Bool) (du : Bool) (rd : BitVec 5) (rs : BitVec 5) (imm : BitVec 8) (cc : BitVec 4) :
    EncodeBound.Statement (.addCX8 sf du rd rs imm cc) := by
  change place _ _ < _
  simp only [place_cons, place_nil]
  have := bool_lt sf; have := bool_lt du; have := rd.isLt; have := rs.isLt; have := imm.isLt; have := cc.isLt
  omega

theorem EncodeBound.subRR (sf : Bool) (du : Bool) (rd : BitVec 5) (rs1 : BitVec 5) (rs2 : BitVec 5) :
    EncodeBound.Statement (.subRR sf du rd rs1 rs2) := by
  change place _ _ < _
  simp only [place_cons, place_nil]
  have := bool_lt sf; have := bool_lt du; have := rd.isLt; have := rs1.isLt; have := rs2.isLt
  omega

theorem EncodeBound.subRX (sf : Bool) (du : Bool) (rd : BitVec 5)
    (rs1 : BitVec 5) (osel : BitVec 2) (oreg : BitVec 3) :
    EncodeBound.Statement (.subRX sf du rd rs1 osel oreg) := by
  change place _ _ < _
  simp only [place_cons, place_nil]
  have := bool_lt sf
  have := bool_lt du
  have := rd.isLt
  have := rs1.isLt
  have := osel.isLt
  have := oreg.isLt
  omega

theorem EncodeBound.negRR (sf : Bool) (du : Bool) (rd : BitVec 5) (rs2 : BitVec 5) :
    EncodeBound.Statement (.negRR sf du rd rs2) := by
  change place _ _ < _
  simp only [place_cons, place_nil]
  have := bool_lt sf; have := bool_lt du; have := rd.isLt; have := rs2.isLt
  omega

theorem EncodeBound.negRX (sf : Bool) (du : Bool) (rd : BitVec 5) (osel : BitVec 2) (oreg : BitVec 3) :
    EncodeBound.Statement (.negRX sf du rd osel oreg) := by
  change place _ _ < _
  simp only [place_cons, place_nil]
  have := bool_lt sf; have := bool_lt du; have := rd.isLt; have := osel.isLt; have := oreg.isLt
  omega

theorem EncodeBound.subI16 (sf : Bool) (du : Bool) (rd : BitVec 5) (imm : BitVec 16) (se : Bool) (h : Bool) :
    EncodeBound.Statement (.subI16 sf du rd imm se h) := by
  change place _ _ < _
  simp only [place_cons, place_nil]
  have := bool_lt sf
  have := bool_lt du
  have := rd.isLt
  have := imm.isLt
  have := bool_lt se
  have := bool_lt h
  omega

theorem EncodeBound.negI16 (sf : Bool) (du : Bool) (rd : BitVec 5) (imm : BitVec 16) (se : Bool) (h : Bool) :
    EncodeBound.Statement (.negI16 sf du rd imm se h) := by
  change place _ _ < _
  simp only [place_cons, place_nil]
  have := bool_lt sf
  have := bool_lt du
  have := rd.isLt
  have := imm.isLt
  have := bool_lt se
  have := bool_lt h
  omega

theorem EncodeBound.subCR (sf : Bool) (du : Bool) (rd : BitVec 5)
    (rs1 : BitVec 5) (rs2 : BitVec 5) (ud : BitVec 4) (cc : BitVec 4) :
    EncodeBound.Statement (.subCR sf du rd rs1 rs2 ud cc) := by
  change place _ _ < _
  simp only [place_cons, place_nil]
  have := bool_lt sf
  have := bool_lt du
  have := rd.isLt
  have := rs1.isLt
  have := rs2.isLt
  have := ud.isLt
  have := cc.isLt
  omega

theorem EncodeBound.subCX (sf : Bool) (du : Bool) (rd : BitVec 5) (rs1 : BitVec 5)
    (osel : BitVec 2) (oreg : BitVec 3) (ud : BitVec 4) (cc : BitVec 4) :
    EncodeBound.Statement (.subCX sf du rd rs1 osel oreg ud cc) := by
  change place _ _ < _
  simp only [place_cons, place_nil]
  have := bool_lt sf
  have := bool_lt du
  have := rd.isLt
  have := rs1.isLt
  have := osel.isLt
  have := oreg.isLt
  have := ud.isLt
  have := cc.isLt
  omega

theorem EncodeBound.subUX8 (sf : Bool) (du : Bool) (rd : BitVec 5) (rs : BitVec 5) (imm : BitVec 8) (ud : BitVec 4) :
    EncodeBound.Statement (.subUX8 sf du rd rs imm ud) := by
  change place _ _ < _
  simp only [place_cons, place_nil]
  have := bool_lt sf; have := bool_lt du; have := rd.isLt; have := rs.isLt; have := imm.isLt; have := ud.isLt
  omega

theorem EncodeBound.subCX8 (sf : Bool) (du : Bool) (rd : BitVec 5) (rs : BitVec 5) (imm : BitVec 8) (cc : BitVec 4) :
    EncodeBound.Statement (.subCX8 sf du rd rs imm cc) := by
  change place _ _ < _
  simp only [place_cons, place_nil]
  have := bool_lt sf; have := bool_lt du; have := rd.isLt; have := rs.isLt; have := imm.isLt; have := cc.isLt
  omega

theorem EncodeBound.andRR (sf : Bool) (du : Bool) (rd : BitVec 5) (rs1 : BitVec 5) (rs2 : BitVec 5) :
    EncodeBound.Statement (.andRR sf du rd rs1 rs2) := by
  change place _ _ < _
  simp only [place_cons, place_nil]
  have := bool_lt sf; have := bool_lt du; have := rd.isLt; have := rs1.isLt; have := rs2.isLt
  omega

theorem EncodeBound.andRX (sf : Bool) (du : Bool) (rd : BitVec 5)
    (rs1 : BitVec 5) (osel : BitVec 2) (oreg : BitVec 3) :
    EncodeBound.Statement (.andRX sf du rd rs1 osel oreg) := by
  change place _ _ < _
  simp only [place_cons, place_nil]
  have := bool_lt sf
  have := bool_lt du
  have := rd.isLt
  have := rs1.isLt
  have := osel.isLt
  have := oreg.isLt
  omega

theorem EncodeBound.andI16 (sf : Bool) (du : Bool) (rd : BitVec 5)
    (imm : BitVec 16) (m : Bool) (se : Bool) (h : Bool) :
    EncodeBound.Statement (.andI16 sf du rd imm m se h) := by
  change place _ _ < _
  simp only [place_cons, place_nil]
  have := bool_lt sf
  have := bool_lt du
  have := rd.isLt
  have := imm.isLt
  have := bool_lt m
  have := bool_lt se
  have := bool_lt h
  omega

theorem EncodeBound.andCR (sf : Bool) (du : Bool) (rd : BitVec 5)
    (rs1 : BitVec 5) (rs2 : BitVec 5) (ud : BitVec 4) (cc : BitVec 4) :
    EncodeBound.Statement (.andCR sf du rd rs1 rs2 ud cc) := by
  change place _ _ < _
  simp only [place_cons, place_nil]
  have := bool_lt sf
  have := bool_lt du
  have := rd.isLt
  have := rs1.isLt
  have := rs2.isLt
  have := ud.isLt
  have := cc.isLt
  omega

theorem EncodeBound.andCX (sf : Bool) (du : Bool) (rd : BitVec 5) (rs1 : BitVec 5)
    (osel : BitVec 2) (oreg : BitVec 3) (ud : BitVec 4) (cc : BitVec 4) :
    EncodeBound.Statement (.andCX sf du rd rs1 osel oreg ud cc) := by
  change place _ _ < _
  simp only [place_cons, place_nil]
  have := bool_lt sf
  have := bool_lt du
  have := rd.isLt
  have := rs1.isLt
  have := osel.isLt
  have := oreg.isLt
  have := ud.isLt
  have := cc.isLt
  omega

theorem EncodeBound.andUX8 (sf : Bool) (du : Bool) (rd : BitVec 5) (rs : BitVec 5) (imm : BitVec 8) (ud : BitVec 4) :
    EncodeBound.Statement (.andUX8 sf du rd rs imm ud) := by
  change place _ _ < _
  simp only [place_cons, place_nil]
  have := bool_lt sf; have := bool_lt du; have := rd.isLt; have := rs.isLt; have := imm.isLt; have := ud.isLt
  omega

theorem EncodeBound.andCX8 (sf : Bool) (du : Bool) (rd : BitVec 5) (rs : BitVec 5) (imm : BitVec 8) (cc : BitVec 4) :
    EncodeBound.Statement (.andCX8 sf du rd rs imm cc) := by
  change place _ _ < _
  simp only [place_cons, place_nil]
  have := bool_lt sf; have := bool_lt du; have := rd.isLt; have := rs.isLt; have := imm.isLt; have := cc.isLt
  omega

theorem EncodeBound.orRR (sf : Bool) (du : Bool) (rd : BitVec 5) (rs1 : BitVec 5) (rs2 : BitVec 5) :
    EncodeBound.Statement (.orRR sf du rd rs1 rs2) := by
  change place _ _ < _
  simp only [place_cons, place_nil]
  have := bool_lt sf; have := bool_lt du; have := rd.isLt; have := rs1.isLt; have := rs2.isLt
  omega

theorem EncodeBound.orRX (sf : Bool) (du : Bool) (rd : BitVec 5)
    (rs1 : BitVec 5) (osel : BitVec 2) (oreg : BitVec 3) :
    EncodeBound.Statement (.orRX sf du rd rs1 osel oreg) := by
  change place _ _ < _
  simp only [place_cons, place_nil]
  have := bool_lt sf
  have := bool_lt du
  have := rd.isLt
  have := rs1.isLt
  have := osel.isLt
  have := oreg.isLt
  omega

theorem EncodeBound.orI16 (sf : Bool) (du : Bool) (rd : BitVec 5)
    (imm : BitVec 16) (m : Bool) (se : Bool) (h : Bool) :
    EncodeBound.Statement (.orI16 sf du rd imm m se h) := by
  change place _ _ < _
  simp only [place_cons, place_nil]
  have := bool_lt sf
  have := bool_lt du
  have := rd.isLt
  have := imm.isLt
  have := bool_lt m
  have := bool_lt se
  have := bool_lt h
  omega

theorem EncodeBound.orCR (sf : Bool) (du : Bool) (rd : BitVec 5)
    (rs1 : BitVec 5) (rs2 : BitVec 5) (ud : BitVec 4) (cc : BitVec 4) :
    EncodeBound.Statement (.orCR sf du rd rs1 rs2 ud cc) := by
  change place _ _ < _
  simp only [place_cons, place_nil]
  have := bool_lt sf
  have := bool_lt du
  have := rd.isLt
  have := rs1.isLt
  have := rs2.isLt
  have := ud.isLt
  have := cc.isLt
  omega

theorem EncodeBound.orCX (sf : Bool) (du : Bool) (rd : BitVec 5) (rs1 : BitVec 5)
    (osel : BitVec 2) (oreg : BitVec 3) (ud : BitVec 4) (cc : BitVec 4) :
    EncodeBound.Statement (.orCX sf du rd rs1 osel oreg ud cc) := by
  change place _ _ < _
  simp only [place_cons, place_nil]
  have := bool_lt sf
  have := bool_lt du
  have := rd.isLt
  have := rs1.isLt
  have := osel.isLt
  have := oreg.isLt
  have := ud.isLt
  have := cc.isLt
  omega

theorem EncodeBound.orUX8 (sf : Bool) (du : Bool) (rd : BitVec 5) (rs : BitVec 5) (imm : BitVec 8) (ud : BitVec 4) :
    EncodeBound.Statement (.orUX8 sf du rd rs imm ud) := by
  change place _ _ < _
  simp only [place_cons, place_nil]
  have := bool_lt sf; have := bool_lt du; have := rd.isLt; have := rs.isLt; have := imm.isLt; have := ud.isLt
  omega

theorem EncodeBound.orCX8 (sf : Bool) (du : Bool) (rd : BitVec 5) (rs : BitVec 5) (imm : BitVec 8) (cc : BitVec 4) :
    EncodeBound.Statement (.orCX8 sf du rd rs imm cc) := by
  change place _ _ < _
  simp only [place_cons, place_nil]
  have := bool_lt sf; have := bool_lt du; have := rd.isLt; have := rs.isLt; have := imm.isLt; have := cc.isLt
  omega

theorem EncodeBound.xorRR (sf : Bool) (du : Bool) (rd : BitVec 5) (rs1 : BitVec 5) (rs2 : BitVec 5) :
    EncodeBound.Statement (.xorRR sf du rd rs1 rs2) := by
  change place _ _ < _
  simp only [place_cons, place_nil]
  have := bool_lt sf; have := bool_lt du; have := rd.isLt; have := rs1.isLt; have := rs2.isLt
  omega

theorem EncodeBound.xorRX (sf : Bool) (du : Bool) (rd : BitVec 5)
    (rs1 : BitVec 5) (osel : BitVec 2) (oreg : BitVec 3) :
    EncodeBound.Statement (.xorRX sf du rd rs1 osel oreg) := by
  change place _ _ < _
  simp only [place_cons, place_nil]
  have := bool_lt sf
  have := bool_lt du
  have := rd.isLt
  have := rs1.isLt
  have := osel.isLt
  have := oreg.isLt
  omega

theorem EncodeBound.xorI16 (sf : Bool) (du : Bool) (rd : BitVec 5)
    (imm : BitVec 16) (m : Bool) (se : Bool) (h : Bool) :
    EncodeBound.Statement (.xorI16 sf du rd imm m se h) := by
  change place _ _ < _
  simp only [place_cons, place_nil]
  have := bool_lt sf
  have := bool_lt du
  have := rd.isLt
  have := imm.isLt
  have := bool_lt m
  have := bool_lt se
  have := bool_lt h
  omega

theorem EncodeBound.xorCR (sf : Bool) (du : Bool) (rd : BitVec 5)
    (rs1 : BitVec 5) (rs2 : BitVec 5) (ud : BitVec 4) (cc : BitVec 4) :
    EncodeBound.Statement (.xorCR sf du rd rs1 rs2 ud cc) := by
  change place _ _ < _
  simp only [place_cons, place_nil]
  have := bool_lt sf
  have := bool_lt du
  have := rd.isLt
  have := rs1.isLt
  have := rs2.isLt
  have := ud.isLt
  have := cc.isLt
  omega

theorem EncodeBound.xorCX (sf : Bool) (du : Bool) (rd : BitVec 5) (rs1 : BitVec 5)
    (osel : BitVec 2) (oreg : BitVec 3) (ud : BitVec 4) (cc : BitVec 4) :
    EncodeBound.Statement (.xorCX sf du rd rs1 osel oreg ud cc) := by
  change place _ _ < _
  simp only [place_cons, place_nil]
  have := bool_lt sf
  have := bool_lt du
  have := rd.isLt
  have := rs1.isLt
  have := osel.isLt
  have := oreg.isLt
  have := ud.isLt
  have := cc.isLt
  omega

theorem EncodeBound.xorUX8 (sf : Bool) (du : Bool) (rd : BitVec 5) (rs : BitVec 5) (imm : BitVec 8) (ud : BitVec 4) :
    EncodeBound.Statement (.xorUX8 sf du rd rs imm ud) := by
  change place _ _ < _
  simp only [place_cons, place_nil]
  have := bool_lt sf; have := bool_lt du; have := rd.isLt; have := rs.isLt; have := imm.isLt; have := ud.isLt
  omega

theorem EncodeBound.xorCX8 (sf : Bool) (du : Bool) (rd : BitVec 5) (rs : BitVec 5) (imm : BitVec 8) (cc : BitVec 4) :
    EncodeBound.Statement (.xorCX8 sf du rd rs imm cc) := by
  change place _ _ < _
  simp only [place_cons, place_nil]
  have := bool_lt sf; have := bool_lt du; have := rd.isLt; have := rs.isLt; have := imm.isLt; have := cc.isLt
  omega

theorem EncodeBound.addARR (au : Bool) (rd : BitVec 4) (pc1 : Bool) (rs1 : BitVec 4) (pc2 : Bool) (rs2 : BitVec 4) :
    EncodeBound.Statement (.addARR au rd pc1 rs1 pc2 rs2) := by
  change place _ _ < _
  simp only [place_cons, place_nil]
  have := bool_lt au
  have := rd.isLt
  have := bool_lt pc1
  have := rs1.isLt
  have := bool_lt pc2
  have := rs2.isLt
  omega

theorem EncodeBound.addARX (au : Bool) (rd : BitVec 4) (pc1 : Bool)
    (rs1 : BitVec 4) (osel : BitVec 2) (oreg : BitVec 3) :
    EncodeBound.Statement (.addARX au rd pc1 rs1 osel oreg) := by
  change place _ _ < _
  simp only [place_cons, place_nil]
  have := bool_lt au
  have := rd.isLt
  have := bool_lt pc1
  have := rs1.isLt
  have := osel.isLt
  have := oreg.isLt
  omega

theorem EncodeBound.movARR (au : Bool) (rd : BitVec 4) (pc2 : Bool) (rs2 : BitVec 4) :
    EncodeBound.Statement (.movARR au rd pc2 rs2) := by
  change place _ _ < _
  simp only [place_cons, place_nil]
  have := bool_lt au; have := rd.isLt; have := bool_lt pc2; have := rs2.isLt
  omega

theorem EncodeBound.movARX (au : Bool) (rd : BitVec 4) (osel : BitVec 2) (oreg : BitVec 3) :
    EncodeBound.Statement (.movARX au rd osel oreg) := by
  change place _ _ < _
  simp only [place_cons, place_nil]
  have := bool_lt au; have := rd.isLt; have := osel.isLt; have := oreg.isLt
  omega

theorem EncodeBound.addAI16 (au : Bool) (pcb : Bool) (rd : BitVec 4) (imm : BitVec 16) (se : Bool) (h : Bool) :
    EncodeBound.Statement (.addAI16 au pcb rd imm se h) := by
  change place _ _ < _
  simp only [place_cons, place_nil]
  have := bool_lt au
  have := bool_lt pcb
  have := rd.isLt
  have := imm.isLt
  have := bool_lt se
  have := bool_lt h
  omega

theorem EncodeBound.movAI16 (au : Bool) (pcb : Bool) (rd : BitVec 4) (imm : BitVec 16) (se : Bool) (h : Bool) :
    EncodeBound.Statement (.movAI16 au pcb rd imm se h) := by
  change place _ _ < _
  simp only [place_cons, place_nil]
  have := bool_lt au
  have := bool_lt pcb
  have := rd.isLt
  have := imm.isLt
  have := bool_lt se
  have := bool_lt h
  omega

theorem EncodeBound.addACR (au : Bool) (rd : BitVec 5) (pc1 : Bool) (rs1 : BitVec 4)
    (pc2 : Bool) (rs2 : BitVec 4) (ud : BitVec 4) (cc : BitVec 4) :
    EncodeBound.Statement (.addACR au rd pc1 rs1 pc2 rs2 ud cc) := by
  change place _ _ < _
  simp only [place_cons, place_nil]
  have := bool_lt au
  have := rd.isLt
  have := bool_lt pc1
  have := rs1.isLt
  have := bool_lt pc2
  have := rs2.isLt
  have := ud.isLt
  have := cc.isLt
  omega

theorem EncodeBound.addACX (au : Bool) (rd : BitVec 5) (pc1 : Bool) (rs1 : BitVec 4)
    (osel : BitVec 2) (oreg : BitVec 3) (ud : BitVec 4) (cc : BitVec 4) :
    EncodeBound.Statement (.addACX au rd pc1 rs1 osel oreg ud cc) := by
  change place _ _ < _
  simp only [place_cons, place_nil]
  have := bool_lt au
  have := rd.isLt
  have := bool_lt pc1
  have := rs1.isLt
  have := osel.isLt
  have := oreg.isLt
  have := ud.isLt
  have := cc.isLt
  omega

theorem EncodeBound.addAUX8 (au : Bool) (rd : BitVec 5) (pc1 : Bool)
    (rs : BitVec 4) (imm : BitVec 8) (ud : BitVec 4) :
    EncodeBound.Statement (.addAUX8 au rd pc1 rs imm ud) := by
  change place _ _ < _
  simp only [place_cons, place_nil]
  have := bool_lt au
  have := rd.isLt
  have := bool_lt pc1
  have := rs.isLt
  have := imm.isLt
  have := ud.isLt
  omega

theorem EncodeBound.addACX8 (au : Bool) (rd : BitVec 5) (pc1 : Bool)
    (rs : BitVec 4) (imm : BitVec 8) (cc : BitVec 4) :
    EncodeBound.Statement (.addACX8 au rd pc1 rs imm cc) := by
  change place _ _ < _
  simp only [place_cons, place_nil]
  have := bool_lt au
  have := rd.isLt
  have := bool_lt pc1
  have := rs.isLt
  have := imm.isLt
  have := cc.isLt
  omega

theorem EncodeBound.subARR (au : Bool) (rd : BitVec 4) (pc1 : Bool) (rs1 : BitVec 4) (pc2 : Bool) (rs2 : BitVec 4) :
    EncodeBound.Statement (.subARR au rd pc1 rs1 pc2 rs2) := by
  change place _ _ < _
  simp only [place_cons, place_nil]
  have := bool_lt au
  have := rd.isLt
  have := bool_lt pc1
  have := rs1.isLt
  have := bool_lt pc2
  have := rs2.isLt
  omega

theorem EncodeBound.subARX (au : Bool) (rd : BitVec 4) (pc1 : Bool)
    (rs1 : BitVec 4) (osel : BitVec 2) (oreg : BitVec 3) :
    EncodeBound.Statement (.subARX au rd pc1 rs1 osel oreg) := by
  change place _ _ < _
  simp only [place_cons, place_nil]
  have := bool_lt au
  have := rd.isLt
  have := bool_lt pc1
  have := rs1.isLt
  have := osel.isLt
  have := oreg.isLt
  omega

theorem EncodeBound.negARR (au : Bool) (rd : BitVec 4) (pc2 : Bool) (rs2 : BitVec 4) :
    EncodeBound.Statement (.negARR au rd pc2 rs2) := by
  change place _ _ < _
  simp only [place_cons, place_nil]
  have := bool_lt au; have := rd.isLt; have := bool_lt pc2; have := rs2.isLt
  omega

theorem EncodeBound.negARX (au : Bool) (rd : BitVec 4) (osel : BitVec 2) (oreg : BitVec 3) :
    EncodeBound.Statement (.negARX au rd osel oreg) := by
  change place _ _ < _
  simp only [place_cons, place_nil]
  have := bool_lt au; have := rd.isLt; have := osel.isLt; have := oreg.isLt
  omega

theorem EncodeBound.subAI16 (au : Bool) (pcb : Bool) (rd : BitVec 4) (imm : BitVec 16) (se : Bool) (h : Bool) :
    EncodeBound.Statement (.subAI16 au pcb rd imm se h) := by
  change place _ _ < _
  simp only [place_cons, place_nil]
  have := bool_lt au
  have := bool_lt pcb
  have := rd.isLt
  have := imm.isLt
  have := bool_lt se
  have := bool_lt h
  omega

theorem EncodeBound.negAI16 (au : Bool) (pcb : Bool) (rd : BitVec 4) (imm : BitVec 16) (se : Bool) (h : Bool) :
    EncodeBound.Statement (.negAI16 au pcb rd imm se h) := by
  change place _ _ < _
  simp only [place_cons, place_nil]
  have := bool_lt au
  have := bool_lt pcb
  have := rd.isLt
  have := imm.isLt
  have := bool_lt se
  have := bool_lt h
  omega

theorem EncodeBound.subACR (au : Bool) (rd : BitVec 5) (pc1 : Bool) (rs1 : BitVec 4)
    (pc2 : Bool) (rs2 : BitVec 4) (ud : BitVec 4) (cc : BitVec 4) :
    EncodeBound.Statement (.subACR au rd pc1 rs1 pc2 rs2 ud cc) := by
  change place _ _ < _
  simp only [place_cons, place_nil]
  have := bool_lt au
  have := rd.isLt
  have := bool_lt pc1
  have := rs1.isLt
  have := bool_lt pc2
  have := rs2.isLt
  have := ud.isLt
  have := cc.isLt
  omega

theorem EncodeBound.subACX (au : Bool) (rd : BitVec 5) (pc1 : Bool) (rs1 : BitVec 4)
    (osel : BitVec 2) (oreg : BitVec 3) (ud : BitVec 4) (cc : BitVec 4) :
    EncodeBound.Statement (.subACX au rd pc1 rs1 osel oreg ud cc) := by
  change place _ _ < _
  simp only [place_cons, place_nil]
  have := bool_lt au
  have := rd.isLt
  have := bool_lt pc1
  have := rs1.isLt
  have := osel.isLt
  have := oreg.isLt
  have := ud.isLt
  have := cc.isLt
  omega

theorem EncodeBound.subAUX8 (au : Bool) (rd : BitVec 5) (pc1 : Bool)
    (rs : BitVec 4) (imm : BitVec 8) (ud : BitVec 4) :
    EncodeBound.Statement (.subAUX8 au rd pc1 rs imm ud) := by
  change place _ _ < _
  simp only [place_cons, place_nil]
  have := bool_lt au
  have := rd.isLt
  have := bool_lt pc1
  have := rs.isLt
  have := imm.isLt
  have := ud.isLt
  omega

theorem EncodeBound.subACX8 (au : Bool) (rd : BitVec 5) (pc1 : Bool)
    (rs : BitVec 4) (imm : BitVec 8) (cc : BitVec 4) :
    EncodeBound.Statement (.subACX8 au rd pc1 rs imm cc) := by
  change place _ _ < _
  simp only [place_cons, place_nil]
  have := bool_lt au
  have := rd.isLt
  have := bool_lt pc1
  have := rs.isLt
  have := imm.isLt
  have := cc.isLt
  omega

theorem EncodeBound.lslRR (sf : Bool) (du : Bool) (rd : BitVec 5) (rs1 : BitVec 5) (rs2 : BitVec 5) :
    EncodeBound.Statement (.lslRR sf du rd rs1 rs2) := by
  change place _ _ < _
  simp only [place_cons, place_nil]
  have := bool_lt sf; have := bool_lt du; have := rd.isLt; have := rs1.isLt; have := rs2.isLt
  omega

theorem EncodeBound.lslI5 (sf : Bool) (du : Bool) (rd : BitVec 5) (rs1 : BitVec 5) (imm : BitVec 5) :
    EncodeBound.Statement (.lslI5 sf du rd rs1 imm) := by
  change place _ _ < _
  simp only [place_cons, place_nil]
  have := bool_lt sf; have := bool_lt du; have := rd.isLt; have := rs1.isLt; have := imm.isLt
  omega

theorem EncodeBound.lslUR (sf : Bool) (du : Bool) (rd : BitVec 5) (rs1 : BitVec 5) (rs2 : BitVec 5) (ud : BitVec 4) :
    EncodeBound.Statement (.lslUR sf du rd rs1 rs2 ud) := by
  change place _ _ < _
  simp only [place_cons, place_nil]
  have := bool_lt sf
  have := bool_lt du
  have := rd.isLt
  have := rs1.isLt
  have := rs2.isLt
  have := ud.isLt
  omega

theorem EncodeBound.lslUI5 (sf : Bool) (du : Bool) (rd : BitVec 5) (rs1 : BitVec 5) (imm : BitVec 5) (ud : BitVec 4) :
    EncodeBound.Statement (.lslUI5 sf du rd rs1 imm ud) := by
  change place _ _ < _
  simp only [place_cons, place_nil]
  have := bool_lt sf
  have := bool_lt du
  have := rd.isLt
  have := rs1.isLt
  have := imm.isLt
  have := ud.isLt
  omega

theorem EncodeBound.lslCR (sf : Bool) (du : Bool) (rd : BitVec 5) (rs1 : BitVec 5) (rs2 : BitVec 5) (cc : BitVec 4) :
    EncodeBound.Statement (.lslCR sf du rd rs1 rs2 cc) := by
  change place _ _ < _
  simp only [place_cons, place_nil]
  have := bool_lt sf
  have := bool_lt du
  have := rd.isLt
  have := rs1.isLt
  have := rs2.isLt
  have := cc.isLt
  omega

theorem EncodeBound.lslCI5 (sf : Bool) (du : Bool) (rd : BitVec 5) (rs1 : BitVec 5) (imm : BitVec 5) (cc : BitVec 4) :
    EncodeBound.Statement (.lslCI5 sf du rd rs1 imm cc) := by
  change place _ _ < _
  simp only [place_cons, place_nil]
  have := bool_lt sf
  have := bool_lt du
  have := rd.isLt
  have := rs1.isLt
  have := imm.isLt
  have := cc.isLt
  omega

theorem EncodeBound.lsrRR (sf : Bool) (du : Bool) (rd : BitVec 5) (rs1 : BitVec 5) (rs2 : BitVec 5) :
    EncodeBound.Statement (.lsrRR sf du rd rs1 rs2) := by
  change place _ _ < _
  simp only [place_cons, place_nil]
  have := bool_lt sf; have := bool_lt du; have := rd.isLt; have := rs1.isLt; have := rs2.isLt
  omega

theorem EncodeBound.lsrI5 (sf : Bool) (du : Bool) (rd : BitVec 5) (rs1 : BitVec 5) (imm : BitVec 5) :
    EncodeBound.Statement (.lsrI5 sf du rd rs1 imm) := by
  change place _ _ < _
  simp only [place_cons, place_nil]
  have := bool_lt sf; have := bool_lt du; have := rd.isLt; have := rs1.isLt; have := imm.isLt
  omega

theorem EncodeBound.lsrUR (sf : Bool) (du : Bool) (rd : BitVec 5) (rs1 : BitVec 5) (rs2 : BitVec 5) (ud : BitVec 4) :
    EncodeBound.Statement (.lsrUR sf du rd rs1 rs2 ud) := by
  change place _ _ < _
  simp only [place_cons, place_nil]
  have := bool_lt sf
  have := bool_lt du
  have := rd.isLt
  have := rs1.isLt
  have := rs2.isLt
  have := ud.isLt
  omega

theorem EncodeBound.lsrUI5 (sf : Bool) (du : Bool) (rd : BitVec 5) (rs1 : BitVec 5) (imm : BitVec 5) (ud : BitVec 4) :
    EncodeBound.Statement (.lsrUI5 sf du rd rs1 imm ud) := by
  change place _ _ < _
  simp only [place_cons, place_nil]
  have := bool_lt sf
  have := bool_lt du
  have := rd.isLt
  have := rs1.isLt
  have := imm.isLt
  have := ud.isLt
  omega

theorem EncodeBound.lsrCR (sf : Bool) (du : Bool) (rd : BitVec 5) (rs1 : BitVec 5) (rs2 : BitVec 5) (cc : BitVec 4) :
    EncodeBound.Statement (.lsrCR sf du rd rs1 rs2 cc) := by
  change place _ _ < _
  simp only [place_cons, place_nil]
  have := bool_lt sf
  have := bool_lt du
  have := rd.isLt
  have := rs1.isLt
  have := rs2.isLt
  have := cc.isLt
  omega

theorem EncodeBound.lsrCI5 (sf : Bool) (du : Bool) (rd : BitVec 5) (rs1 : BitVec 5) (imm : BitVec 5) (cc : BitVec 4) :
    EncodeBound.Statement (.lsrCI5 sf du rd rs1 imm cc) := by
  change place _ _ < _
  simp only [place_cons, place_nil]
  have := bool_lt sf
  have := bool_lt du
  have := rd.isLt
  have := rs1.isLt
  have := imm.isLt
  have := cc.isLt
  omega

theorem EncodeBound.aslRR (sf : Bool) (du : Bool) (rd : BitVec 5) (rs1 : BitVec 5) (rs2 : BitVec 5) :
    EncodeBound.Statement (.aslRR sf du rd rs1 rs2) := by
  change place _ _ < _
  simp only [place_cons, place_nil]
  have := bool_lt sf; have := bool_lt du; have := rd.isLt; have := rs1.isLt; have := rs2.isLt
  omega

theorem EncodeBound.aslI5 (sf : Bool) (du : Bool) (rd : BitVec 5) (rs1 : BitVec 5) (imm : BitVec 5) :
    EncodeBound.Statement (.aslI5 sf du rd rs1 imm) := by
  change place _ _ < _
  simp only [place_cons, place_nil]
  have := bool_lt sf; have := bool_lt du; have := rd.isLt; have := rs1.isLt; have := imm.isLt
  omega

theorem EncodeBound.aslUR (sf : Bool) (du : Bool) (rd : BitVec 5) (rs1 : BitVec 5) (rs2 : BitVec 5) (ud : BitVec 4) :
    EncodeBound.Statement (.aslUR sf du rd rs1 rs2 ud) := by
  change place _ _ < _
  simp only [place_cons, place_nil]
  have := bool_lt sf
  have := bool_lt du
  have := rd.isLt
  have := rs1.isLt
  have := rs2.isLt
  have := ud.isLt
  omega

theorem EncodeBound.aslUI5 (sf : Bool) (du : Bool) (rd : BitVec 5) (rs1 : BitVec 5) (imm : BitVec 5) (ud : BitVec 4) :
    EncodeBound.Statement (.aslUI5 sf du rd rs1 imm ud) := by
  change place _ _ < _
  simp only [place_cons, place_nil]
  have := bool_lt sf
  have := bool_lt du
  have := rd.isLt
  have := rs1.isLt
  have := imm.isLt
  have := ud.isLt
  omega

theorem EncodeBound.aslCR (sf : Bool) (du : Bool) (rd : BitVec 5) (rs1 : BitVec 5) (rs2 : BitVec 5) (cc : BitVec 4) :
    EncodeBound.Statement (.aslCR sf du rd rs1 rs2 cc) := by
  change place _ _ < _
  simp only [place_cons, place_nil]
  have := bool_lt sf
  have := bool_lt du
  have := rd.isLt
  have := rs1.isLt
  have := rs2.isLt
  have := cc.isLt
  omega

theorem EncodeBound.aslCI5 (sf : Bool) (du : Bool) (rd : BitVec 5) (rs1 : BitVec 5) (imm : BitVec 5) (cc : BitVec 4) :
    EncodeBound.Statement (.aslCI5 sf du rd rs1 imm cc) := by
  change place _ _ < _
  simp only [place_cons, place_nil]
  have := bool_lt sf
  have := bool_lt du
  have := rd.isLt
  have := rs1.isLt
  have := imm.isLt
  have := cc.isLt
  omega

theorem EncodeBound.asrRR (sf : Bool) (du : Bool) (rd : BitVec 5) (rs1 : BitVec 5) (rs2 : BitVec 5) :
    EncodeBound.Statement (.asrRR sf du rd rs1 rs2) := by
  change place _ _ < _
  simp only [place_cons, place_nil]
  have := bool_lt sf; have := bool_lt du; have := rd.isLt; have := rs1.isLt; have := rs2.isLt
  omega

theorem EncodeBound.asrI5 (sf : Bool) (du : Bool) (rd : BitVec 5) (rs1 : BitVec 5) (imm : BitVec 5) :
    EncodeBound.Statement (.asrI5 sf du rd rs1 imm) := by
  change place _ _ < _
  simp only [place_cons, place_nil]
  have := bool_lt sf; have := bool_lt du; have := rd.isLt; have := rs1.isLt; have := imm.isLt
  omega

theorem EncodeBound.asrUR (sf : Bool) (du : Bool) (rd : BitVec 5) (rs1 : BitVec 5) (rs2 : BitVec 5) (ud : BitVec 4) :
    EncodeBound.Statement (.asrUR sf du rd rs1 rs2 ud) := by
  change place _ _ < _
  simp only [place_cons, place_nil]
  have := bool_lt sf
  have := bool_lt du
  have := rd.isLt
  have := rs1.isLt
  have := rs2.isLt
  have := ud.isLt
  omega

theorem EncodeBound.asrUI5 (sf : Bool) (du : Bool) (rd : BitVec 5) (rs1 : BitVec 5) (imm : BitVec 5) (ud : BitVec 4) :
    EncodeBound.Statement (.asrUI5 sf du rd rs1 imm ud) := by
  change place _ _ < _
  simp only [place_cons, place_nil]
  have := bool_lt sf
  have := bool_lt du
  have := rd.isLt
  have := rs1.isLt
  have := imm.isLt
  have := ud.isLt
  omega

theorem EncodeBound.asrCR (sf : Bool) (du : Bool) (rd : BitVec 5) (rs1 : BitVec 5) (rs2 : BitVec 5) (cc : BitVec 4) :
    EncodeBound.Statement (.asrCR sf du rd rs1 rs2 cc) := by
  change place _ _ < _
  simp only [place_cons, place_nil]
  have := bool_lt sf
  have := bool_lt du
  have := rd.isLt
  have := rs1.isLt
  have := rs2.isLt
  have := cc.isLt
  omega

theorem EncodeBound.asrCI5 (sf : Bool) (du : Bool) (rd : BitVec 5) (rs1 : BitVec 5) (imm : BitVec 5) (cc : BitVec 4) :
    EncodeBound.Statement (.asrCI5 sf du rd rs1 imm cc) := by
  change place _ _ < _
  simp only [place_cons, place_nil]
  have := bool_lt sf
  have := bool_lt du
  have := rd.isLt
  have := rs1.isLt
  have := imm.isLt
  have := cc.isLt
  omega

theorem EncodeBound.mulwRR (du : Bool) (rd : BitVec 5) (rs1 : BitVec 5) (rs2 : BitVec 5) :
    EncodeBound.Statement (.mulwRR du rd rs1 rs2) := by
  change place _ _ < _
  simp only [place_cons, place_nil]
  have := bool_lt du; have := rd.isLt; have := rs1.isLt; have := rs2.isLt
  omega

theorem EncodeBound.mulwRX (du : Bool) (rd : BitVec 5) (rs1 : BitVec 5) (osel : BitVec 2) (oreg : BitVec 3) :
    EncodeBound.Statement (.mulwRX du rd rs1 osel oreg) := by
  change place _ _ < _
  simp only [place_cons, place_nil]
  have := bool_lt du; have := rd.isLt; have := rs1.isLt; have := osel.isLt; have := oreg.isLt
  omega

theorem EncodeBound.mulwI16 (du : Bool) (rd : BitVec 5) (imm : BitVec 16) (se : Bool) (h : Bool) :
    EncodeBound.Statement (.mulwI16 du rd imm se h) := by
  change place _ _ < _
  simp only [place_cons, place_nil]
  have := bool_lt du; have := rd.isLt; have := imm.isLt; have := bool_lt se; have := bool_lt h
  omega

theorem EncodeBound.mulwUR (du : Bool) (rd : BitVec 5) (rs1 : BitVec 5) (rs2 : BitVec 5) (ud : BitVec 4) :
    EncodeBound.Statement (.mulwUR du rd rs1 rs2 ud) := by
  change place _ _ < _
  simp only [place_cons, place_nil]
  have := bool_lt du; have := rd.isLt; have := rs1.isLt; have := rs2.isLt; have := ud.isLt
  omega

theorem EncodeBound.mulwUX (du : Bool) (rd : BitVec 5) (rs1 : BitVec 5)
    (osel : BitVec 2) (oreg : BitVec 3) (ud : BitVec 4) :
    EncodeBound.Statement (.mulwUX du rd rs1 osel oreg ud) := by
  change place _ _ < _
  simp only [place_cons, place_nil]
  have := bool_lt du
  have := rd.isLt
  have := rs1.isLt
  have := osel.isLt
  have := oreg.isLt
  have := ud.isLt
  omega

theorem EncodeBound.mulwUX8 (du : Bool) (rd : BitVec 5) (rs : BitVec 5) (imm : BitVec 8) (ud : BitVec 4) :
    EncodeBound.Statement (.mulwUX8 du rd rs imm ud) := by
  change place _ _ < _
  simp only [place_cons, place_nil]
  have := bool_lt du; have := rd.isLt; have := rs.isLt; have := imm.isLt; have := ud.isLt
  omega

theorem EncodeBound.mulwCR (du : Bool) (rd : BitVec 5) (rs1 : BitVec 5) (rs2 : BitVec 5) (cc : BitVec 4) :
    EncodeBound.Statement (.mulwCR du rd rs1 rs2 cc) := by
  change place _ _ < _
  simp only [place_cons, place_nil]
  have := bool_lt du; have := rd.isLt; have := rs1.isLt; have := rs2.isLt; have := cc.isLt
  omega

theorem EncodeBound.mulwCX (du : Bool) (rd : BitVec 5) (rs1 : BitVec 5)
    (osel : BitVec 2) (oreg : BitVec 3) (cc : BitVec 4) :
    EncodeBound.Statement (.mulwCX du rd rs1 osel oreg cc) := by
  change place _ _ < _
  simp only [place_cons, place_nil]
  have := bool_lt du
  have := rd.isLt
  have := rs1.isLt
  have := osel.isLt
  have := oreg.isLt
  have := cc.isLt
  omega

theorem EncodeBound.mulwCX8 (du : Bool) (rd : BitVec 5) (rs : BitVec 5) (imm : BitVec 8) (cc : BitVec 4) :
    EncodeBound.Statement (.mulwCX8 du rd rs imm cc) := by
  change place _ _ < _
  simp only [place_cons, place_nil]
  have := bool_lt du; have := rd.isLt; have := rs.isLt; have := imm.isLt; have := cc.isLt
  omega

theorem EncodeBound.muldRR (du : Bool) (rd : BitVec 5) (rs1 : BitVec 5) (rs2 : BitVec 5) :
    EncodeBound.Statement (.muldRR du rd rs1 rs2) := by
  change place _ _ < _
  simp only [place_cons, place_nil]
  have := bool_lt du; have := rd.isLt; have := rs1.isLt; have := rs2.isLt
  omega

theorem EncodeBound.muldRX (du : Bool) (rd : BitVec 5) (rs1 : BitVec 5) (osel : BitVec 2) (oreg : BitVec 3) :
    EncodeBound.Statement (.muldRX du rd rs1 osel oreg) := by
  change place _ _ < _
  simp only [place_cons, place_nil]
  have := bool_lt du; have := rd.isLt; have := rs1.isLt; have := osel.isLt; have := oreg.isLt
  omega

theorem EncodeBound.muldI16 (du : Bool) (rd : BitVec 5) (imm : BitVec 16) (se : Bool) (h : Bool) :
    EncodeBound.Statement (.muldI16 du rd imm se h) := by
  change place _ _ < _
  simp only [place_cons, place_nil]
  have := bool_lt du; have := rd.isLt; have := imm.isLt; have := bool_lt se; have := bool_lt h
  omega

theorem EncodeBound.muldUR (du : Bool) (rd : BitVec 5) (rs1 : BitVec 5) (rs2 : BitVec 5) (ud : BitVec 4) :
    EncodeBound.Statement (.muldUR du rd rs1 rs2 ud) := by
  change place _ _ < _
  simp only [place_cons, place_nil]
  have := bool_lt du; have := rd.isLt; have := rs1.isLt; have := rs2.isLt; have := ud.isLt
  omega

theorem EncodeBound.muldUX (du : Bool) (rd : BitVec 5) (rs1 : BitVec 5)
    (osel : BitVec 2) (oreg : BitVec 3) (ud : BitVec 4) :
    EncodeBound.Statement (.muldUX du rd rs1 osel oreg ud) := by
  change place _ _ < _
  simp only [place_cons, place_nil]
  have := bool_lt du
  have := rd.isLt
  have := rs1.isLt
  have := osel.isLt
  have := oreg.isLt
  have := ud.isLt
  omega

theorem EncodeBound.muldUX8 (du : Bool) (rd : BitVec 5) (rs : BitVec 5) (imm : BitVec 8) (ud : BitVec 4) :
    EncodeBound.Statement (.muldUX8 du rd rs imm ud) := by
  change place _ _ < _
  simp only [place_cons, place_nil]
  have := bool_lt du; have := rd.isLt; have := rs.isLt; have := imm.isLt; have := ud.isLt
  omega

theorem EncodeBound.muldCR (du : Bool) (rd : BitVec 5) (rs1 : BitVec 5) (rs2 : BitVec 5) (cc : BitVec 4) :
    EncodeBound.Statement (.muldCR du rd rs1 rs2 cc) := by
  change place _ _ < _
  simp only [place_cons, place_nil]
  have := bool_lt du; have := rd.isLt; have := rs1.isLt; have := rs2.isLt; have := cc.isLt
  omega

theorem EncodeBound.muldCX (du : Bool) (rd : BitVec 5) (rs1 : BitVec 5)
    (osel : BitVec 2) (oreg : BitVec 3) (cc : BitVec 4) :
    EncodeBound.Statement (.muldCX du rd rs1 osel oreg cc) := by
  change place _ _ < _
  simp only [place_cons, place_nil]
  have := bool_lt du
  have := rd.isLt
  have := rs1.isLt
  have := osel.isLt
  have := oreg.isLt
  have := cc.isLt
  omega

theorem EncodeBound.muldCX8 (du : Bool) (rd : BitVec 5) (rs : BitVec 5) (imm : BitVec 8) (cc : BitVec 4) :
    EncodeBound.Statement (.muldCX8 du rd rs imm cc) := by
  change place _ _ < _
  simp only [place_cons, place_nil]
  have := bool_lt du; have := rd.isLt; have := rs.isLt; have := imm.isLt; have := cc.isLt
  omega

theorem EncodeBound.absRR (du : Bool) (rd : BitVec 5) (rs : BitVec 5) :
    EncodeBound.Statement (.absRR du rd rs) := by
  change place _ _ < _
  simp only [place_cons, place_nil]
  have := bool_lt du; have := rd.isLt; have := rs.isLt
  omega

theorem EncodeBound.ffbRR (du : Bool) (rd : BitVec 5) (rs : BitVec 5) :
    EncodeBound.Statement (.ffbRR du rd rs) := by
  change place _ _ < _
  simp only [place_cons, place_nil]
  have := bool_lt du; have := rd.isLt; have := rs.isLt
  omega

theorem EncodeBound.maxRR (du : Bool) (rd : BitVec 5) (rs1 : BitVec 5) (rs2 : BitVec 5) :
    EncodeBound.Statement (.maxRR du rd rs1 rs2) := by
  change place _ _ < _
  simp only [place_cons, place_nil]
  have := bool_lt du; have := rd.isLt; have := rs1.isLt; have := rs2.isLt
  omega

theorem EncodeBound.minRR (du : Bool) (rd : BitVec 5) (rs1 : BitVec 5) (rs2 : BitVec 5) :
    EncodeBound.Statement (.minRR du rd rs1 rs2) := by
  change place _ _ < _
  simp only [place_cons, place_nil]
  have := bool_lt du; have := rd.isLt; have := rs1.isLt; have := rs2.isLt
  omega

theorem EncodeBound.mortRR (du : Bool) (rd : BitVec 5) (rs1 : BitVec 5) (rs2 : BitVec 5) :
    EncodeBound.Statement (.mortRR du rd rs1 rs2) := by
  change place _ _ < _
  simp only [place_cons, place_nil]
  have := bool_lt du; have := rd.isLt; have := rs1.isLt; have := rs2.isLt
  omega

theorem EncodeBound.mortRX (du : Bool) (rd : BitVec 5) (rs1 : BitVec 5) (osel : BitVec 2) (oreg : BitVec 3) :
    EncodeBound.Statement (.mortRX du rd rs1 osel oreg) := by
  change place _ _ < _
  simp only [place_cons, place_nil]
  have := bool_lt du; have := rd.isLt; have := rs1.isLt; have := osel.isLt; have := oreg.isLt
  omega

theorem EncodeBound.nminRR (du : Bool) (rd : BitVec 5) (rs1 : BitVec 5) (rs2 : BitVec 5) :
    EncodeBound.Statement (.nminRR du rd rs1 rs2) := by
  change place _ _ < _
  simp only [place_cons, place_nil]
  have := bool_lt du; have := rd.isLt; have := rs1.isLt; have := rs2.isLt
  omega

theorem EncodeBound.normRR (du : Bool) (rd : BitVec 5) (rs : BitVec 5) :
    EncodeBound.Statement (.normRR du rd rs) := by
  change place _ _ < _
  simp only [place_cons, place_nil]
  have := bool_lt du; have := rd.isLt; have := rs.isLt
  omega

theorem EncodeBound.vpackRR (du : Bool) (rd : BitVec 5) (rs1 : BitVec 5) (rs2 : BitVec 5) :
    EncodeBound.Statement (.vpackRR du rd rs1 rs2) := by
  change place _ _ < _
  simp only [place_cons, place_nil]
  have := bool_lt du; have := rd.isLt; have := rs1.isLt; have := rs2.isLt
  omega

theorem EncodeBound.vpackRX (du : Bool) (rd : BitVec 5) (rs1 : BitVec 5) (osel : BitVec 2) (oreg : BitVec 3) :
    EncodeBound.Statement (.vpackRX du rd rs1 osel oreg) := by
  change place _ _ < _
  simp only [place_cons, place_nil]
  have := bool_lt du; have := rd.isLt; have := rs1.isLt; have := osel.isLt; have := oreg.isLt
  omega

theorem EncodeBound.cmpRR (du : Bool) (rs1 : BitVec 5) (rs2 : BitVec 5) :
    EncodeBound.Statement (.cmpRR du rs1 rs2) := by
  change place _ _ < _
  simp only [place_cons, place_nil]
  have := bool_lt du; have := rs1.isLt; have := rs2.isLt
  omega

theorem EncodeBound.cmpRX (du : Bool) (rs1 : BitVec 5) (osel : BitVec 2) (oreg : BitVec 3) :
    EncodeBound.Statement (.cmpRX du rs1 osel oreg) := by
  change place _ _ < _
  simp only [place_cons, place_nil]
  have := bool_lt du; have := rs1.isLt; have := osel.isLt; have := oreg.isLt
  omega

theorem EncodeBound.cmpI16 (du : Bool) (rs : BitVec 5) (imm : BitVec 16) (m : Bool) (se : Bool) (h : Bool) :
    EncodeBound.Statement (.cmpI16 du rs imm m se h) := by
  change place _ _ < _
  simp only [place_cons, place_nil]
  have := bool_lt du
  have := rs.isLt
  have := imm.isLt
  have := bool_lt m
  have := bool_lt se
  have := bool_lt h
  omega

theorem EncodeBound.cmpCR (du : Bool) (rs1 : BitVec 5) (rs2 : BitVec 5) (cc : BitVec 4) :
    EncodeBound.Statement (.cmpCR du rs1 rs2 cc) := by
  change place _ _ < _
  simp only [place_cons, place_nil]
  have := bool_lt du; have := rs1.isLt; have := rs2.isLt; have := cc.isLt
  omega

theorem EncodeBound.cmpCX (du : Bool) (rs1 : BitVec 5) (osel : BitVec 2) (oreg : BitVec 3) (cc : BitVec 4) :
    EncodeBound.Statement (.cmpCX du rs1 osel oreg cc) := by
  change place _ _ < _
  simp only [place_cons, place_nil]
  have := bool_lt du; have := rs1.isLt; have := osel.isLt; have := oreg.isLt; have := cc.isLt
  omega

theorem EncodeBound.cmpCX8 (du : Bool) (rs : BitVec 5) (imm : BitVec 8) (cc : BitVec 4) :
    EncodeBound.Statement (.cmpCX8 du rs imm cc) := by
  change place _ _ < _
  simp only [place_cons, place_nil]
  have := bool_lt du; have := rs.isLt; have := imm.isLt; have := cc.isLt
  omega

theorem EncodeBound.tstRR (du : Bool) (rs1 : BitVec 5) (rs2 : BitVec 5) :
    EncodeBound.Statement (.tstRR du rs1 rs2) := by
  change place _ _ < _
  simp only [place_cons, place_nil]
  have := bool_lt du; have := rs1.isLt; have := rs2.isLt
  omega

theorem EncodeBound.tstRX (du : Bool) (rs1 : BitVec 5) (osel : BitVec 2) (oreg : BitVec 3) :
    EncodeBound.Statement (.tstRX du rs1 osel oreg) := by
  change place _ _ < _
  simp only [place_cons, place_nil]
  have := bool_lt du; have := rs1.isLt; have := osel.isLt; have := oreg.isLt
  omega

theorem EncodeBound.tstI16 (du : Bool) (rs : BitVec 5) (imm : BitVec 16) (m : Bool) (se : Bool) (h : Bool) :
    EncodeBound.Statement (.tstI16 du rs imm m se h) := by
  change place _ _ < _
  simp only [place_cons, place_nil]
  have := bool_lt du
  have := rs.isLt
  have := imm.isLt
  have := bool_lt m
  have := bool_lt se
  have := bool_lt h
  omega

theorem EncodeBound.tstCR (du : Bool) (rs1 : BitVec 5) (rs2 : BitVec 5) (cc : BitVec 4) :
    EncodeBound.Statement (.tstCR du rs1 rs2 cc) := by
  change place _ _ < _
  simp only [place_cons, place_nil]
  have := bool_lt du; have := rs1.isLt; have := rs2.isLt; have := cc.isLt
  omega

theorem EncodeBound.tstCX (du : Bool) (rs1 : BitVec 5) (osel : BitVec 2) (oreg : BitVec 3) (cc : BitVec 4) :
    EncodeBound.Statement (.tstCX du rs1 osel oreg cc) := by
  change place _ _ < _
  simp only [place_cons, place_nil]
  have := bool_lt du; have := rs1.isLt; have := osel.isLt; have := oreg.isLt; have := cc.isLt
  omega

theorem EncodeBound.tstCX8 (du : Bool) (rs : BitVec 5) (imm : BitVec 8) (cc : BitVec 4) :
    EncodeBound.Statement (.tstCX8 du rs imm cc) := by
  change place _ _ < _
  simp only [place_cons, place_nil]
  have := bool_lt du; have := rs.isLt; have := imm.isLt; have := cc.isLt
  omega

theorem EncodeBound.nop :
    EncodeBound.Statement .nop := by
  change place _ _ < _
  decide

theorem EncodeBound.branch (off : BitVec 19) (rep : Bool) :
    EncodeBound.Statement (.branch off rep) := by
  change place _ _ < _
  simp only [place_cons, place_nil]
  have := off.isLt; have := bool_lt rep
  omega

theorem EncodeBound.branchCc (off : BitVec 19) (cc : BitVec 4) (rep : Bool) :
    EncodeBound.Statement (.branchCc off cc rep) := by
  change place _ _ < _
  simp only [place_cons, place_nil]
  have := off.isLt; have := cc.isLt; have := bool_lt rep
  omega

theorem EncodeBound.movbRd (rd : BitVec 5) (ud : BitVec 4) (cc : BitVec 4) :
    EncodeBound.Statement (.movbRd rd ud cc) := by
  change place _ _ < _
  simp only [place_cons, place_nil]
  have := rd.isLt; have := ud.isLt; have := cc.isLt
  omega

theorem EncodeBound.movwRd (rd : BitVec 5) (ud : BitVec 4) (cc : BitVec 4) :
    EncodeBound.Statement (.movwRd rd ud cc) := by
  change place _ _ < _
  simp only [place_cons, place_nil]
  have := rd.isLt; have := ud.isLt; have := cc.isLt
  omega

theorem EncodeBound.movdRd (rd : BitVec 5) (ud : BitVec 4) (cc : BitVec 4) :
    EncodeBound.Statement (.movdRd rd ud cc) := by
  change place _ _ < _
  simp only [place_cons, place_nil]
  have := rd.isLt; have := ud.isLt; have := cc.isLt
  omega

theorem EncodeBound.cprbUnit (rd : BitVec 5) (cp : BitVec 3) (ud : BitVec 4) (cc : BitVec 4) :
    EncodeBound.Statement (.cprbUnit rd cp ud cc) := by
  change place _ _ < _
  simp only [place_cons, place_nil]
  have := rd.isLt; have := cp.isLt; have := ud.isLt; have := cc.isLt
  omega

theorem EncodeBound.cprwUnit (rd : BitVec 5) (cp : BitVec 3) (ud : BitVec 4) (cc : BitVec 4) :
    EncodeBound.Statement (.cprwUnit rd cp ud cc) := by
  change place _ _ < _
  simp only [place_cons, place_nil]
  have := rd.isLt; have := cp.isLt; have := ud.isLt; have := cc.isLt
  omega

theorem EncodeBound.cprdUnit (rd : BitVec 5) (cp : BitVec 3) (ud : BitVec 4) (cc : BitVec 4) :
    EncodeBound.Statement (.cprdUnit rd cp ud cc) := by
  change place _ _ < _
  simp only [place_cons, place_nil]
  have := rd.isLt; have := cp.isLt; have := ud.isLt; have := cc.isLt
  omega

theorem EncodeBound.movlTtrec (rs1 : BitVec 5) (rs2 : BitVec 5) (bu : BitVec 2) (cc : BitVec 4) :
    EncodeBound.Statement (.movlTtrec rs1 rs2 bu cc) := by
  change place _ _ < _
  simp only [place_cons, place_nil]
  have := rs1.isLt; have := rs2.isLt; have := bu.isLt; have := cc.isLt
  omega

theorem EncodeBound.movlRd (rd1 : BitVec 5) (rd2 : BitVec 5) (bu : BitVec 2) (cc : BitVec 4) :
    EncodeBound.Statement (.movlRd rd1 rd2 bu cc) := by
  change place _ _ < _
  simp only [place_cons, place_nil]
  have := rd1.isLt; have := rd2.isLt; have := bu.isLt; have := cc.isLt
  omega

theorem EncodeBound.cprlPair (rd1 : BitVec 5) (cp : BitVec 3) (rd2 : BitVec 5) (bu : BitVec 2) (cc : BitVec 4) :
    EncodeBound.Statement (.cprlPair rd1 cp rd2 bu cc) := by
  change place _ _ < _
  simp only [place_cons, place_nil]
  have := rd1.isLt; have := cp.isLt; have := rd2.isLt; have := bu.isLt; have := cc.isLt
  omega

theorem EncodeBound.rti :
    EncodeBound.Statement .rti := by
  change place _ _ < _
  decide

theorem EncodeBound.rth :
    EncodeBound.Statement .rth := by
  change place _ _ < _
  decide

theorem EncodeBound.ttmov (rd : BitVec 5) (rs : BitVec 5) (us : BitVec 4) (ud : BitVec 4) (cc : BitVec 4) :
    EncodeBound.Statement (.ttmov rd rs us ud cc) := by
  change place _ _ < _
  simp only [place_cons, place_nil]
  have := rd.isLt; have := rs.isLt; have := us.isLt; have := ud.isLt; have := cc.isLt
  omega

theorem EncodeBound.kick (rd : BitVec 5) (rs : BitVec 5) (ud : BitVec 4) (cc : BitVec 4) :
    EncodeBound.Statement (.kick rd rs ud cc) := by
  change place _ _ < _
  simp only [place_cons, place_nil]
  have := rd.isLt; have := rs.isLt; have := ud.isLt; have := cc.isLt
  omega

theorem EncodeBound.defr (rd : BitVec 5) (rs : BitVec 5) (ud : BitVec 4) (cc : BitVec 4) :
    EncodeBound.Statement (.defr rd rs ud cc) := by
  change place _ _ < _
  simp only [place_cons, place_nil]
  have := rd.isLt; have := rs.isLt; have := ud.isLt; have := cc.isLt
  omega

theorem EncodeBound.swap (rd : BitVec 5) (rs : BitVec 5) (us : BitVec 4) (ud : BitVec 4) :
    EncodeBound.Statement (.swap rd rs us ud) := by
  change place _ _ < _
  simp only [place_cons, place_nil]
  have := rd.isLt; have := rs.isLt; have := us.isLt; have := ud.isLt
  omega

theorem EncodeBound.swapCc (rd : BitVec 5) (rs : BitVec 5) (us : BitVec 4) (ud : BitVec 4) (cc : BitVec 4) :
    EncodeBound.Statement (.swapCc rd rs us ud cc) := by
  change place _ _ < _
  simp only [place_cons, place_nil]
  have := rd.isLt; have := rs.isLt; have := us.isLt; have := ud.isLt; have := cc.isLt
  omega

theorem EncodeBound.movUnit (rd : BitVec 5) (rs : BitVec 5) (us : BitVec 4) (ud : BitVec 4) :
    EncodeBound.Statement (.movUnit rd rs us ud) := by
  change place _ _ < _
  simp only [place_cons, place_nil]
  have := rd.isLt; have := rs.isLt; have := us.isLt; have := ud.isLt
  omega

theorem EncodeBound.movUnitCc (rd : BitVec 5) (rs : BitVec 5) (us : BitVec 4) (ud : BitVec 4) (cc : BitVec 4) :
    EncodeBound.Statement (.movUnitCc rd rs us ud cc) := by
  change place _ _ < _
  simp only [place_cons, place_nil]
  have := rd.isLt; have := rs.isLt; have := us.isLt; have := ud.isLt; have := cc.isLt
  omega

theorem EncodeBound.cprbMemCc (cp : BitVec 5) (rb : BitVec 5) (bu : BitVec 2) (cc : BitVec 4) :
    EncodeBound.Statement (.cprbMemCc cp rb bu cc) := by
  change place _ _ < _
  simp only [place_cons, place_nil]
  have := cp.isLt; have := rb.isLt; have := bu.isLt; have := cc.isLt
  omega

theorem EncodeBound.cprwMemCc (cp : BitVec 5) (rb : BitVec 5) (bu : BitVec 2) (cc : BitVec 4) :
    EncodeBound.Statement (.cprwMemCc cp rb bu cc) := by
  change place _ _ < _
  simp only [place_cons, place_nil]
  have := cp.isLt; have := rb.isLt; have := bu.isLt; have := cc.isLt
  omega

theorem EncodeBound.cprdMemCc (cp : BitVec 5) (rb : BitVec 5) (bu : BitVec 2) (cc : BitVec 4) :
    EncodeBound.Statement (.cprdMemCc cp rb bu cc) := by
  change place _ _ < _
  simp only [place_cons, place_nil]
  have := cp.isLt; have := rb.isLt; have := bu.isLt; have := cc.isLt
  omega

theorem EncodeBound.cprlMemCc (cp : BitVec 5) (rb : BitVec 5) (bu : BitVec 2) (cc : BitVec 4) :
    EncodeBound.Statement (.cprlMemCc cp rb bu cc) := by
  change place _ _ < _
  simp only [place_cons, place_nil]
  have := cp.isLt; have := rb.isLt; have := bu.isLt; have := cc.isLt
  omega

theorem EncodeBound.setbCc (rs : BitVec 5) (rb : BitVec 5) (us : BitVec 4) (bu : BitVec 2) (cc : BitVec 4) :
    EncodeBound.Statement (.setbCc rs rb us bu cc) := by
  change place _ _ < _
  simp only [place_cons, place_nil]
  have := rs.isLt; have := rb.isLt; have := us.isLt; have := bu.isLt; have := cc.isLt
  omega

theorem EncodeBound.setwCc (rs : BitVec 5) (rb : BitVec 5) (us : BitVec 4) (bu : BitVec 2) (cc : BitVec 4) :
    EncodeBound.Statement (.setwCc rs rb us bu cc) := by
  change place _ _ < _
  simp only [place_cons, place_nil]
  have := rs.isLt; have := rb.isLt; have := us.isLt; have := bu.isLt; have := cc.isLt
  omega

theorem EncodeBound.setdCc (rs : BitVec 5) (rb : BitVec 5) (us : BitVec 4) (bu : BitVec 2) (cc : BitVec 4) :
    EncodeBound.Statement (.setdCc rs rb us bu cc) := by
  change place _ _ < _
  simp only [place_cons, place_nil]
  have := rs.isLt; have := rb.isLt; have := us.isLt; have := bu.isLt; have := cc.isLt
  omega

theorem EncodeBound.setlCc (rs : BitVec 5) (rb : BitVec 5) (us : BitVec 4) (bu : BitVec 2) (cc : BitVec 4) :
    EncodeBound.Statement (.setlCc rs rb us bu cc) := by
  change place _ _ < _
  simp only [place_cons, place_nil]
  have := rs.isLt; have := rb.isLt; have := us.isLt; have := bu.isLt; have := cc.isLt
  omega

theorem EncodeBound.lnksetb (rs : BitVec 5) (rb : BitVec 5) (us : BitVec 4) (bu : BitVec 2) (cc : BitVec 4) :
    EncodeBound.Statement (.lnksetb rs rb us bu cc) := by
  change place _ _ < _
  simp only [place_cons, place_nil]
  have := rs.isLt; have := rb.isLt; have := us.isLt; have := bu.isLt; have := cc.isLt
  omega

theorem EncodeBound.lnksetw (rs : BitVec 5) (rb : BitVec 5) (us : BitVec 4) (bu : BitVec 2) (cc : BitVec 4) :
    EncodeBound.Statement (.lnksetw rs rb us bu cc) := by
  change place _ _ < _
  simp only [place_cons, place_nil]
  have := rs.isLt; have := rb.isLt; have := us.isLt; have := bu.isLt; have := cc.isLt
  omega

theorem EncodeBound.lnksetd (rs : BitVec 5) (rb : BitVec 5) (us : BitVec 4) (bu : BitVec 2) (cc : BitVec 4) :
    EncodeBound.Statement (.lnksetd rs rb us bu cc) := by
  change place _ _ < _
  simp only [place_cons, place_nil]
  have := rs.isLt; have := rb.isLt; have := us.isLt; have := bu.isLt; have := cc.isLt
  omega

theorem EncodeBound.lnksetl (rs : BitVec 5) (rb : BitVec 5) (us : BitVec 4) (bu : BitVec 2) (cc : BitVec 4) :
    EncodeBound.Statement (.lnksetl rs rb us bu cc) := by
  change place _ _ < _
  simp only [place_cons, place_nil]
  have := rs.isLt; have := rb.isLt; have := us.isLt; have := bu.isLt; have := cc.isLt
  omega

theorem EncodeBound.setbS12 (rs : BitVec 5) (imm : BitVec 12) (bua : BitVec 2) (bus : BitVec 2) (rb : BitVec 1) :
    EncodeBound.Statement (.setbS12 rs imm bua bus rb) := by
  change place _ _ < _
  simp only [place_cons, place_nil]
  have := rs.isLt; have := imm.isLt; have := bua.isLt; have := bus.isLt; have := rb.isLt
  omega

theorem EncodeBound.setwS12 (rs : BitVec 5) (imm : BitVec 12) (bua : BitVec 2) (bus : BitVec 2) (rb : BitVec 1) :
    EncodeBound.Statement (.setwS12 rs imm bua bus rb) := by
  change place _ _ < _
  simp only [place_cons, place_nil]
  have := rs.isLt; have := imm.isLt; have := bua.isLt; have := bus.isLt; have := rb.isLt
  omega

theorem EncodeBound.setdS12 (rs : BitVec 5) (imm : BitVec 12) (bua : BitVec 2) (bus : BitVec 2) (rb : BitVec 1) :
    EncodeBound.Statement (.setdS12 rs imm bua bus rb) := by
  change place _ _ < _
  simp only [place_cons, place_nil]
  have := rs.isLt; have := imm.isLt; have := bua.isLt; have := bus.isLt; have := rb.isLt
  omega

theorem EncodeBound.setlS12 (rs : BitVec 5) (imm : BitVec 12) (bua : BitVec 2) (bus : BitVec 2) (rb : BitVec 1) :
    EncodeBound.Statement (.setlS12 rs imm bua bus rb) := by
  change place _ _ < _
  simp only [place_cons, place_nil]
  have := rs.isLt; have := imm.isLt; have := bua.isLt; have := bus.isLt; have := rb.isLt
  omega

theorem EncodeBound.movbRaS12 (port : BitVec 5) (imm : BitVec 12) (bua : BitVec 2) (rb : BitVec 1) :
    EncodeBound.Statement (.movbRaS12 port imm bua rb) := by
  change place _ _ < _
  simp only [place_cons, place_nil]
  have := port.isLt; have := imm.isLt; have := bua.isLt; have := rb.isLt
  omega

theorem EncodeBound.movwRaS12 (port : BitVec 5) (imm : BitVec 12) (bua : BitVec 2) (rb : BitVec 1) :
    EncodeBound.Statement (.movwRaS12 port imm bua rb) := by
  change place _ _ < _
  simp only [place_cons, place_nil]
  have := port.isLt; have := imm.isLt; have := bua.isLt; have := rb.isLt
  omega

theorem EncodeBound.movdRaS12 (port : BitVec 5) (imm : BitVec 12) (bua : BitVec 2) (rb : BitVec 1) :
    EncodeBound.Statement (.movdRaS12 port imm bua rb) := by
  change place _ _ < _
  simp only [place_cons, place_nil]
  have := port.isLt; have := imm.isLt; have := bua.isLt; have := rb.isLt
  omega

theorem EncodeBound.movlRaS12 (port : BitVec 5) (imm : BitVec 12) (bua : BitVec 2) (rb : BitVec 1) :
    EncodeBound.Statement (.movlRaS12 port imm bua rb) := by
  change place _ _ < _
  simp only [place_cons, place_nil]
  have := port.isLt; have := imm.isLt; have := bua.isLt; have := rb.isLt
  omega

theorem EncodeBound.getbS12 (rd : BitVec 5) (imm : BitVec 12) (bua : BitVec 2) (bud : BitVec 2) (rb : BitVec 1) :
    EncodeBound.Statement (.getbS12 rd imm bua bud rb) := by
  change place _ _ < _
  simp only [place_cons, place_nil]
  have := rd.isLt; have := imm.isLt; have := bua.isLt; have := bud.isLt; have := rb.isLt
  omega

theorem EncodeBound.getwS12 (rd : BitVec 5) (imm : BitVec 12) (bua : BitVec 2) (bud : BitVec 2) (rb : BitVec 1) :
    EncodeBound.Statement (.getwS12 rd imm bua bud rb) := by
  change place _ _ < _
  simp only [place_cons, place_nil]
  have := rd.isLt; have := imm.isLt; have := bua.isLt; have := bud.isLt; have := rb.isLt
  omega

theorem EncodeBound.getdS12 (rd : BitVec 5) (imm : BitVec 12) (bua : BitVec 2) (bud : BitVec 2) (rb : BitVec 1) :
    EncodeBound.Statement (.getdS12 rd imm bua bud rb) := by
  change place _ _ < _
  simp only [place_cons, place_nil]
  have := rd.isLt; have := imm.isLt; have := bua.isLt; have := bud.isLt; have := rb.isLt
  omega

theorem EncodeBound.getlS12 (rd : BitVec 5) (imm : BitVec 12) (bua : BitVec 2) (bud : BitVec 2) (rb : BitVec 1) :
    EncodeBound.Statement (.getlS12 rd imm bua bud rb) := by
  change place _ _ < _
  simp only [place_cons, place_nil]
  have := rd.isLt; have := imm.isLt; have := bua.isLt; have := bud.isLt; have := rb.isLt
  omega

theorem EncodeBound.lock0 :
    EncodeBound.Statement .lock0 := by
  change place _ _ < _
  decide

theorem EncodeBound.lock1 :
    EncodeBound.Statement .lock1 := by
  change place _ _ < _
  decide

theorem EncodeBound.lock2 :
    EncodeBound.Statement .lock2 := by
  change place _ _ < _
  decide

theorem EncodeBound.movCt (rd : BitVec 5) (imm : BitVec 16) (se : Bool) (h : Bool) :
    EncodeBound.Statement (.movCt rd imm se h) := by
  change place _ _ < _
  simp only [place_cons, place_nil]
  have := rd.isLt; have := imm.isLt; have := bool_lt se; have := bool_lt h
  omega

theorem EncodeBound.movTt (rd : BitVec 5) (imm : BitVec 16) (se : Bool) (h : Bool) :
    EncodeBound.Statement (.movTt rd imm se h) := by
  change place _ _ < _
  simp only [place_cons, place_nil]
  have := rd.isLt; have := imm.isLt; have := bool_lt se; have := bool_lt h
  omega

theorem EncodeBound.xsdb (rd : BitVec 5) (rs : BitVec 5) (sf : Bool) (du : Bool) :
    EncodeBound.Statement (.xsdb rd rs sf du) := by
  change place _ _ < _
  simp only [place_cons, place_nil]
  have := rd.isLt; have := rs.isLt; have := bool_lt sf; have := bool_lt du
  omega

theorem EncodeBound.xsdw (rd : BitVec 5) (rs : BitVec 5) (sf : Bool) (du : Bool) :
    EncodeBound.Statement (.xsdw rd rs sf du) := by
  change place _ _ < _
  simp only [place_cons, place_nil]
  have := rd.isLt; have := rs.isLt; have := bool_lt sf; have := bool_lt du
  omega

theorem EncodeBound.bexd (rd : BitVec 5) (rs : BitVec 5) (sf : Bool) (du : Bool) :
    EncodeBound.Statement (.bexd rd rs sf du) := by
  change place _ _ < _
  simp only [place_cons, place_nil]
  have := rd.isLt; have := rs.isLt; have := bool_lt sf; have := bool_lt du
  omega

theorem EncodeBound.bexl (rd : BitVec 5) (rs : BitVec 5) (sf : Bool) (du : Bool) :
    EncodeBound.Statement (.bexl rd rs sf du) := by
  change place _ _ < _
  simp only [place_cons, place_nil]
  have := rd.isLt; have := rs.isLt; have := bool_lt sf; have := bool_lt du
  omega

theorem EncodeBound.rtdw (rd : BitVec 5) (rs : BitVec 5) (sf : Bool) (du : Bool) :
    EncodeBound.Statement (.rtdw rd rs sf du) := by
  change place _ _ < _
  simp only [place_cons, place_nil]
  have := rd.isLt; have := rs.isLt; have := bool_lt sf; have := bool_lt du
  omega

theorem EncodeBound.callr (off : BitVec 19) (bu : BitVec 2) (rr : BitVec 3) :
    EncodeBound.Statement (.callr off bu rr) := by
  change place _ _ < _
  simp only [place_cons, place_nil]
  have := off.isLt; have := bu.isLt; have := rr.isLt
  omega

theorem EncodeBound.jump (rs : BitVec 5) (imm : BitVec 16) (bu : BitVec 2) :
    EncodeBound.Statement (.jump rs imm bu) := by
  change place _ _ < _
  simp only [place_cons, place_nil]
  have := rs.isLt; have := imm.isLt; have := bu.isLt
  omega

theorem EncodeBound.call (rs : BitVec 5) (imm : BitVec 16) (bu : BitVec 2) :
    EncodeBound.Statement (.call rs imm bu) := by
  change place _ _ < _
  simp only [place_cons, place_nil]
  have := rs.isLt; have := imm.isLt; have := bu.isLt
  omega

theorem EncodeBound.lnkgetb (rd : BitVec 5) (rb : BitVec 5) (bua : BitVec 2) (bur : BitVec 2) :
    EncodeBound.Statement (.lnkgetb rd rb bua bur) := by
  change place _ _ < _
  simp only [place_cons, place_nil]
  have := rd.isLt; have := rb.isLt; have := bua.isLt; have := bur.isLt
  omega

theorem EncodeBound.lnkgetw (rd : BitVec 5) (rb : BitVec 5) (bua : BitVec 2) (bur : BitVec 2) :
    EncodeBound.Statement (.lnkgetw rd rb bua bur) := by
  change place _ _ < _
  simp only [place_cons, place_nil]
  have := rd.isLt; have := rb.isLt; have := bua.isLt; have := bur.isLt
  omega

theorem EncodeBound.lnkgetd (rd : BitVec 5) (rb : BitVec 5) (bua : BitVec 2) (bur : BitVec 2) :
    EncodeBound.Statement (.lnkgetd rd rb bua bur) := by
  change place _ _ < _
  simp only [place_cons, place_nil]
  have := rd.isLt; have := rb.isLt; have := bua.isLt; have := bur.isLt
  omega

theorem EncodeBound.lnkgetl (rd : BitVec 5) (rb : BitVec 5) (bua : BitVec 2) (bur : BitVec 2) :
    EncodeBound.Statement (.lnkgetl rd rb bua bur) := by
  change place _ _ < _
  simp only [place_cons, place_nil]
  have := rd.isLt; have := rb.isLt; have := bua.isLt; have := bur.isLt
  omega

theorem EncodeBound.cacherl (rd : BitVec 5) (rb : BitVec 5) (imm : BitVec 6) (bua : BitVec 2) (bur : BitVec 2) :
    EncodeBound.Statement (.cacherl rd rb imm bua bur) := by
  change place _ _ < _
  simp only [place_cons, place_nil]
  have := rd.isLt; have := rb.isLt; have := imm.isLt; have := bua.isLt; have := bur.isLt
  omega

theorem EncodeBound.cacherd (rd : BitVec 5) (rb : BitVec 5) (imm : BitVec 6) (bua : BitVec 2) (bur : BitVec 2) :
    EncodeBound.Statement (.cacherd rd rb imm bua bur) := by
  change place _ _ < _
  simp only [place_cons, place_nil]
  have := rd.isLt; have := rb.isLt; have := imm.isLt; have := bua.isLt; have := bur.isLt
  omega

theorem EncodeBound.cachewl (rs : BitVec 5) (rb : BitVec 5) (imm : BitVec 6) (bua : BitVec 2) (bur : BitVec 2) :
    EncodeBound.Statement (.cachewl rs rb imm bua bur) := by
  change place _ _ < _
  simp only [place_cons, place_nil]
  have := rs.isLt; have := rb.isLt; have := imm.isLt; have := bua.isLt; have := bur.isLt
  omega

theorem EncodeBound.cachewd (rs : BitVec 5) (rb : BitVec 5) (imm : BitVec 6) (bua : BitVec 2) (bur : BitVec 2) :
    EncodeBound.Statement (.cachewd rs rb imm bua bur) := by
  change place _ _ < _
  simp only [place_cons, place_nil]
  have := rs.isLt; have := rb.isLt; have := imm.isLt; have := bua.isLt; have := bur.isLt
  omega

theorem EncodeBound.dcache (rs : BitVec 5) (rb : BitVec 5) (imm : BitVec 6) (bua : BitVec 2) (bur : BitVec 2) :
    EncodeBound.Statement (.dcache rs rb imm bua bur) := by
  change place _ _ < _
  simp only [place_cons, place_nil]
  have := rs.isLt; have := rb.isLt; have := imm.isLt; have := bua.isLt; have := bur.isLt
  omega

theorem EncodeBound.icacheExit (pri : Bool) :
    EncodeBound.Statement (.icacheExit pri) := by
  change place _ _ < _
  simp only [place_cons, place_nil]
  have := bool_lt pri
  omega

theorem EncodeBound.icache (off : BitVec 15) (count : BitVec 4) (pri : Bool) :
    EncodeBound.Statement (.icache off count pri) := by
  change place _ _ < _
  simp only [place_cons, place_nil]
  have := off.isLt; have := count.isLt; have := bool_lt pri
  omega

theorem EncodeBound.switch (value : BitVec 24) :
    EncodeBound.Statement (.switch value) := by
  change place _ _ < _
  simp only [place_cons, place_nil]
  have := value.isLt
  omega

theorem EncodeBound.cprbMemR (rb : BitVec 5) (ro : BitVec 5) (ua : Bool) (bu : BitVec 2) (pp : Bool) (cp : BitVec 5) :
    EncodeBound.Statement (.cprbMemR rb ro ua bu pp cp) := by
  change place _ _ < _
  simp only [place_cons, place_nil]
  have := rb.isLt; have := ro.isLt; have := bool_lt ua; have := bu.isLt; have := bool_lt pp; have := cp.isLt
  omega

theorem EncodeBound.cprbMemI6 (rb : BitVec 5) (imm : BitVec 6) (ua : Bool)
    (bu : BitVec 2) (pp : Bool) (cp : BitVec 5) :
    EncodeBound.Statement (.cprbMemI6 rb imm ua bu pp cp) := by
  change place _ _ < _
  simp only [place_cons, place_nil]
  have := rb.isLt; have := imm.isLt; have := bool_lt ua; have := bu.isLt; have := bool_lt pp; have := cp.isLt
  omega

theorem EncodeBound.cprwMemR (rb : BitVec 5) (ro : BitVec 5) (ua : Bool) (bu : BitVec 2) (pp : Bool) (cp : BitVec 5) :
    EncodeBound.Statement (.cprwMemR rb ro ua bu pp cp) := by
  change place _ _ < _
  simp only [place_cons, place_nil]
  have := rb.isLt; have := ro.isLt; have := bool_lt ua; have := bu.isLt; have := bool_lt pp; have := cp.isLt
  omega

theorem EncodeBound.cprwMemI6 (rb : BitVec 5) (imm : BitVec 6) (ua : Bool)
    (bu : BitVec 2) (pp : Bool) (cp : BitVec 5) :
    EncodeBound.Statement (.cprwMemI6 rb imm ua bu pp cp) := by
  change place _ _ < _
  simp only [place_cons, place_nil]
  have := rb.isLt; have := imm.isLt; have := bool_lt ua; have := bu.isLt; have := bool_lt pp; have := cp.isLt
  omega

theorem EncodeBound.cprdMemR (rb : BitVec 5) (ro : BitVec 5) (ua : Bool) (bu : BitVec 2) (pp : Bool) (cp : BitVec 5) :
    EncodeBound.Statement (.cprdMemR rb ro ua bu pp cp) := by
  change place _ _ < _
  simp only [place_cons, place_nil]
  have := rb.isLt; have := ro.isLt; have := bool_lt ua; have := bu.isLt; have := bool_lt pp; have := cp.isLt
  omega

theorem EncodeBound.cprdMemI6 (rb : BitVec 5) (imm : BitVec 6) (ua : Bool)
    (bu : BitVec 2) (pp : Bool) (cp : BitVec 5) :
    EncodeBound.Statement (.cprdMemI6 rb imm ua bu pp cp) := by
  change place _ _ < _
  simp only [place_cons, place_nil]
  have := rb.isLt; have := imm.isLt; have := bool_lt ua; have := bu.isLt; have := bool_lt pp; have := cp.isLt
  omega

theorem EncodeBound.cprlMemR (rb : BitVec 5) (ro : BitVec 5) (ua : Bool) (bu : BitVec 2) (pp : Bool) (cp : BitVec 5) :
    EncodeBound.Statement (.cprlMemR rb ro ua bu pp cp) := by
  change place _ _ < _
  simp only [place_cons, place_nil]
  have := rb.isLt; have := ro.isLt; have := bool_lt ua; have := bu.isLt; have := bool_lt pp; have := cp.isLt
  omega

theorem EncodeBound.cprlMemI6 (rb : BitVec 5) (imm : BitVec 6) (ua : Bool)
    (bu : BitVec 2) (pp : Bool) (cp : BitVec 5) :
    EncodeBound.Statement (.cprlMemI6 rb imm ua bu pp cp) := by
  change place _ _ < _
  simp only [place_cons, place_nil]
  have := rb.isLt; have := imm.isLt; have := bool_lt ua; have := bu.isLt; have := bool_lt pp; have := cp.isLt
  omega

theorem EncodeBound.setdShort (rs : BitVec 5) (rb : BitVec 5) (imm : BitVec 6)
    (ua : Bool) (us : BitVec 4) (pp : Bool) :
    EncodeBound.Statement (.setdShort rs rb imm ua us pp) := by
  change place _ _ < _
  simp only [place_cons, place_nil]
  have := rs.isLt; have := rb.isLt; have := imm.isLt; have := bool_lt ua; have := us.isLt; have := bool_lt pp
  omega

theorem EncodeBound.setbR (rs : BitVec 5) (rb : BitVec 5) (ro : BitVec 5)
    (ua : Bool) (bu : BitVec 2) (us : BitVec 4) (pp : Bool) :
    EncodeBound.Statement (.setbR rs rb ro ua bu us pp) := by
  change place _ _ < _
  simp only [place_cons, place_nil]
  have := rs.isLt
  have := rb.isLt
  have := ro.isLt
  have := bool_lt ua
  have := bu.isLt
  have := us.isLt
  have := bool_lt pp
  omega

theorem EncodeBound.setbI6 (rs : BitVec 5) (rb : BitVec 5) (imm : BitVec 6)
    (ua : Bool) (bu : BitVec 2) (us : BitVec 4) (pp : Bool) :
    EncodeBound.Statement (.setbI6 rs rb imm ua bu us pp) := by
  change place _ _ < _
  simp only [place_cons, place_nil]
  have := rs.isLt
  have := rb.isLt
  have := imm.isLt
  have := bool_lt ua
  have := bu.isLt
  have := us.isLt
  have := bool_lt pp
  omega

theorem EncodeBound.setwR (rs : BitVec 5) (rb : BitVec 5) (ro : BitVec 5)
    (ua : Bool) (bu : BitVec 2) (us : BitVec 4) (pp : Bool) :
    EncodeBound.Statement (.setwR rs rb ro ua bu us pp) := by
  change place _ _ < _
  simp only [place_cons, place_nil]
  have := rs.isLt
  have := rb.isLt
  have := ro.isLt
  have := bool_lt ua
  have := bu.isLt
  have := us.isLt
  have := bool_lt pp
  omega

theorem EncodeBound.setwI6 (rs : BitVec 5) (rb : BitVec 5) (imm : BitVec 6)
    (ua : Bool) (bu : BitVec 2) (us : BitVec 4) (pp : Bool) :
    EncodeBound.Statement (.setwI6 rs rb imm ua bu us pp) := by
  change place _ _ < _
  simp only [place_cons, place_nil]
  have := rs.isLt
  have := rb.isLt
  have := imm.isLt
  have := bool_lt ua
  have := bu.isLt
  have := us.isLt
  have := bool_lt pp
  omega

theorem EncodeBound.setdR (rs : BitVec 5) (rb : BitVec 5) (ro : BitVec 5)
    (ua : Bool) (bu : BitVec 2) (us : BitVec 4) (pp : Bool) :
    EncodeBound.Statement (.setdR rs rb ro ua bu us pp) := by
  change place _ _ < _
  simp only [place_cons, place_nil]
  have := rs.isLt
  have := rb.isLt
  have := ro.isLt
  have := bool_lt ua
  have := bu.isLt
  have := us.isLt
  have := bool_lt pp
  omega

theorem EncodeBound.setdI6 (rs : BitVec 5) (rb : BitVec 5) (imm : BitVec 6)
    (ua : Bool) (bu : BitVec 2) (us : BitVec 4) (pp : Bool) :
    EncodeBound.Statement (.setdI6 rs rb imm ua bu us pp) := by
  change place _ _ < _
  simp only [place_cons, place_nil]
  have := rs.isLt
  have := rb.isLt
  have := imm.isLt
  have := bool_lt ua
  have := bu.isLt
  have := us.isLt
  have := bool_lt pp
  omega

theorem EncodeBound.setlR (rs : BitVec 5) (rb : BitVec 5) (ro : BitVec 5)
    (ua : Bool) (bu : BitVec 2) (us : BitVec 4) (pp : Bool) :
    EncodeBound.Statement (.setlR rs rb ro ua bu us pp) := by
  change place _ _ < _
  simp only [place_cons, place_nil]
  have := rs.isLt
  have := rb.isLt
  have := ro.isLt
  have := bool_lt ua
  have := bu.isLt
  have := us.isLt
  have := bool_lt pp
  omega

theorem EncodeBound.setlI6 (rs : BitVec 5) (rb : BitVec 5) (imm : BitVec 6)
    (ua : Bool) (bu : BitVec 2) (us : BitVec 4) (pp : Bool) :
    EncodeBound.Statement (.setlI6 rs rb imm ua bu us pp) := by
  change place _ _ < _
  simp only [place_cons, place_nil]
  have := rs.isLt
  have := rb.isLt
  have := imm.isLt
  have := bool_lt ua
  have := bu.isLt
  have := us.isLt
  have := bool_lt pp
  omega

theorem EncodeBound.msetd (rs : BitVec 5) (rb : BitVec 5) (rmask : BitVec 7) (bua : BitVec 2) (bus : BitVec 2) :
    EncodeBound.Statement (.msetd rs rb rmask bua bus) := by
  change place _ _ < _
  simp only [place_cons, place_nil]
  have := rs.isLt; have := rb.isLt; have := rmask.isLt; have := bua.isLt; have := bus.isLt
  omega

theorem EncodeBound.msetl (rs : BitVec 5) (rb : BitVec 5) (rmask : BitVec 7) (bua : BitVec 2) (bus : BitVec 2) :
    EncodeBound.Statement (.msetl rs rb rmask bua bus) := by
  change place _ _ < _
  simp only [place_cons, place_nil]
  have := rs.isLt; have := rb.isLt; have := rmask.isLt; have := bua.isLt; have := bus.isLt
  omega

theorem EncodeBound.movbRaR (rb : BitVec 5) (ro : BitVec 5) (ua : Bool)
    (bu : BitVec 2) (pp : Bool) (port : BitVec 5) :
    EncodeBound.Statement (.movbRaR rb ro ua bu pp port) := by
  change place _ _ < _
  simp only [place_cons, place_nil]
  have := rb.isLt
  have := ro.isLt
  have := bool_lt ua
  have := bu.isLt
  have := bool_lt pp
  have := port.isLt
  omega

theorem EncodeBound.movbRaI6 (rb : BitVec 5) (imm : BitVec 6) (ua : Bool)
    (bu : BitVec 2) (pp : Bool) (port : BitVec 5) :
    EncodeBound.Statement (.movbRaI6 rb imm ua bu pp port) := by
  change place _ _ < _
  simp only [place_cons, place_nil]
  have := rb.isLt
  have := imm.isLt
  have := bool_lt ua
  have := bu.isLt
  have := bool_lt pp
  have := port.isLt
  omega

theorem EncodeBound.movwRaR (rb : BitVec 5) (ro : BitVec 5) (ua : Bool)
    (bu : BitVec 2) (pp : Bool) (port : BitVec 5) :
    EncodeBound.Statement (.movwRaR rb ro ua bu pp port) := by
  change place _ _ < _
  simp only [place_cons, place_nil]
  have := rb.isLt
  have := ro.isLt
  have := bool_lt ua
  have := bu.isLt
  have := bool_lt pp
  have := port.isLt
  omega

theorem EncodeBound.movwRaI6 (rb : BitVec 5) (imm : BitVec 6) (ua : Bool)
    (bu : BitVec 2) (pp : Bool) (port : BitVec 5) :
    EncodeBound.Statement (.movwRaI6 rb imm ua bu pp port) := by
  change place _ _ < _
  simp only [place_cons, place_nil]
  have := rb.isLt
  have := imm.isLt
  have := bool_lt ua
  have := bu.isLt
  have := bool_lt pp
  have := port.isLt
  omega

theorem EncodeBound.movdRaR (rb : BitVec 5) (ro : BitVec 5) (ua : Bool)
    (bu : BitVec 2) (pp : Bool) (port : BitVec 5) :
    EncodeBound.Statement (.movdRaR rb ro ua bu pp port) := by
  change place _ _ < _
  simp only [place_cons, place_nil]
  have := rb.isLt
  have := ro.isLt
  have := bool_lt ua
  have := bu.isLt
  have := bool_lt pp
  have := port.isLt
  omega

theorem EncodeBound.movdRaI6 (rb : BitVec 5) (imm : BitVec 6) (ua : Bool)
    (bu : BitVec 2) (pp : Bool) (port : BitVec 5) :
    EncodeBound.Statement (.movdRaI6 rb imm ua bu pp port) := by
  change place _ _ < _
  simp only [place_cons, place_nil]
  have := rb.isLt
  have := imm.isLt
  have := bool_lt ua
  have := bu.isLt
  have := bool_lt pp
  have := port.isLt
  omega

theorem EncodeBound.movlRaR (rb : BitVec 5) (ro : BitVec 5) (ua : Bool)
    (bu : BitVec 2) (pp : Bool) (port : BitVec 5) :
    EncodeBound.Statement (.movlRaR rb ro ua bu pp port) := by
  change place _ _ < _
  simp only [place_cons, place_nil]
  have := rb.isLt
  have := ro.isLt
  have := bool_lt ua
  have := bu.isLt
  have := bool_lt pp
  have := port.isLt
  omega

theorem EncodeBound.movlRaI6 (rb : BitVec 5) (imm : BitVec 6) (ua : Bool)
    (bu : BitVec 2) (pp : Bool) (port : BitVec 5) :
    EncodeBound.Statement (.movlRaI6 rb imm ua bu pp port) := by
  change place _ _ < _
  simp only [place_cons, place_nil]
  have := rb.isLt
  have := imm.isLt
  have := bool_lt ua
  have := bu.isLt
  have := bool_lt pp
  have := port.isLt
  omega

theorem EncodeBound.getdShort (rd : BitVec 5) (rb : BitVec 5) (imm : BitVec 6)
    (ua : Bool) (ud : BitVec 4) (pp : Bool) :
    EncodeBound.Statement (.getdShort rd rb imm ua ud pp) := by
  change place _ _ < _
  simp only [place_cons, place_nil]
  have := rd.isLt; have := rb.isLt; have := imm.isLt; have := bool_lt ua; have := ud.isLt; have := bool_lt pp
  omega

theorem EncodeBound.getbR (rd : BitVec 5) (rb : BitVec 5) (ro : BitVec 5)
    (ua : Bool) (bu : BitVec 2) (ud : BitVec 4) (pp : Bool) :
    EncodeBound.Statement (.getbR rd rb ro ua bu ud pp) := by
  change place _ _ < _
  simp only [place_cons, place_nil]
  have := rd.isLt
  have := rb.isLt
  have := ro.isLt
  have := bool_lt ua
  have := bu.isLt
  have := ud.isLt
  have := bool_lt pp
  omega

theorem EncodeBound.getbI6 (rd : BitVec 5) (rb : BitVec 5) (imm : BitVec 6)
    (ua : Bool) (bu : BitVec 2) (ud : BitVec 4) (pp : Bool) :
    EncodeBound.Statement (.getbI6 rd rb imm ua bu ud pp) := by
  change place _ _ < _
  simp only [place_cons, place_nil]
  have := rd.isLt
  have := rb.isLt
  have := imm.isLt
  have := bool_lt ua
  have := bu.isLt
  have := ud.isLt
  have := bool_lt pp
  omega

theorem EncodeBound.getwR (rd : BitVec 5) (rb : BitVec 5) (ro : BitVec 5)
    (ua : Bool) (bu : BitVec 2) (ud : BitVec 4) (pp : Bool) :
    EncodeBound.Statement (.getwR rd rb ro ua bu ud pp) := by
  change place _ _ < _
  simp only [place_cons, place_nil]
  have := rd.isLt
  have := rb.isLt
  have := ro.isLt
  have := bool_lt ua
  have := bu.isLt
  have := ud.isLt
  have := bool_lt pp
  omega

theorem EncodeBound.getwI6 (rd : BitVec 5) (rb : BitVec 5) (imm : BitVec 6)
    (ua : Bool) (bu : BitVec 2) (ud : BitVec 4) (pp : Bool) :
    EncodeBound.Statement (.getwI6 rd rb imm ua bu ud pp) := by
  change place _ _ < _
  simp only [place_cons, place_nil]
  have := rd.isLt
  have := rb.isLt
  have := imm.isLt
  have := bool_lt ua
  have := bu.isLt
  have := ud.isLt
  have := bool_lt pp
  omega

theorem EncodeBound.getdR (rd : BitVec 5) (rb : BitVec 5) (ro : BitVec 5)
    (ua : Bool) (bu : BitVec 2) (ud : BitVec 4) (pp : Bool) :
    EncodeBound.Statement (.getdR rd rb ro ua bu ud pp) := by
  change place _ _ < _
  simp only [place_cons, place_nil]
  have := rd.isLt
  have := rb.isLt
  have := ro.isLt
  have := bool_lt ua
  have := bu.isLt
  have := ud.isLt
  have := bool_lt pp
  omega

theorem EncodeBound.getdI6 (rd : BitVec 5) (rb : BitVec 5) (imm : BitVec 6)
    (ua : Bool) (bu : BitVec 2) (ud : BitVec 4) (pp : Bool) :
    EncodeBound.Statement (.getdI6 rd rb imm ua bu ud pp) := by
  change place _ _ < _
  simp only [place_cons, place_nil]
  have := rd.isLt
  have := rb.isLt
  have := imm.isLt
  have := bool_lt ua
  have := bu.isLt
  have := ud.isLt
  have := bool_lt pp
  omega

theorem EncodeBound.getlR (rd : BitVec 5) (rb : BitVec 5) (ro : BitVec 5)
    (ua : Bool) (bu : BitVec 2) (ud : BitVec 4) (pp : Bool) :
    EncodeBound.Statement (.getlR rd rb ro ua bu ud pp) := by
  change place _ _ < _
  simp only [place_cons, place_nil]
  have := rd.isLt
  have := rb.isLt
  have := ro.isLt
  have := bool_lt ua
  have := bu.isLt
  have := ud.isLt
  have := bool_lt pp
  omega

theorem EncodeBound.getlI6 (rd : BitVec 5) (rb : BitVec 5) (imm : BitVec 6)
    (ua : Bool) (bu : BitVec 2) (ud : BitVec 4) (pp : Bool) :
    EncodeBound.Statement (.getlI6 rd rb imm ua bu ud pp) := by
  change place _ _ < _
  simp only [place_cons, place_nil]
  have := rd.isLt
  have := rb.isLt
  have := imm.isLt
  have := bool_lt ua
  have := bu.isLt
  have := ud.isLt
  have := bool_lt pp
  omega

theorem EncodeBound.mgetd (rd : BitVec 5) (rb : BitVec 5) (rmask : BitVec 7) (bua : BitVec 2) (bud : BitVec 2) :
    EncodeBound.Statement (.mgetd rd rb rmask bua bud) := by
  change place _ _ < _
  simp only [place_cons, place_nil]
  have := rd.isLt; have := rb.isLt; have := rmask.isLt; have := bua.isLt; have := bud.isLt
  omega

theorem EncodeBound.mgetl (rd : BitVec 5) (rb : BitVec 5) (rmask : BitVec 7) (bua : BitVec 2) (bud : BitVec 2) :
    EncodeBound.Statement (.mgetl rd rb rmask bua bud) := by
  change place _ _ < _
  simp only [place_cons, place_nil]
  have := rd.isLt; have := rb.isLt; have := rmask.isLt; have := bua.isLt; have := bud.isLt
  omega

theorem EncodeBound.mmovdRa (port : BitVec 5) (rb : BitVec 5) (rmask : BitVec 7) (bua : BitVec 2) :
    EncodeBound.Statement (.mmovdRa port rb rmask bua) := by
  change place _ _ < _
  simp only [place_cons, place_nil]
  have := port.isLt; have := rb.isLt; have := rmask.isLt; have := bua.isLt
  omega

theorem EncodeBound.mmovlRa (port : BitVec 5) (rb : BitVec 5) (rmask : BitVec 7) (bua : BitVec 2) :
    EncodeBound.Statement (.mmovlRa port rb rmask bua) := by
  change place _ _ < _
  simp only [place_cons, place_nil]
  have := port.isLt; have := rb.isLt; have := rmask.isLt; have := bua.isLt
  omega

theorem EncodeBound.mdrd (rmask : BitVec 7) :
    EncodeBound.Statement (.mdrd rmask) := by
  change place _ _ < _
  simp only [place_cons, place_nil]
  have := rmask.isLt
  omega

theorem EncodeBound.mmovdRd (rd : BitVec 5) (rmask : BitVec 7) (bur : BitVec 2) :
    EncodeBound.Statement (.mmovdRd rd rmask bur) := by
  change place _ _ < _
  simp only [place_cons, place_nil]
  have := rd.isLt; have := rmask.isLt; have := bur.isLt
  omega

theorem EncodeBound.mmovlRd (rd : BitVec 5) (rmask : BitVec 7) (bur : BitVec 2) :
    EncodeBound.Statement (.mmovlRd rd rmask bur) := by
  change place _ _ < _
  simp only [place_cons, place_nil]
  have := rd.isLt; have := rmask.isLt; have := bur.isLt
  omega

theorem EncodeBound.cprdr0 (updD : Bool) (pp : Bool) (rdb : BitVec 5) (rdo : BitVec 5) (cp : BitVec 3) :
    EncodeBound.Statement (.cprdr0 updD pp rdb rdo cp) := by
  change place _ _ < _
  simp only [place_cons, place_nil]
  have := bool_lt updD; have := bool_lt pp; have := rdb.isLt; have := rdo.isLt; have := cp.isLt
  omega

theorem EncodeBound.cprdr1 (updD : Bool) (pp : Bool) (rdb : BitVec 5) (rdo : BitVec 5) (cp : BitVec 3) :
    EncodeBound.Statement (.cprdr1 updD pp rdb rdo cp) := by
  change place _ _ < _
  simp only [place_cons, place_nil]
  have := bool_lt updD; have := bool_lt pp; have := rdb.isLt; have := rdo.isLt; have := cp.isLt
  omega

theorem EncodeBound.cprdr2 (updD : Bool) (pp : Bool) (rdb : BitVec 5) (rdo : BitVec 5) (cp : BitVec 3) :
    EncodeBound.Statement (.cprdr2 updD pp rdb rdo cp) := by
  change place _ _ < _
  simp only [place_cons, place_nil]
  have := bool_lt updD; have := bool_lt pp; have := rdb.isLt; have := rdo.isLt; have := cp.isLt
  omega

theorem EncodeBound.cprdr3 (updD : Bool) (pp : Bool) (rdb : BitVec 5) (rdo : BitVec 5) (cp : BitVec 3) :
    EncodeBound.Statement (.cprdr3 updD pp rdb rdo cp) := by
  change place _ _ < _
  simp only [place_cons, place_nil]
  have := bool_lt updD; have := bool_lt pp; have := rdb.isLt; have := rdo.isLt; have := cp.isLt
  omega

theorem EncodeBound.cprlr0 (updD : Bool) (pp : Bool) (rdb : BitVec 5) (rdo : BitVec 5) (cp : BitVec 3) :
    EncodeBound.Statement (.cprlr0 updD pp rdb rdo cp) := by
  change place _ _ < _
  simp only [place_cons, place_nil]
  have := bool_lt updD; have := bool_lt pp; have := rdb.isLt; have := rdo.isLt; have := cp.isLt
  omega

theorem EncodeBound.cprlr1 (updD : Bool) (pp : Bool) (rdb : BitVec 5) (rdo : BitVec 5) (cp : BitVec 3) :
    EncodeBound.Statement (.cprlr1 updD pp rdb rdo cp) := by
  change place _ _ < _
  simp only [place_cons, place_nil]
  have := bool_lt updD; have := bool_lt pp; have := rdb.isLt; have := rdo.isLt; have := cp.isLt
  omega

theorem EncodeBound.cprlr2 (updD : Bool) (pp : Bool) (rdb : BitVec 5) (rdo : BitVec 5) (cp : BitVec 3) :
    EncodeBound.Statement (.cprlr2 updD pp rdb rdo cp) := by
  change place _ _ < _
  simp only [place_cons, place_nil]
  have := bool_lt updD; have := bool_lt pp; have := rdb.isLt; have := rdo.isLt; have := cp.isLt
  omega

theorem EncodeBound.cprlr3 (updD : Bool) (pp : Bool) (rdb : BitVec 5) (rdo : BitVec 5) (cp : BitVec 3) :
    EncodeBound.Statement (.cprlr3 updD pp rdb rdo cp) := by
  change place _ _ < _
  simp only [place_cons, place_nil]
  have := bool_lt updD; have := bool_lt pp; have := rdb.isLt; have := rdo.isLt; have := cp.isLt
  omega

theorem EncodeBound.xfrd01 (updD : Bool) (updS : Bool) (pp : Bool)
    (rdb : BitVec 5) (rdo : BitVec 5) (rsb : BitVec 5) (rso : BitVec 5) :
    EncodeBound.Statement (.xfrd01 updD updS pp rdb rdo rsb rso) := by
  change place _ _ < _
  simp only [place_cons, place_nil]
  have := bool_lt updD
  have := bool_lt updS
  have := bool_lt pp
  have := rdb.isLt
  have := rdo.isLt
  have := rsb.isLt
  have := rso.isLt
  omega

theorem EncodeBound.xfrd02 (updD : Bool) (updS : Bool) (pp : Bool)
    (rdb : BitVec 5) (rdo : BitVec 5) (rsb : BitVec 5) (rso : BitVec 5) :
    EncodeBound.Statement (.xfrd02 updD updS pp rdb rdo rsb rso) := by
  change place _ _ < _
  simp only [place_cons, place_nil]
  have := bool_lt updD
  have := bool_lt updS
  have := bool_lt pp
  have := rdb.isLt
  have := rdo.isLt
  have := rsb.isLt
  have := rso.isLt
  omega

theorem EncodeBound.xfrd03 (updD : Bool) (updS : Bool) (pp : Bool)
    (rdb : BitVec 5) (rdo : BitVec 5) (rsb : BitVec 5) (rso : BitVec 5) :
    EncodeBound.Statement (.xfrd03 updD updS pp rdb rdo rsb rso) := by
  change place _ _ < _
  simp only [place_cons, place_nil]
  have := bool_lt updD
  have := bool_lt updS
  have := bool_lt pp
  have := rdb.isLt
  have := rdo.isLt
  have := rsb.isLt
  have := rso.isLt
  omega

theorem EncodeBound.xfrd10 (updD : Bool) (updS : Bool) (pp : Bool)
    (rdb : BitVec 5) (rdo : BitVec 5) (rsb : BitVec 5) (rso : BitVec 5) :
    EncodeBound.Statement (.xfrd10 updD updS pp rdb rdo rsb rso) := by
  change place _ _ < _
  simp only [place_cons, place_nil]
  have := bool_lt updD
  have := bool_lt updS
  have := bool_lt pp
  have := rdb.isLt
  have := rdo.isLt
  have := rsb.isLt
  have := rso.isLt
  omega

theorem EncodeBound.xfrd12 (updD : Bool) (updS : Bool) (pp : Bool)
    (rdb : BitVec 5) (rdo : BitVec 5) (rsb : BitVec 5) (rso : BitVec 5) :
    EncodeBound.Statement (.xfrd12 updD updS pp rdb rdo rsb rso) := by
  change place _ _ < _
  simp only [place_cons, place_nil]
  have := bool_lt updD
  have := bool_lt updS
  have := bool_lt pp
  have := rdb.isLt
  have := rdo.isLt
  have := rsb.isLt
  have := rso.isLt
  omega

theorem EncodeBound.xfrd13 (updD : Bool) (updS : Bool) (pp : Bool)
    (rdb : BitVec 5) (rdo : BitVec 5) (rsb : BitVec 5) (rso : BitVec 5) :
    EncodeBound.Statement (.xfrd13 updD updS pp rdb rdo rsb rso) := by
  change place _ _ < _
  simp only [place_cons, place_nil]
  have := bool_lt updD
  have := bool_lt updS
  have := bool_lt pp
  have := rdb.isLt
  have := rdo.isLt
  have := rsb.isLt
  have := rso.isLt
  omega

theorem EncodeBound.xfrd20 (updD : Bool) (updS : Bool) (pp : Bool)
    (rdb : BitVec 5) (rdo : BitVec 5) (rsb : BitVec 5) (rso : BitVec 5) :
    EncodeBound.Statement (.xfrd20 updD updS pp rdb rdo rsb rso) := by
  change place _ _ < _
  simp only [place_cons, place_nil]
  have := bool_lt updD
  have := bool_lt updS
  have := bool_lt pp
  have := rdb.isLt
  have := rdo.isLt
  have := rsb.isLt
  have := rso.isLt
  omega

theorem EncodeBound.xfrd21 (updD : Bool) (updS : Bool) (pp : Bool)
    (rdb : BitVec 5) (rdo : BitVec 5) (rsb : BitVec 5) (rso : BitVec 5) :
    EncodeBound.Statement (.xfrd21 updD updS pp rdb rdo rsb rso) := by
  change place _ _ < _
  simp only [place_cons, place_nil]
  have := bool_lt updD
  have := bool_lt updS
  have := bool_lt pp
  have := rdb.isLt
  have := rdo.isLt
  have := rsb.isLt
  have := rso.isLt
  omega

theorem EncodeBound.xfrd23 (updD : Bool) (updS : Bool) (pp : Bool)
    (rdb : BitVec 5) (rdo : BitVec 5) (rsb : BitVec 5) (rso : BitVec 5) :
    EncodeBound.Statement (.xfrd23 updD updS pp rdb rdo rsb rso) := by
  change place _ _ < _
  simp only [place_cons, place_nil]
  have := bool_lt updD
  have := bool_lt updS
  have := bool_lt pp
  have := rdb.isLt
  have := rdo.isLt
  have := rsb.isLt
  have := rso.isLt
  omega

theorem EncodeBound.xfrd30 (updD : Bool) (updS : Bool) (pp : Bool)
    (rdb : BitVec 5) (rdo : BitVec 5) (rsb : BitVec 5) (rso : BitVec 5) :
    EncodeBound.Statement (.xfrd30 updD updS pp rdb rdo rsb rso) := by
  change place _ _ < _
  simp only [place_cons, place_nil]
  have := bool_lt updD
  have := bool_lt updS
  have := bool_lt pp
  have := rdb.isLt
  have := rdo.isLt
  have := rsb.isLt
  have := rso.isLt
  omega

theorem EncodeBound.xfrd31 (updD : Bool) (updS : Bool) (pp : Bool)
    (rdb : BitVec 5) (rdo : BitVec 5) (rsb : BitVec 5) (rso : BitVec 5) :
    EncodeBound.Statement (.xfrd31 updD updS pp rdb rdo rsb rso) := by
  change place _ _ < _
  simp only [place_cons, place_nil]
  have := bool_lt updD
  have := bool_lt updS
  have := bool_lt pp
  have := rdb.isLt
  have := rdo.isLt
  have := rsb.isLt
  have := rso.isLt
  omega

theorem EncodeBound.xfrd32 (updD : Bool) (updS : Bool) (pp : Bool)
    (rdb : BitVec 5) (rdo : BitVec 5) (rsb : BitVec 5) (rso : BitVec 5) :
    EncodeBound.Statement (.xfrd32 updD updS pp rdb rdo rsb rso) := by
  change place _ _ < _
  simp only [place_cons, place_nil]
  have := bool_lt updD
  have := bool_lt updS
  have := bool_lt pp
  have := rdb.isLt
  have := rdo.isLt
  have := rsb.isLt
  have := rso.isLt
  omega

theorem EncodeBound.xfrl01 (updD : Bool) (updS : Bool) (pp : Bool)
    (rdb : BitVec 5) (rdo : BitVec 5) (rsb : BitVec 5) (rso : BitVec 5) :
    EncodeBound.Statement (.xfrl01 updD updS pp rdb rdo rsb rso) := by
  change place _ _ < _
  simp only [place_cons, place_nil]
  have := bool_lt updD
  have := bool_lt updS
  have := bool_lt pp
  have := rdb.isLt
  have := rdo.isLt
  have := rsb.isLt
  have := rso.isLt
  omega

theorem EncodeBound.xfrl02 (updD : Bool) (updS : Bool) (pp : Bool)
    (rdb : BitVec 5) (rdo : BitVec 5) (rsb : BitVec 5) (rso : BitVec 5) :
    EncodeBound.Statement (.xfrl02 updD updS pp rdb rdo rsb rso) := by
  change place _ _ < _
  simp only [place_cons, place_nil]
  have := bool_lt updD
  have := bool_lt updS
  have := bool_lt pp
  have := rdb.isLt
  have := rdo.isLt
  have := rsb.isLt
  have := rso.isLt
  omega

theorem EncodeBound.xfrl03 (updD : Bool) (updS : Bool) (pp : Bool)
    (rdb : BitVec 5) (rdo : BitVec 5) (rsb : BitVec 5) (rso : BitVec 5) :
    EncodeBound.Statement (.xfrl03 updD updS pp rdb rdo rsb rso) := by
  change place _ _ < _
  simp only [place_cons, place_nil]
  have := bool_lt updD
  have := bool_lt updS
  have := bool_lt pp
  have := rdb.isLt
  have := rdo.isLt
  have := rsb.isLt
  have := rso.isLt
  omega

theorem EncodeBound.xfrl10 (updD : Bool) (updS : Bool) (pp : Bool)
    (rdb : BitVec 5) (rdo : BitVec 5) (rsb : BitVec 5) (rso : BitVec 5) :
    EncodeBound.Statement (.xfrl10 updD updS pp rdb rdo rsb rso) := by
  change place _ _ < _
  simp only [place_cons, place_nil]
  have := bool_lt updD
  have := bool_lt updS
  have := bool_lt pp
  have := rdb.isLt
  have := rdo.isLt
  have := rsb.isLt
  have := rso.isLt
  omega

theorem EncodeBound.xfrl12 (updD : Bool) (updS : Bool) (pp : Bool)
    (rdb : BitVec 5) (rdo : BitVec 5) (rsb : BitVec 5) (rso : BitVec 5) :
    EncodeBound.Statement (.xfrl12 updD updS pp rdb rdo rsb rso) := by
  change place _ _ < _
  simp only [place_cons, place_nil]
  have := bool_lt updD
  have := bool_lt updS
  have := bool_lt pp
  have := rdb.isLt
  have := rdo.isLt
  have := rsb.isLt
  have := rso.isLt
  omega

theorem EncodeBound.xfrl13 (updD : Bool) (updS : Bool) (pp : Bool)
    (rdb : BitVec 5) (rdo : BitVec 5) (rsb : BitVec 5) (rso : BitVec 5) :
    EncodeBound.Statement (.xfrl13 updD updS pp rdb rdo rsb rso) := by
  change place _ _ < _
  simp only [place_cons, place_nil]
  have := bool_lt updD
  have := bool_lt updS
  have := bool_lt pp
  have := rdb.isLt
  have := rdo.isLt
  have := rsb.isLt
  have := rso.isLt
  omega

theorem EncodeBound.xfrl20 (updD : Bool) (updS : Bool) (pp : Bool)
    (rdb : BitVec 5) (rdo : BitVec 5) (rsb : BitVec 5) (rso : BitVec 5) :
    EncodeBound.Statement (.xfrl20 updD updS pp rdb rdo rsb rso) := by
  change place _ _ < _
  simp only [place_cons, place_nil]
  have := bool_lt updD
  have := bool_lt updS
  have := bool_lt pp
  have := rdb.isLt
  have := rdo.isLt
  have := rsb.isLt
  have := rso.isLt
  omega

theorem EncodeBound.xfrl21 (updD : Bool) (updS : Bool) (pp : Bool)
    (rdb : BitVec 5) (rdo : BitVec 5) (rsb : BitVec 5) (rso : BitVec 5) :
    EncodeBound.Statement (.xfrl21 updD updS pp rdb rdo rsb rso) := by
  change place _ _ < _
  simp only [place_cons, place_nil]
  have := bool_lt updD
  have := bool_lt updS
  have := bool_lt pp
  have := rdb.isLt
  have := rdo.isLt
  have := rsb.isLt
  have := rso.isLt
  omega

theorem EncodeBound.xfrl23 (updD : Bool) (updS : Bool) (pp : Bool)
    (rdb : BitVec 5) (rdo : BitVec 5) (rsb : BitVec 5) (rso : BitVec 5) :
    EncodeBound.Statement (.xfrl23 updD updS pp rdb rdo rsb rso) := by
  change place _ _ < _
  simp only [place_cons, place_nil]
  have := bool_lt updD
  have := bool_lt updS
  have := bool_lt pp
  have := rdb.isLt
  have := rdo.isLt
  have := rsb.isLt
  have := rso.isLt
  omega

theorem EncodeBound.xfrl30 (updD : Bool) (updS : Bool) (pp : Bool)
    (rdb : BitVec 5) (rdo : BitVec 5) (rsb : BitVec 5) (rso : BitVec 5) :
    EncodeBound.Statement (.xfrl30 updD updS pp rdb rdo rsb rso) := by
  change place _ _ < _
  simp only [place_cons, place_nil]
  have := bool_lt updD
  have := bool_lt updS
  have := bool_lt pp
  have := rdb.isLt
  have := rdo.isLt
  have := rsb.isLt
  have := rso.isLt
  omega

theorem EncodeBound.xfrl31 (updD : Bool) (updS : Bool) (pp : Bool)
    (rdb : BitVec 5) (rdo : BitVec 5) (rsb : BitVec 5) (rso : BitVec 5) :
    EncodeBound.Statement (.xfrl31 updD updS pp rdb rdo rsb rso) := by
  change place _ _ < _
  simp only [place_cons, place_nil]
  have := bool_lt updD
  have := bool_lt updS
  have := bool_lt pp
  have := rdb.isLt
  have := rdo.isLt
  have := rsb.isLt
  have := rso.isLt
  omega

theorem EncodeBound.xfrl32 (updD : Bool) (updS : Bool) (pp : Bool)
    (rdb : BitVec 5) (rdo : BitVec 5) (rsb : BitVec 5) (rso : BitVec 5) :
    EncodeBound.Statement (.xfrl32 updD updS pp rdb rdo rsb rso) := by
  change place _ _ < _
  simp only [place_cons, place_nil]
  have := bool_lt updD
  have := bool_lt updS
  have := bool_lt pp
  have := rdb.isLt
  have := rdo.isLt
  have := rsb.isLt
  have := rso.isLt
  omega

theorem EncodeBound.cpxl (cpd : BitVec 3) (cps : BitVec 3) (rep : Bool) :
    EncodeBound.Statement (.cpxl cpd cps rep) := by
  change place _ _ < _
  simp only [place_cons, place_nil]
  have := cpd.isLt; have := cps.isLt; have := bool_lt rep
  omega

theorem EncodeBound.cpwlRR (bu : BitVec 2) (cp : BitVec 3) (rs1 : BitVec 5) (rs2 : BitVec 5) :
    EncodeBound.Statement (.cpwlRR bu cp rs1 rs2) := by
  change place _ _ < _
  simp only [place_cons, place_nil]
  have := bu.isLt; have := cp.isLt; have := rs1.isLt; have := rs2.isLt
  omega

theorem EncodeBound.cpwlRI (bu : BitVec 2) (cp : BitVec 3) (rs1 : BitVec 5) (imm : BitVec 16) :
    EncodeBound.Statement (.cpwlRI bu cp rs1 imm) := by
  change place _ _ < _
  simp only [place_cons, place_nil]
  have := bu.isLt; have := cp.isLt; have := rs1.isLt; have := imm.isLt
  omega

theorem EncodeBound.cpwlMemR (bu : BitVec 2) (cp : BitVec 3) (rb : BitVec 5)
    (ro : BitVec 5) (rep : Bool) (ua : Bool) (pp : Bool) :
    EncodeBound.Statement (.cpwlMemR bu cp rb ro rep ua pp) := by
  change place _ _ < _
  simp only [place_cons, place_nil]
  have := bu.isLt
  have := cp.isLt
  have := rb.isLt
  have := ro.isLt
  have := bool_lt rep
  have := bool_lt ua
  have := bool_lt pp
  omega

theorem EncodeBound.cpwlMemI8 (bu : BitVec 2) (cp : BitVec 3) (rb : BitVec 5)
    (imm : BitVec 8) (rep : Bool) (ua : Bool) (pp : Bool) :
    EncodeBound.Statement (.cpwlMemI8 bu cp rb imm rep ua pp) := by
  change place _ _ < _
  simp only [place_cons, place_nil]
  have := bu.isLt
  have := cp.isLt
  have := rb.isLt
  have := imm.isLt
  have := bool_lt rep
  have := bool_lt ua
  have := bool_lt pp
  omega

theorem EncodeBound.movr (x : BitVec 24) :
    EncodeBound.Statement (.movr x) := by
  change place _ _ < _
  simp only [place_cons, place_nil]
  have := x.isLt
  omega

theorem EncodeBound.swapr (x : BitVec 24) :
    EncodeBound.Statement (.swapr x) := by
  change place _ _ < _
  simp only [place_cons, place_nil]
  have := x.isLt
  omega

end Sys2Proof.Laws
end

