-- ==== Sys2Proof/Tests/Slice0.lean ====
section
/-! SUPPORT. Tests: ill-formed terms, the decoding of every constructor on a word made from the fields of its row of
spec/opcode_table.json, the worked examples of the spec, and for every statement states that meet its hypotheses. -/

namespace Sys2Proof.Tests
open Sys2Proof.Machine Sys2Proof.Claims

/-! ## Ill-formed terms -/

theorem test_wf_no_shadow_moves : (Instr.movr 0#24).wellFormed = false ∧ (Instr.swapr 5#24).wellFormed = false := by
  decide

/-- BR's words and NOP's are not words of Bcc (30_encoding.md R218). -/
theorem test_wf_branchCc : (Instr.branchCc 1#19 0#4 false).wellFormed = false ∧
    (Instr.branchCc 0x7FFFF#19 15#4 false).wellFormed = false ∧
    (Instr.branchCc 0x7FFFF#19 15#4 true).wellFormed = true := by decide

/-- RTI's and RTH's words are not words of TTMOV. -/
theorem test_wf_ttmov : (Instr.ttmov 31#5 31#5 15#4 15#4 15#4).wellFormed = false ∧
    (Instr.ttmov 15#5 31#5 15#4 15#4 15#4).wellFormed = false ∧
    (Instr.ttmov 15#5 31#5 15#4 15#4 14#4).wellFormed = true := by decide

/-- KICK's and DEFR's words are not words of SWAP, and SWAP's not words of SWAPcc. -/
theorem test_wf_swap : (Instr.swap 1#5 2#5 0#4 3#4).wellFormed = false ∧
    (Instr.swap 1#5 2#5 8#4 3#4).wellFormed = false ∧ (Instr.swapCc 1#5 2#5 0#4 3#4 1#4).wellFormed = false ∧
    (Instr.swapCc 1#5 2#5 8#4 3#4 1#4).wellFormed = false ∧ (Instr.swapCc 1#5 2#5 3#4 4#4 0#4).wellFormed = false ∧
    (Instr.movUnitCc 1#5 2#5 3#4 4#4 0#4).wellFormed = false := by decide

/-- The ports unit makes a SET a CPR to memory, and a GET a MOV to a read address port. -/
theorem test_wf_ports : (Instr.setbCc 1#5 2#5 6#4 0#2 0#4).wellFormed = false ∧
    (Instr.setwCc 1#5 2#5 6#4 0#2 0#4).wellFormed = false ∧ (Instr.setdCc 1#5 2#5 6#4 0#2 0#4).wellFormed = false ∧
    (Instr.setlCc 1#5 2#5 6#4 0#2 0#4).wellFormed = false ∧
    (Instr.setbR 1#5 2#5 3#5 false 0#2 6#4 false).wellFormed = false ∧
    (Instr.setbI6 1#5 2#5 3#6 false 0#2 6#4 false).wellFormed = false ∧
    (Instr.setwR 1#5 2#5 3#5 false 0#2 6#4 false).wellFormed = false ∧
    (Instr.setwI6 1#5 2#5 3#6 false 0#2 6#4 false).wellFormed = false ∧
    (Instr.setdR 1#5 2#5 3#5 false 0#2 6#4 false).wellFormed = false ∧
    (Instr.setdI6 1#5 2#5 3#6 false 0#2 6#4 false).wellFormed = false ∧
    (Instr.setlR 1#5 2#5 3#5 false 0#2 6#4 false).wellFormed = false ∧
    (Instr.setlI6 1#5 2#5 3#6 false 0#2 6#4 false).wellFormed = false ∧
    (Instr.setdShort 1#5 2#5 3#6 false 6#4 false).wellFormed = false ∧
    (Instr.getbR 1#5 2#5 3#5 false 0#2 6#4 false).wellFormed = false ∧
    (Instr.getbI6 1#5 2#5 3#6 false 0#2 6#4 false).wellFormed = false ∧
    (Instr.getwR 1#5 2#5 3#5 false 0#2 6#4 false).wellFormed = false ∧
    (Instr.getwI6 1#5 2#5 3#6 false 0#2 6#4 false).wellFormed = false ∧
    (Instr.getdR 1#5 2#5 3#5 false 0#2 6#4 false).wellFormed = false ∧
    (Instr.getdI6 1#5 2#5 3#6 false 0#2 6#4 false).wellFormed = false ∧
    (Instr.getlR 1#5 2#5 3#5 false 0#2 6#4 false).wellFormed = false ∧
    (Instr.getlI6 1#5 2#5 3#6 false 0#2 6#4 false).wellFormed = false ∧
    (Instr.getdShort 1#5 2#5 3#6 false 6#4 false).wellFormed = false := by decide

/-- With base unit A0 the words of the 6-bit forms of GETD and SETD are those of the short forms. -/
theorem test_wf_short_forms : (Instr.getdI6 1#5 2#5 3#6 false 3#2 1#4 false).wellFormed = false ∧
    (Instr.setdI6 1#5 2#5 3#6 false 3#2 1#4 false).wellFormed = false ∧
    (Instr.setdI6 1#5 2#5 3#6 false 2#2 1#4 false).wellFormed = true := by decide

/-- ICACHE of nothing is ICACHEEXIT. -/
theorem test_wf_icache : (Instr.icache 0#15 0#4 true).wellFormed = false ∧
    (Instr.icache 0#15 1#4 true).wellFormed = true := by decide

/-! ## Decoding: for every row a word with its constants and a value in each of its fields -/

theorem test_decode_alu_r :
    decode 0x016CAE00 = some (.addRR false true 0xD#5 0x12#5 0x17#5) ∧
    decode 0x08857E01 = some (.addRX true false 0x10#5 0x15#5 3#2 7#3) ∧
    decode 0x01983004 = some (.movRR false true 0x13#5 0x18#5) ∧
    decode 0x08B00005 = some (.movRX true false 0x16#5 0#2 0#3) ∧
    decode 0x11CF8600 = some (.subRR false true 0x19#5 0x1E#5 3#5) ∧
    decode 0x18E07601 = some (.subRX true false 0x1C#5 1#5 3#2 3#3) ∧
    decode 0x11F80804 = some (.negRR false true 0x1F#5 4#5) ∧
    decode 0x18100805 = some (.negRX true false 2#5 0#2 4#3) ∧
    decode 0x212A9E00 = some (.andRR false true 5#5 0xA#5 0xF#5) ∧
    decode 0x28437E01 = some (.andRX true false 8#5 0xD#5 3#2 7#3) ∧
    decode 0x315C2A00 = some (.orRR false true 0xB#5 0x10#5 0x15#5) ∧
    decode 0x3874DA01 = some (.orRX true false 0xE#5 0x13#5 1#2 5#3) ∧
    decode 0x418DB600 = some (.xorRR false true 0x11#5 0x16#5 0x1B#5) ∧
    decode 0x48A67601 = some (.xorRX true false 0x14#5 0x19#5 3#2 3#3) ∧
    decode 0x80301400 = some (.addARR false 6#4 false 0#4 false 0xA#4) ∧
    decode 0x814CD201 = some (.addARX true 9#4 true 3#4 1#2 1#3) ∧
    decode 0x80600C04 = some (.movARR false 0xC#4 false 6#4) ∧
    decode 0x81781A05 = some (.movARX true 0xF#4 1#2 5#3) ∧
    decode 0x88130C00 = some (.subARR false 2#4 false 0xC#4 false 6#4) ∧
    decode 0x892FDA01 = some (.subARX true 5#4 true 0xF#4 1#2 5#3) ∧
    decode 0x88400404 = some (.negARR false 8#4 false 2#4) ∧
    decode 0x89581205 = some (.negARX true 0xB#4 1#2 1#3) := by
  decide

theorem test_decode_alu_i16 :
    decode 0x036E4E89 = some (.addI16 false true 0xD#5 0xC9D1#16 false true) ∧
    decode 0x0A872746 = some (.movI16 true false 0x10#5 0xE4E8#16 true false) ∧
    decode 0x139B93A1 = some (.subI16 false true 0x13#5 0x7274#16 false true) ∧
    decode 0x1AB5C9D6 = some (.negI16 true false 0x16#5 0xB93A#16 true false) ∧
    decode 0x23CE4E8A = some (.andI16 false true 0x19#5 0xC9D1#16 false true false) ∧
    decode 0x3AE72745 = some (.orI16 true false 0x1C#5 0xE4E8#16 true false true) ∧
    decode 0x43FB93A2 = some (.xorI16 false true 0x1F#5 0x7274#16 false true false) ∧
    decode 0x8335C9D2 = some (.addAI16 true false 6#4 0xB93A#16 true false) ∧
    decode 0x82CE4E8D = some (.movAI16 false true 9#4 0xC9D1#16 false true) ∧
    decode 0x8B672742 = some (.subAI16 true false 0xC#4 0xE4E8#16 true false) ∧
    decode 0x8AFB93A5 = some (.negAI16 false true 0xF#4 0x7274#16 false true) := by
  decide

theorem test_decode_alu_cr :
    decode 0x056CAEE4 = some (.addCR false true 0xD#5 0x12#5 0x17#5 7#4 2#4) ∧
    decode 0x0C857E5B = some (.addCX true false 0x10#5 0x15#5 3#2 7#3 2#4 0xD#4) ∧
    decode 0x159E3A5A = some (.subCR false true 0x13#5 0x18#5 0x1D#5 2#4 0xD#4) ∧
    decode 0x1CB6DA83 = some (.subCX true false 0x16#5 0x1B#5 1#2 5#3 4#4 1#4) ∧
    decode 0x25CF8682 = some (.andCR false true 0x19#5 0x1E#5 3#5 4#4 1#4) ∧
    decode 0x2CE076F3 = some (.andCX true false 0x1C#5 1#5 3#2 3#3 7#4 9#4) ∧
    decode 0x35F912F2 = some (.orCR false true 0x1F#5 4#5 9#5 7#4 9#4) ∧
    decode 0x3C11D25D = some (.orCX true false 2#5 7#5 1#2 1#3 2#4 0xE#4) ∧
    decode 0x452A9E5C = some (.xorCR false true 5#5 0xA#5 0xF#5 2#4 0xE#4) ∧
    decode 0x4C437E85 = some (.xorCX true false 8#5 0xD#5 3#2 7#3 4#4 2#4) ∧
    decode 0x84311CB2 = some (.addACR false 6#5 false 4#4 false 0xE#4 5#4 9#4) ∧
    decode 0x854DDAFB = some (.addACX true 9#5 true 7#4 1#2 5#3 7#4 0xD#4) ∧
    decode 0x8C62883C = some (.subACR false 0xC#5 false 0xA#4 false 4#4 1#4 0xE#4) ∧
    decode 0x8D7F7643 = some (.subACX true 0xF#5 true 0xD#4 3#2 3#3 2#4 1#4) := by
  decide

theorem test_decode_alu_x8 :
    decode 0x076CB46E = some (.addUX8 false true 0xD#5 0x12#5 0xD1#8 7#4) ∧
    decode 0x0E857A04 = some (.addCX8 true false 0x10#5 0x15#5 0xE8#8 2#4) ∧
    decode 0x179E1D24 = some (.subUX8 false true 0x13#5 0x18#5 0x74#8 2#4) ∧
    decode 0x1EB6CE9A = some (.subCX8 true false 0x16#5 0x1B#5 0x3A#8 0xD#4) ∧
    decode 0x27CFB468 = some (.andUX8 false true 0x19#5 0x1E#5 0xD1#8 4#4) ∧
    decode 0x2EE07A02 = some (.andCX8 true false 0x1C#5 1#5 0xE8#8 1#4) ∧
    decode 0x37F91D2E = some (.orUX8 false true 0x1F#5 4#5 0x74#8 7#4) ∧
    decode 0x3E11CE92 = some (.orCX8 true false 2#5 7#5 0x3A#8 9#4) ∧
    decode 0x472AB464 = some (.xorUX8 false true 5#5 0xA#5 0xD1#8 2#4) ∧
    decode 0x4E437A1C = some (.xorCX8 true false 8#5 0xD#5 0xE8#8 0xE#4) ∧
    decode 0x86311D28 = some (.addAUX8 false 6#5 false 4#4 0x74#8 4#4) ∧
    decode 0x874DCE84 = some (.addACX8 true 9#5 true 7#4 0x3A#8 2#4) ∧
    decode 0x8E62B46E = some (.subAUX8 false 0xC#5 false 0xA#4 0xD1#8 7#4) ∧
    decode 0x8F7F7A1A = some (.subACX8 true 0xF#5 true 0xD#4 0xE8#8 0xD#4) := by
  decide

theorem test_decode_shift :
    decode 0x516CAE00 = some (.lslRR false true 0xD#5 0x12#5 0x17#5) ∧
    decode 0x5A857400 = some (.lslI5 true false 0x10#5 0x15#5 0x1A#5) ∧
    decode 0x559E3A24 = some (.lslUR false true 0x13#5 0x18#5 0x1D#5 2#4) ∧
    decode 0x5EB6C026 = some (.lslUI5 true false 0x16#5 0x1B#5 0#5 3#4) ∧
    decode 0x55CF861C = some (.lslCR false true 0x19#5 0x1E#5 3#5 0xE#4) ∧
    decode 0x5EE04C02 = some (.lslCI5 true false 0x1C#5 1#5 6#5 1#4) ∧
    decode 0x51F91240 = some (.lsrRR false true 0x1F#5 4#5 9#5) ∧
    decode 0x5A11D840 = some (.lsrI5 true false 2#5 7#5 0xC#5) ∧
    decode 0x552A9E64 = some (.lsrUR false true 5#5 0xA#5 0xF#5 2#4) ∧
    decode 0x5E436466 = some (.lsrUI5 true false 8#5 0xD#5 0x12#5 3#4) ∧
    decode 0x555C2A42 = some (.lsrCR false true 0xB#5 0x10#5 0x15#5 1#4) ∧
    decode 0x5E74F044 = some (.lsrCI5 true false 0xE#5 0x13#5 0x18#5 2#4) ∧
    decode 0x518DB680 = some (.aslRR false true 0x11#5 0x16#5 0x1B#5) ∧
    decode 0x5AA67C80 = some (.aslI5 true false 0x14#5 0x19#5 0x1E#5) ∧
    decode 0x55BF02A4 = some (.aslUR false true 0x17#5 0x1C#5 1#5 2#4) ∧
    decode 0x5ED7C8A6 = some (.aslUI5 true false 0x1A#5 0x1F#5 4#5 3#4) ∧
    decode 0x55E88E84 = some (.aslCR false true 0x1D#5 2#5 7#5 2#4) ∧
    decode 0x5E015492 = some (.aslCI5 true false 0#5 5#5 0xA#5 9#4) ∧
    decode 0x511A1AC0 = some (.asrRR false true 3#5 8#5 0xD#5) ∧
    decode 0x5A32E0C0 = some (.asrI5 true false 6#5 0xB#5 0x10#5) ∧
    decode 0x554BA6E4 = some (.asrUR false true 9#5 0xE#5 0x13#5 2#4) ∧
    decode 0x5E646CE6 = some (.asrUI5 true false 0xC#5 0x11#5 0x16#5 3#4) ∧
    decode 0x557D32D2 = some (.asrCR false true 0xF#5 0x14#5 0x19#5 9#4) ∧
    decode 0x5E95F8DA = some (.asrCI5 true false 0x12#5 0x17#5 0x1C#5 0xD#4) := by
  decide

theorem test_decode_mul_r :
    decode 0x60436400 = some (.mulwRR false 8#5 0xD#5 0x12#5) ∧
    decode 0x615C2401 = some (.mulwRX true 0xB#5 0x10#5 2#2 2#3) ∧
    decode 0x6074F040 = some (.muldRR false 0xE#5 0x13#5 0x18#5) ∧
    decode 0x618D8041 = some (.muldRX true 0x11#5 0x16#5 0#2 0#3) := by
  decide

theorem test_decode_mul_i16 :
    decode 0x62464E8A = some (.mulwI16 false 8#5 0xC9D1#16 true false) ∧
    decode 0x635F2745 = some (.muldI16 true 0xB#5 0xE4E8#16 false true) := by
  decide

theorem test_decode_mul_cr :
    decode 0x6443642A = some (.mulwUR false 8#5 0xD#5 0x12#5 5#4) ∧
    decode 0x655C2423 = some (.mulwUX true 0xB#5 0x10#5 2#2 2#3 1#4) ∧
    decode 0x6474F004 = some (.mulwCR false 0xE#5 0x13#5 0x18#5 2#4) ∧
    decode 0x658D801B = some (.mulwCX true 0x11#5 0x16#5 0#2 0#3 0xD#4) ∧
    decode 0x64A67C66 = some (.muldUR false 0x14#5 0x19#5 0x1E#5 3#4) ∧
    decode 0x65BF2C6B = some (.muldUX true 0x17#5 0x1C#5 2#2 6#3 5#4) ∧
    decode 0x64D7C842 = some (.muldCR false 0x1A#5 0x1F#5 4#5 1#4) ∧
    decode 0x65E88853 = some (.muldCX true 0x1D#5 2#5 0#2 4#3 9#4) := by
  decide

theorem test_decode_mul_x8 :
    decode 0x6643746A = some (.mulwUX8 false 8#5 0xD#5 0xD1#8 5#4) ∧
    decode 0x675C3A02 = some (.mulwCX8 true 0xB#5 0x10#5 0xE8#8 1#4) ∧
    decode 0x6674DD23 = some (.muldUX8 false 0xE#5 0x13#5 0x74#8 1#4) ∧
    decode 0x678D8E93 = some (.muldCX8 true 0x11#5 0x16#5 0x3A#8 9#4) := by
  decide

theorem test_decode_dux :
    decode 0x70434028 = some (.absRR false 8#5 0xD#5) ∧
    decode 0x715C0004 = some (.ffbRR true 0xB#5 0x10#5) ∧
    decode 0x7074F024 = some (.maxRR false 0xE#5 0x13#5 0x18#5) ∧
    decode 0x718DB620 = some (.minRR true 0x11#5 0x16#5 0x1B#5) ∧
    decode 0x70A67C58 = some (.mortRR false 0x14#5 0x19#5 0x1E#5) ∧
    decode 0x71BF2C59 = some (.mortRX true 0x17#5 0x1C#5 2#2 6#3) ∧
    decode 0x70D7C82C = some (.nminRR false 0x1A#5 0x1F#5 4#5) ∧
    decode 0x71E88008 = some (.normRR true 0x1D#5 2#5) ∧
    decode 0x70015418 = some (.vpackRR false 0#5 5#5 0xA#5) ∧
    decode 0x711A2419 = some (.vpackRX true 3#5 8#5 2#2 2#3) := by
  decide

theorem test_decode_cmp_r :
    decode 0x70021A00 = some (.cmpRR false 8#5 0xD#5) ∧
    decode 0x7102DA01 = some (.cmpRX true 0xB#5 1#2 5#3) ∧
    decode 0x7803A600 = some (.tstRR false 0xE#5 0x13#5) ∧
    decode 0x79047601 = some (.tstRX true 0x11#5 3#2 3#3) := by
  decide

theorem test_decode_cmp_i16 :
    decode 0x72464E8D = some (.cmpI16 false 8#5 0xC9D1#16 true false true) ∧
    decode 0x7B5F2742 = some (.tstI16 true 0xB#5 0xE4E8#16 false true false) := by
  decide

theorem test_decode_cmp_cr :
    decode 0x74021A1A = some (.cmpCR false 8#5 0xD#5 0xD#4) ∧
    decode 0x7502DA03 = some (.cmpCX true 0xB#5 1#2 5#3 1#4) ∧
    decode 0x7C03A602 = some (.tstCR false 0xE#5 0x13#5 1#4) ∧
    decode 0x7D047613 = some (.tstCX true 0x11#5 3#2 3#3 9#4) := by
  decide

theorem test_decode_cmp_x8 :
    decode 0x7602345A = some (.cmpCX8 false 8#5 0xD1#8 0xD#4) ∧
    decode 0x7F02FA1C = some (.tstCX8 true 0xB#5 0xE8#8 0xE#4) := by
  decide

theorem test_decode_branch :
    decode 0xA0FFFFFE = some .nop ∧
    decode 0xA05C9D00 = some (.branch 0x2E4E8#19 false) ∧
    decode 0xA0AE4E9A = some (.branchCc 0x57274#19 0xD#4 false) := by
  decide

theorem test_decode_a1 :
    decode 0xA11C0052 = some (.movbRd 3#5 2#4 9#4) ∧
    decode 0xA134107A = some (.movwRd 6#5 3#4 0xD#4) ∧
    decode 0xA14C209C = some (.movdRd 9#5 4#4 0xE#4) ∧
    decode 0xA16040E4 = some (.cprbUnit 0xC#5 1#3 7#4 2#4) ∧
    decode 0xA1791032 = some (.cprwUnit 0xF#5 4#3 1#4 9#4) ∧
    decode 0xA191E05A = some (.cprdUnit 0x12#5 7#3 2#4 0xD#4) := by
  decide

theorem test_decode_a2 :
    decode 0xA21A205B = some (.movlTtrec 3#5 8#5 2#2 0xD#4) ∧
    decode 0xA234163C = some (.movlRd 6#5 0xB#5 1#2 0xE#4) ∧
    decode 0xA249A624 = some (.cprlPair 9#5 6#3 0x13#5 1#2 2#4) := by
  decide

theorem test_decode_u2u :
    decode 0xA3FFFFFF = some .rti ∧
    decode 0xA37FFFFF = some .rth ∧
    decode 0xA34B96E5 = some (.ttmov 9#5 0xE#5 5#4 7#4 2#4) ∧
    decode 0xA36440E5 = some (.kick 0xC#5 0x11#5 7#4 2#4) ∧
    decode 0xA37D2033 = some (.defr 0xF#5 0x14#5 1#4 9#4) ∧
    decode 0xA395C861 = some (.swap 0x12#5 0x17#5 2#4 3#4) ∧
    decode 0xA3AE8C83 = some (.swapCc 0x15#5 0x1A#5 3#4 4#4 1#4) ∧
    decode 0xA3C750A0 = some (.movUnit 0x18#5 0x1D#5 4#4 5#4) ∧
    decode 0xA3D814F2 = some (.movUnitCc 0x1B#5 0#5 5#4 7#4 9#4) := by
  decide

theorem test_decode_a4 :
    decode 0xA41A185A = some (.cprbMemCc 3#5 8#5 2#2 0xD#4) ∧
    decode 0xA432D93C = some (.cprwMemCc 6#5 0xB#5 1#2 0xE#4) ∧
    decode 0xA44B9A02 = some (.cprdMemCc 9#5 0xE#5 0#2 1#4) ∧
    decode 0xA4645B44 = some (.cprlMemCc 0xC#5 0x11#5 2#2 2#4) ∧
    decode 0xA47D045A = some (.setbCc 0xF#5 0x14#5 1#4 2#2 0xD#4) ∧
    decode 0xA495C95C = some (.setwCc 0x12#5 0x17#5 2#4 2#2 0xE#4) ∧
    decode 0xA4AE8E22 = some (.setdCc 0x15#5 0x1A#5 3#4 1#2 1#4) ∧
    decode 0xA4C75304 = some (.setlCc 0x18#5 0x1D#5 4#4 0#2 2#4) ∧
    decode 0xA4D81453 = some (.lnksetb 0x1B#5 0#5 5#4 2#2 9#4) ∧
    decode 0xA4F0DD5B = some (.lnksetw 0x1E#5 3#5 7#4 2#2 0xD#4) ∧
    decode 0xA409863D = some (.lnksetd 1#5 6#5 1#4 1#2 0xE#4) ∧
    decode 0xA4224B03 = some (.lnksetl 4#5 9#5 2#4 0#2 1#4) := by
  decide

theorem test_decode_s12 :
    decode 0xA51CE8D8 = some (.setbS12 3#5 0x9D1#12 2#2 3#2 0#1) ∧
    decode 0xA5327433 = some (.setwS12 6#5 0x4E8#12 1#2 2#2 1#1) ∧
    decode 0xA5493A0C = some (.setdS12 9#5 0x274#12 0#2 1#2 0#1) ∧
    decode 0xA5649D67 = some (.setlS12 0xC#5 0x93A#12 3#2 0#2 1#1) ∧
    decode 0xA67CE8C1 = some (.movbRaS12 0xF#5 0x9D1#12 2#2 1#1) ∧
    decode 0xA6927422 = some (.movwRaS12 0x12#5 0x4E8#12 1#2 0#1) ∧
    decode 0xA6A93A05 = some (.movdRaS12 0x15#5 0x274#12 0#2 1#1) ∧
    decode 0xA6C49D66 = some (.movlRaS12 0x18#5 0x93A#12 3#2 0#1) ∧
    decode 0xA7DCE8D8 = some (.getbS12 0x1B#5 0x9D1#12 2#2 3#2 0#1) ∧
    decode 0xA7F27433 = some (.getwS12 0x1E#5 0x4E8#12 1#2 2#2 1#1) ∧
    decode 0xA7093A0C = some (.getdS12 1#5 0x274#12 0#2 1#2 0#1) ∧
    decode 0xA7249D67 = some (.getlS12 4#5 0x93A#12 3#2 0#2 1#1) := by
  decide

theorem test_decode_lock :
    decode 0xA8000000 = some .lock0 ∧
    decode 0xA8000001 = some .lock1 ∧
    decode 0xA8000003 = some .lock2 := by
  decide

theorem test_decode_imm16ct :
    decode 0xA91E4E89 = some (.movCt 3#5 0xC9D1#16 false true) ∧
    decode 0xA9372746 = some (.movTt 6#5 0xE4E8#16 true false) := by
  decide

theorem test_decode_xsd :
    decode 0xAA1A0001 = some (.xsdb 3#5 8#5 false true) ∧
    decode 0xAA32C00A = some (.xsdw 6#5 0xB#5 true false) ∧
    decode 0xAA4B8005 = some (.bexd 9#5 0xE#5 false true) ∧
    decode 0xAA64401C = some (.bexl 0xC#5 0x11#5 true false) ∧
    decode 0xAA7D0007 = some (.rtdw 0xF#5 0x14#5 false true) := by
  decide

theorem test_decode_callr :
    decode 0xABB93A2D = some (.callr 0x5C9D1#19 1#2 5#3) := by
  decide

theorem test_decode_jump :
    decode 0xAC1E4E8A = some (.jump 3#5 0xC9D1#16 2#2) ∧
    decode 0xAC372745 = some (.call 6#5 0xE4E8#16 1#2) := by
  decide

theorem test_decode_lnkcache :
    decode 0xAD1A00D8 = some (.lnkgetb 3#5 8#5 2#2 3#2) ∧
    decode 0xAD32C0B2 = some (.lnkgetw 6#5 0xB#5 1#2 2#2) ∧
    decode 0xAD4B808C = some (.lnkgetd 9#5 0xE#5 0#2 1#2) ∧
    decode 0xAD6440E6 = some (.lnkgetl 0xC#5 0x11#5 3#2 0#2) ∧
    decode 0xAD7D39E3 = some (.cacherl 0xF#5 0x14#5 0x39#6 3#2 0#2) ∧
    decode 0xAD95FCD9 = some (.cacherd 0x12#5 0x17#5 0x3C#6 2#2 3#2) ∧
    decode 0xADAEBF33 = some (.cachewl 0x15#5 0x1A#5 0x3F#6 1#2 2#2) ∧
    decode 0xADC74209 = some (.cachewd 0x18#5 0x1D#5 2#6 0#2 1#2) ∧
    decode 0xADD80560 = some (.dcache 0x1B#5 0#5 5#6 3#2 0#2) := by
  decide

theorem test_decode_icache :
    decode 0xAE000000 = some (.icacheExit false) ∧
    decode 0xAEC9D1F0 = some (.icache 0x64E8#15 0xF#4 true) := by
  decide

theorem test_decode_switch :
    decode 0xAFB5C9D1 = some (.switch 0xB5C9D1#24) := by
  decide

theorem test_decode_getset_r :
    decode 0xB0E0D04C = some (.cprbMemR 3#5 8#5 false 2#2 false 0x1C#5) ∧
    decode 0xB1F996CD = some (.cprwMemR 6#5 0xB#5 true 2#2 true 0x1F#5) ∧
    decode 0xB2125C2C = some (.cprdMemR 9#5 0xE#5 false 1#2 false 2#5) ∧
    decode 0xB32B228D = some (.cprlMemR 0xC#5 0x11#5 true 0#2 true 5#5) ∧
    decode 0xB07D3288 = some (.setbR 0xF#5 0x14#5 0x19#5 true 0#2 4#4 false) ∧
    decode 0xB195F84B = some (.setwR 0x12#5 0x17#5 0x1C#5 false 2#2 5#4 true) ∧
    decode 0xB2AEBECE = some (.setdR 0x15#5 0x1A#5 0x1F#5 true 2#2 7#4 false) ∧
    decode 0xB3C74423 = some (.setlR 0x18#5 0x1D#5 2#5 false 1#2 1#4 true) ∧
    decode 0xC0A6C04C = some (.movbRaR 0x1B#5 0#5 false 2#2 false 0x14#5) ∧
    decode 0xC1BF86CD = some (.movwRaR 0x1E#5 3#5 true 2#2 true 0x17#5) ∧
    decode 0xC2D04C2C = some (.movdRaR 1#5 6#5 false 1#2 false 0x1A#5) ∧
    decode 0xC3E9128D = some (.movlRaR 4#5 9#5 true 0#2 true 0x1D#5) ∧
    decode 0xC03B228E = some (.getbR 7#5 0xC#5 0x11#5 true 0#2 7#4 false) ∧
    decode 0xC153E843 = some (.getwR 0xA#5 0xF#5 0x14#5 false 2#2 1#4 true) ∧
    decode 0xC26CAEC4 = some (.getdR 0xD#5 0x12#5 0x17#5 true 2#2 2#4 false) ∧
    decode 0xC3857427 = some (.getlR 0x10#5 0x15#5 0x1A#5 false 1#2 3#4 true) := by
  decide

theorem test_decode_getset_i6 :
    decode 0xB4E0ED4C = some (.cprbMemI6 3#5 0x2D#6 false 2#2 false 0x1C#5) ∧
    decode 0xB5F9B0CD = some (.cprwMemI6 6#5 0x30#6 true 2#2 true 0x1F#5) ∧
    decode 0xB612732C = some (.cprdMemI6 9#5 0x33#6 false 1#2 false 2#5) ∧
    decode 0xB72B368D = some (.cprlMemI6 0xC#5 0x36#6 true 0#2 true 5#5) ∧
    decode 0xB67D39E7 = some (.setdShort 0xF#5 0x14#5 0x39#6 true 3#4 true) ∧
    decode 0xB495FC4B = some (.setbI6 0x12#5 0x17#5 0x3C#6 false 2#2 5#4 true) ∧
    decode 0xB5AEBFCE = some (.setwI6 0x15#5 0x1A#5 0x3F#6 true 2#2 7#4 false) ∧
    decode 0xB6C74223 = some (.setdI6 0x18#5 0x1D#5 2#6 false 1#2 1#4 true) ∧
    decode 0xB7D80584 = some (.setlI6 0x1B#5 0#5 5#6 true 0#2 2#4 false) ∧
    decode 0xC4BF88CD = some (.movbRaI6 0x1E#5 8#6 true 2#2 true 0x17#5) ∧
    decode 0xC5D04B2C = some (.movwRaI6 1#5 0xB#6 false 1#2 false 0x1A#5) ∧
    decode 0xC6E90E8D = some (.movdRaI6 4#5 0xE#6 true 0#2 true 0x1D#5) ∧
    decode 0xC701D14C = some (.movlRaI6 7#5 0x11#6 false 2#2 false 0#5) ∧
    decode 0xC653D46E = some (.getdShort 0xA#5 0xF#5 0x14#6 false 7#4 false) ∧
    decode 0xC46C97C4 = some (.getbI6 0xD#5 0x12#5 0x17#6 true 2#2 2#4 false) ∧
    decode 0xC5855A27 = some (.getwI6 0x10#5 0x15#5 0x1A#6 false 1#2 3#4 true) ∧
    decode 0xC69E1D88 = some (.getdI6 0x13#5 0x18#5 0x1D#6 true 0#2 4#4 false) ∧
    decode 0xC7B6E04B = some (.getlI6 0x16#5 0x1B#5 0x20#6 false 2#2 5#4 true) := by
  decide

theorem test_decode_multi :
    decode 0xB81A16E0 = some (.msetd 3#5 8#5 0x2D#7 3#2 0#2) ∧
    decode 0xB932D858 = some (.msetl 6#5 0xB#5 0x30#7 2#2 3#2) ∧
    decode 0xC84B99B0 = some (.mgetd 9#5 0xE#5 0x33#7 1#2 2#2) ∧
    decode 0xC9645B08 = some (.mgetl 0xC#5 0x11#5 0x36#7 0#2 1#2) ∧
    decode 0xCA7D1CE0 = some (.mmovdRa 0xF#5 0x14#5 0x39#7 3#2) ∧
    decode 0xCB95DE40 = some (.mmovlRa 0x12#5 0x17#5 0x3C#7 2#2) ∧
    decode 0xCC001F82 = some (.mdrd 0x3F#7) ∧
    decode 0xCCC02118 = some (.mmovdRd 0x18#5 0x42#7 3#2) ∧
    decode 0xCDD82290 = some (.mmovlRd 0x1B#5 0x45#7 2#2) := by
  decide

theorem test_decode_d_group :
    decode 0xD26C8E00 = some (.cprdr0 false true 0xD#5 0x12#5 7#3) ∧
    decode 0xD8854405 = some (.cprdr1 true false 0x10#5 0x15#5 2#3) ∧
    decode 0xD29E0A0A = some (.cprdr2 false true 0x13#5 0x18#5 5#3) ∧
    decode 0xD8B6C00F = some (.cprdr3 true false 0x16#5 0x1B#5 0#3) ∧
    decode 0xD3CF8600 = some (.cprlr0 false true 0x19#5 0x1E#5 3#3) ∧
    decode 0xD9E04C05 = some (.cprlr1 true false 0x1C#5 1#5 6#3) ∧
    decode 0xD3F9020A = some (.cprlr2 false true 0x1F#5 4#5 1#3) ∧
    decode 0xD911C80F = some (.cprlr3 true false 2#5 7#5 4#3) ∧
    decode 0xD453E991 = some (.xfrd01 false true false 0xA#5 0xF#5 0x14#5 0x19#5) ∧
    decode 0xDA6CAFC2 = some (.xfrd02 true false true 0xD#5 0x12#5 0x17#5 0x1C#5) ∧
    decode 0xD48575F3 = some (.xfrd03 false true false 0x10#5 0x15#5 0x1A#5 0x1F#5) ∧
    decode 0xDA9E3A24 = some (.xfrd10 true false true 0x13#5 0x18#5 0x1D#5 2#5) ∧
    decode 0xD4B6C056 = some (.xfrd12 false true false 0x16#5 0x1B#5 0#5 5#5) ∧
    decode 0xDACF8687 = some (.xfrd13 true false true 0x19#5 0x1E#5 3#5 8#5) ∧
    decode 0xD4E04CB8 = some (.xfrd20 false true false 0x1C#5 1#5 6#5 0xB#5) ∧
    decode 0xDAF912E9 = some (.xfrd21 true false true 0x1F#5 4#5 9#5 0xE#5) ∧
    decode 0xD411D91B = some (.xfrd23 false true false 2#5 7#5 0xC#5 0x11#5) ∧
    decode 0xDA2A9F4C = some (.xfrd30 true false true 5#5 0xA#5 0xF#5 0x14#5) ∧
    decode 0xD443657D = some (.xfrd31 false true false 8#5 0xD#5 0x12#5 0x17#5) ∧
    decode 0xDA5C2BAE = some (.xfrd32 true false true 0xB#5 0x10#5 0x15#5 0x1A#5) ∧
    decode 0xD574F1D1 = some (.xfrl01 false true false 0xE#5 0x13#5 0x18#5 0x1D#5) ∧
    decode 0xDB8DB602 = some (.xfrl02 true false true 0x11#5 0x16#5 0x1B#5 0#5) ∧
    decode 0xD5A67C33 = some (.xfrl03 false true false 0x14#5 0x19#5 0x1E#5 3#5) ∧
    decode 0xDBBF0264 = some (.xfrl10 true false true 0x17#5 0x1C#5 1#5 6#5) ∧
    decode 0xD5D7C896 = some (.xfrl12 false true false 0x1A#5 0x1F#5 4#5 9#5) ∧
    decode 0xDBE88EC7 = some (.xfrl13 true false true 0x1D#5 2#5 7#5 0xC#5) ∧
    decode 0xD50154F8 = some (.xfrl20 false true false 0#5 5#5 0xA#5 0xF#5) ∧
    decode 0xDB1A1B29 = some (.xfrl21 true false true 3#5 8#5 0xD#5 0x12#5) ∧
    decode 0xD532E15B = some (.xfrl23 false true false 6#5 0xB#5 0x10#5 0x15#5) ∧
    decode 0xDB4BA78C = some (.xfrl30 true false true 9#5 0xE#5 0x13#5 0x18#5) ∧
    decode 0xD5646DBD = some (.xfrl31 false true false 0xC#5 0x11#5 0x16#5 0x1B#5) ∧
    decode 0xDB7D33EE = some (.xfrl32 true false true 0xF#5 0x14#5 0x19#5 0x1E#5) := by
  decide

theorem test_decode_e_group :
    decode 0xE1600001 = some (.cpxl 3#3 0#3 false) ∧
    decode 0xE470A800 = some (.cpwlRR 2#2 3#3 0x10#5 0x15#5) ∧
    decode 0xECD37274 = some (.cpwlRI 2#2 6#3 0x13#5 0x7274#16) ∧
    decode 0xE336D80A = some (.cpwlMemR 1#2 1#3 0x16#5 0x1B#5 true false true) ∧
    decode 0xE999D102 = some (.cpwlMemI8 0#2 4#3 0x19#5 0xD1#8 false true false) := by
  decide

/-! ## Words that the spec writes out with their instructions, and words that are none -/

theorem test_decode_worked_words :
    decode 0xA73C002C = some (.getdS12 7#5 0x800#12 1#2 1#2 0#1) ∧
    decode 0xA53C0024 = some (.setdS12 7#5 0x800#12 1#2 0#2 0#1) ∧
    decode 0xA400C643 = some (.lnksetd 0#5 3#5 1#4 2#2 1#4) ∧ decode 0xA9140004 = some (.movTt 2#5 0x8000#16 false false) ∧
    decode 0xA239E047 = some (.movlTtrec 7#5 7#5 2#2 3#4) ∧ decode 0xAD001F50 = some (.dcache 0#5 0#5 31#6 2#2 2#2) ∧
    decode 0xA3018021 = some (.kick 0#5 6#5 1#4 0#4) ∧ decode 0xAA39C01C = some (.bexl 7#5 7#5 true false) ∧
    decode 0xAA01C006 = some (.rtdw 0#5 7#5 false false) ∧ decode 0xAA01C008 = some (.xsdb 0#5 7#5 true false) ∧
    decode 0xAD00C1CB = some (.cacherl 0#5 3#5 1#6 2#2 1#2) ∧ decode 0xAD00C0C9 = some (.cacherd 0#5 3#5 0#6 2#2 1#2) ∧
    decode 0xAD380249 = some (.cachewd 7#5 0#5 2#6 2#2 1#2) ∧ decode 0xAC0BFFF8 = some (.jump 1#5 0x7FFF#16 0#2) ∧
    decode 0xAE000000 = some (.icacheExit false) ∧ decode 0xAE000010 = some (.icacheExit true) ∧
    decode 0xAFFFFFFF = some (.switch 0xFFFFFF#24) := by decide

/-- 30_encoding.md R218: an unassigned opcode byte, a word of the shadow register group, and a reserved field. -/
theorem test_decode_refuses : decode 0xF2345678 = none ∧ decode 0x90000000 = none ∧ decode 0xA8000002 = none := by decide

/-- Words are numbered from bit 0, and bits from the number given on are zero. -/
theorem test_decodeTableWord : decodeTableWord 32 0xA0FFFFFE = some .nop ∧
    decodeTableWord 24 0xA0000001 = some (.addRX false false 0#5 0#5 0#2 0#3) := by decide

/-! ## The effect of an instruction -/

/-- What is seen of the next state, if there is one. -/
def seen {α : Type} (f : State → α) (o : Out) : Option α :=
  match o with
  | .next s => some (f s)
  | _ => none

/-- The state after reset with some registers set. -/
def regs (l : List (BUnit × BitVec 5 × Word)) : State :=
  l.foldl (fun s r => writeReg s r.1 r.2.1 r.2.2) State.reset

/-- A state with some words of memory set. -/
def words (l : List (Nat × Word)) (s : State) : State :=
  l.foldl (fun s w => s.placeWord (BitVec.ofNat 32 w.1) w.2) s

/-- The state after reset with some entries in the read pipeline. -/
def queue (l : List DWord) : State := State.reset.setRdq l

/-- A word of RAM, its least significant byte at the address (20_memory.md R105). -/
def wordAt (s : State) (a : Nat) : Nat :=
  (s.mem.get a).toNat + 256 * (s.mem.get (a + 1)).toNat + 65536 * (s.mem.get (a + 2)).toNat +
    16777216 * (s.mem.get (a + 3)).toNat

/-- No flag is set. -/
def noFlags : Flags := ⟨false, false, false, false⟩

/-- Z alone is set. -/
def onlyZ : Flags := ⟨true, false, false, false⟩

/-- N alone is set. -/
def onlyN : Flags := ⟨false, true, false, false⟩

/-- V alone is set. -/
def onlyV : Flags := ⟨false, false, true, false⟩

/-- C alone is set. -/
def onlyC : Flags := ⟨false, false, false, true⟩

/-- D0.0 to D0.3 with the values. -/
def d4 (a b c d : Word) : State := regs [(.d0, 0#5, a), (.d0, 1#5, b), (.d0, 2#5, c), (.d0, 3#5, d)]

/-- 30_encoding.md R178: operand 2 replace, D0 with selector 1 reads D1; selector 2 consumes RD. -/
theorem test_operand_replace : seen (fun s => readReg s .d0 2#5 0)
    (exec (.addRX false false 2#5 0#5 1#2 5#3) (regs [(.d0, 0#5, 3#32), (.d1, 5#5, 40#32)])) = some 43#32 ∧
    seen (fun s => (readReg s .d0 2#5 0, s.th.rdq)) (exec (.addRX false false 2#5 0#5 2#2 5#3) (queue [9, 8])) =
      some (9#32, [8]) := by decide

/-- 42_extended_gp_a.md R320: a false condition leaves the destination, and RD is consumed all the same. -/
theorem test_condition_false : seen (fun s => (readReg s .d1 2#5 0, s.th.rdq, s.th.pc))
    (exec (.addCX false false 2#5 0#5 2#2 0#3 2#4 1#4) (queue [9])) = some (0#32, [], 4#32) := by decide

/-- 45_shift.md R441, 10_state.md R61: the count is taken modulo 32, and C is the last bit shifted out. -/
theorem test_shifts : seen (fun s => (readReg s .d0 2#5 0, s.th.flags.c))
    (exec (.lslRR true false 2#5 0#5 1#5) (d4 0x80000001#32 33#32 0#32 0#32)) = some (2#32, true) ∧
    seen (fun s => (readReg s .d0 2#5 0, s.th.flags.c))
      (exec (.lsrI5 true false 2#5 0#5 4#5) (d4 0x80000018#32 0#32 0#32 0#32)) = some (0x08000001#32, true) ∧
    seen (fun s => (readReg s .d0 2#5 0, s.th.flags.c))
      (exec (.asrRR true false 2#5 0#5 1#5) (d4 0x80000000#32 31#32 0#32 0#32)) = some (0xFFFFFFFF#32, false) ∧
    seen (fun s => (readReg s .d0 2#5 0, s.th.flags.c))
      (exec (.aslI5 true false 2#5 0#5 0#5) (d4 0xC0000000#32 0#32 0#32 0#32)) = some (0xC0000000#32, false) := by
  decide

/-- 41_core_gp_b.md R281: the low halves, unsigned, and the low 32 bits. -/
theorem test_multiplies : seen (fun s => readReg s .d0 2#5 0)
    (exec (.mulwRR false 2#5 0#5 1#5) (d4 0x5FFFF#32 0x7FFFE#32 0#32 0#32)) = some 0xFFFD0002#32 ∧
    seen (fun s => readReg s .d0 2#5 0)
      (exec (.muldRR false 2#5 0#5 1#5) (d4 0x10000#32 0x10001#32 0#32 0#32)) = some 0x10000#32 := by decide

/-- 20_memory.md R102, R114: GETB zero-extends, and with pre-increment reads at the new base. -/
theorem test_getb_pre_increment : seen (fun s => (readReg s .d1 3#5 0, readReg s .a0 2#5 0))
    (exec (.getbI6 3#5 2#5 0x3F#6 true 3#2 2#4 false) { regs [(.a0, 2#5, 65#32)] with mem := [(64, 0x80#8)] }) =
    some (0x80#32, 64#32) := by decide

/-- 60_exceptions.md R572, R581, R590: LOCK1 with an entry in the pipeline halts, and the halt trigger is emitted. -/
theorem test_outstanding_reads : seen (fun s => (s.th.runState, s.th.lastException, s.emitted))
    (exec .lock1 (queue [1])) =
    some (.halted, some .outstandingReads, [.haltTrigger 0]) := by decide

/-- 60_exceptions.md R586: SWITCH with a handler exchanges PC and PCX and sets ISTAT. -/
theorem test_switch_handler : seen (fun s => (s.th.pc, s.th.pcx, s.th.istat))
    (exec (.switch 0x123456#24) { (State.reset.setPc 0x100#32).setPcx 0x200#32 with
      th := { ((State.reset.setPc 0x100#32).setPcx 0x200#32).th with
        exModes := { State.reset.th.exModes with switchException := .handler } } }) =
    some (0x200#32, 0x100#32, true) := by decide

/-- 40_core_gp_a.md R240: the first step after reset runs the word placed at the pc. -/
theorem test_step : seen (fun s => (s.th.pc, readReg s .d0 1#5 0, s.tick))
    (step (State.reset.withFetchWord 32 0x02080028)) = some (4#32, 5#32, 1) := by decide

/-- 60_exceptions.md R576: a word that is no instruction raises UnknownInstruction, and the thread halts. -/
theorem test_step_unknown : seen (fun s => (s.th.runState, s.th.lastException, s.th.pc))
    (step (State.reset.withFetchWord 32 0x90000000)) =
    some (.halted, some (.unknownInstruction 0x90000000#32), 0#32) := by decide

/-- Worked examples of 40_core_gp_a.md R243, R244; 42_extended_gp_a.md R326, R327, R328, R329, R330. -/
theorem test_examples_add :
    seen (fun s => (readReg s .d1 7#5 0, s.th.flags))
      (exec (.addRR true true 7#5 0#5 7#5) (regs [(.d1, 0#5, 0xFFFFFFFF#32), (.d1, 7#5, 1#32)])) =
      some (0#32, ⟨true, false, false, true⟩) ∧
    seen (fun s => (readReg s .d0 7#5 0, s.th.flags))
      (exec (.addI16 true false 7#5 0x8000#16 true false) (regs [(.d0, 7#5, 0x8000#32)])) =
      some (0#32, ⟨true, false, false, true⟩) ∧
    seen (fun s => (readReg s .d0 7#5 0, s.th.flags))
      (exec (.addRX true false 7#5 7#5 0#2 7#3) (regs [(.d0, 7#5, 0xFFFFFFFF#32), (.a1, 7#5, 1#32)])) =
      some (0#32, ⟨true, false, false, true⟩) ∧
    seen (fun s => (readReg s .a1 7#5 0, s.th.flags))
      (exec (.addCR false false 7#5 7#5 0#5 4#4 3#4)
        ((regs [(.d0, 7#5, 5#32), (.d0, 0#5, 6#32)]).setFlags onlyC)) =
      some (0xB#32, ⟨false, false, false, true⟩) ∧
    seen (fun s => (readReg s .a0 7#5 0, s.th.rdq))
      (exec (.addCX false false 7#5 7#5 2#2 0#3 3#4 0xB#4)
        (((regs [(.a0, 7#5, 9#32)]).setFlags onlyN).setRdq [0x55#64])) =
      some (9#32, []) ∧
    seen (fun s => readReg s .d0 7#5 0)
      (exec (.addUX8 false true 7#5 0#5 0xFF#8 1#4) (regs [(.d1, 0#5, 1#32)])) = some 0x100#32 ∧
    seen (fun s => (readReg s .d1 7#5 0, s.th.pc))
      (exec (.addCX8 false true 7#5 7#5 0x80#8 3#4) (regs [(.d1, 7#5, 3#32)])) = some (3#32, 4#32) := by
  decide

/-- Worked examples of 40_core_gp_a.md R245, R246; 42_extended_gp_a.md R331, R332, R333, R334, R335; 41_core_gp_b.md
R288, R289. -/
theorem test_examples_logic :
    seen (fun s => (readReg s .d1 0#5 0, (s.th.flags.z, s.th.flags.n)))
      (exec (.andRR true true 0#5 7#5 7#5) (regs [(.d1, 7#5, 0x80000001#32)])) =
      some (0x80000001#32, (false, true)) ∧
    seen (fun s => readReg s .d0 7#5 0)
      (exec (.andI16 false false 7#5 0x7FFF#16 true false true) (regs [(.d0, 7#5, 0xFFFFFFFF#32)])) =
      some 0x7FFFFFFF#32 ∧
    seen (fun s => readReg s .d0 7#5 0)
      (exec (.andI16 false false 7#5 0x1234#16 true false false) (regs [(.d0, 7#5, 0x7FFFFFFF#32)])) =
      some 0x7FFF1234#32 ∧
    seen (fun s => (readReg s .d1 7#5 0, (s.th.flags.z, s.th.flags.n), s.th.rdq))
      (exec (.andRX true true 7#5 0#5 2#2 0#3) ((regs [(.d1, 0#5, 0xFF00#32)]).setRdq [0xFF0#64])) =
      some (0xF00#32, (false, false), []) ∧
    seen (fun s => ((s.th.flags.z, s.th.flags.n), s.th.pc))
      (exec (.andCR true true 0#5 7#5 0#5 5#4 1#4)
        ((regs [(.d1, 7#5, 0x8000FFFC#32), (.d1, 0#5, 0xFFFF#32)]).setFlags onlyZ)) =
      some ((false, false), 0xFFFC#32) ∧
    seen (fun s => s.th.rdq)
      (exec (.andCX false true 0x10#5 7#5 2#2 0#3 6#4 0xD#4)
        (((words [(0x1000, 0x77#32)] (regs [(.d1, 7#5, 0xFFFFFFF0#32)])).setFlags noFlags).setRdq [0x1008#64])) =
      some [0x77#64] ∧
    seen (fun s => readReg s .d0 7#5 0)
      (exec (.andUX8 false true 7#5 0#5 0xFF#8 1#4) (regs [(.d1, 0#5, 0x12345678#32)])) = some 0x78#32 ∧
    seen (fun s => (readReg s .d0 7#5 0, (s.th.flags.z, s.th.flags.n)))
      (exec (.andCX8 true false 7#5 7#5 0x80#8 2#4) (regs [(.d0, 7#5, 0x7F#32)])) = some (0#32, (true, false)) ∧
    seen (fun s => (readReg s .d1 0#5 0, (s.th.flags.z, s.th.flags.n)))
      (exec (.orRR true true 0#5 7#5 7#5) (regs [(.d1, 0#5, 3#32)])) = some (0#32, (true, false)) ∧
    seen (fun s => readReg s .d1 0#5 0)
      (exec (.orI16 false true 0#5 0x7FFF#16 false false true) (regs [(.d1, 0#5, 1#32)])) = some 0x7FFF0001#32 := by
  decide

/-- Worked examples of 43_extended_gp_b.md R379, R380, R381, R382, R383, R399, R400, R401, R402, R403;
41_core_gp_b.md R302, R303. -/
theorem test_examples_or_xor :
    seen (fun s => (readReg s .d0 0#5 0, s.th.flags))
      (exec (.orRX false false 0#5 0#5 1#2 7#3) (regs [(.d0, 0#5, 0xFF00#32), (.d1, 7#5, 0xFF#32)])) =
      some (0xFFFF#32, ⟨false, false, false, false⟩) ∧
    seen (fun s => readReg s .a0 7#5 0)
      (exec (.orCR false true 7#5 7#5 7#5 3#4 2#4) (regs [(.d1, 7#5, 0x1234#32)])) = some 0x1234#32 ∧
    seen (fun s => (readReg s .d1 7#5 0, (s.th.flags.z, s.th.flags.n)))
      (exec (.orCX true true 7#5 0#5 0#2 7#3 2#4 7#4)
        ((regs [(.d1, 0#5, 0x80000000#32), (.a1, 7#5, 1#32)]).setFlags onlyV)) =
      some (0x80000001#32, (false, true)) ∧
    seen (fun s => readReg s .a0 7#5 0)
      (exec (.orUX8 false false 7#5 7#5 0x7F#8 3#4) (regs [(.d0, 7#5, 0x100#32)])) = some 0x17F#32 ∧
    seen (fun s => (readReg s .d0 7#5 0, (s.th.flags.z, s.th.flags.n)))
      (exec (.orCX8 true false 7#5 7#5 0x80#8 2#4) (regs [(.d0, 7#5, 1#32)])) = some (0x81#32, (false, false)) ∧
    seen (fun s => (readReg s .d1 0#5 0, (s.th.flags.z, s.th.flags.n)))
      (exec (.xorRR true true 0#5 7#5 7#5) (regs [(.d1, 7#5, 0x1234#32), (.d1, 0#5, 5#32)])) =
      some (0#32, (true, false)) ∧
    seen (fun s => readReg s .d0 0#5 0)
      (exec (.xorI16 false false 0#5 0x8000#16 false true false) (regs [(.d0, 0#5, 0xFFFFFFFF#32)])) =
      some 0x7FFF#32 ∧
    seen (fun s => (readReg s .d1 7#5 0, (s.th.flags.z, s.th.flags.n), s.th.rdq))
      (exec (.xorRX true true 7#5 0#5 2#2 0#3) ((regs [(.d1, 0#5, 0xFFFF0000#32)]).setRdq [0xFFFF0000#64])) =
      some (0#32, (true, false), []) ∧
    seen (fun s => readReg s .a0 7#5 0)
      (exec (.xorCR false true 7#5 7#5 7#5 3#4 2#4) (regs [(.d1, 7#5, 0x1234#32), (.a0, 7#5, 9#32)])) = some 0#32 ∧
    seen (fun s => (readReg s .d1 7#5 0, s.th.flags, s.th.pc))
      (exec (.xorCX true true 7#5 0#5 0#2 7#3 2#4 7#4)
        ((regs [(.d1, 0#5, 1#32), (.d1, 7#5, 8#32)]).setFlags onlyN)) =
      some (8#32, ⟨false, true, false, false⟩, 4#32) ∧
    seen (fun s => readReg s .d0 7#5 0)
      (exec (.xorUX8 false true 7#5 0#5 0xFF#8 1#4) (regs [(.d1, 0#5, 0xF0F#32)])) = some 0xFF0#32 ∧
    seen (fun s => (readReg s .d0 7#5 0, (s.th.flags.z, s.th.flags.n)))
      (exec (.xorCX8 true false 7#5 7#5 0x80#8 2#4) (regs [(.d0, 7#5, 0x80#32)])) = some (0#32, (true, false)) := by
  decide

/-- Worked examples of 40_core_gp_a.md R260, R262; 42_extended_gp_a.md R346; 41_core_gp_b.md R285, R286;
43_extended_gp_b.md R378. -/
theorem test_examples_mov_neg :
    seen (fun s => (readReg s .d1 7#5 0, (s.th.flags.z, s.th.flags.n)))
      (exec (.movRR true true 7#5 0#5) (regs [(.d1, 7#5, 7#32)])) = some (0#32, (true, false)) ∧
    seen (fun s => (readReg s .d1 0#5 0, (s.th.flags.z, s.th.flags.n)))
      (exec (.movI16 true true 0#5 0x7FFF#16 false true) State.reset) = some (0x7FFF0000#32, (false, false)) ∧
    seen (fun s => (readReg s .d0 7#5 0, (s.th.flags.z, s.th.flags.n)))
      (exec (.movRX true false 7#5 0#2 3#3) (regs [(.a1, 3#5, 0x80000000#32)])) =
      some (0x80000000#32, (false, true)) ∧
    seen (fun s => (readReg s .d1 7#5 0, s.th.flags))
      (exec (.negRR true true 7#5 0#5) (regs [(.d1, 0#5, 0x80000000#32)])) =
      some (0x80000000#32, ⟨false, true, true, true⟩) ∧
    seen (fun s => (readReg s .d1 7#5 0, s.th.flags))
      (exec (.negI16 true true 7#5 0x7FFF#16 false false) State.reset) =
      some (0xFFFF8001#32, ⟨false, true, false, true⟩) ∧
    seen (fun s => (readReg s .d0 7#5 0, s.th.flags))
      (exec (.negRX true false 7#5 0#2 3#3) (regs [(.a1, 3#5, 0x80000000#32)])) =
      some (0x80000000#32, ⟨false, true, true, true⟩) := by
  decide

/-- Worked examples of 41_core_gp_b.md R294, R296; 43_extended_gp_b.md R391, R392, R393, R394, R395. -/
theorem test_examples_sub :
    seen (fun s => (readReg s .d1 7#5 0, s.th.flags))
      (exec (.subRR true true 7#5 0#5 7#5) (regs [(.d1, 7#5, 1#32)])) =
      some (0xFFFFFFFF#32, ⟨false, true, false, true⟩) ∧
    seen (fun s => (readReg s .d0 7#5 0, s.th.flags))
      (exec (.subI16 true false 7#5 0x8000#16 true false) (regs [(.d0, 7#5, 0x7FFFFFFF#32)])) =
      some (0x80007FFF#32, ⟨false, true, true, true⟩) ∧
    seen (fun s => (readReg s .d0 7#5 0, s.th.flags))
      (exec (.subRX true false 7#5 7#5 0#2 7#3) (regs [(.a1, 7#5, 1#32)])) =
      some (0xFFFFFFFF#32, ⟨false, true, false, true⟩) ∧
    seen (fun s => (readReg s .a1 7#5 0, s.th.flags))
      (exec (.subCR false false 7#5 7#5 0#5 4#4 3#4)
        ((regs [(.d0, 7#5, 9#32), (.d0, 0#5, 4#32)]).setFlags onlyC)) =
      some (5#32, ⟨false, false, false, true⟩) ∧
    seen (fun s => (readReg s .a0 7#5 0, s.th.rdq))
      (exec (.subCX false false 7#5 7#5 2#2 0#3 3#4 0xB#4)
        (((regs [(.d0, 7#5, 0xA#32)]).setFlags noFlags).setRdq [3#64])) =
      some (7#32, []) ∧
    seen (fun s => readReg s .d0 7#5 0)
      (exec (.subUX8 false true 7#5 0#5 0xFF#8 1#4) (regs [(.d1, 0#5, 0x100#32)])) = some 1#32 ∧
    seen (fun s => (readReg s .d1 7#5 0, s.th.flags))
      (exec (.subCX8 false true 7#5 7#5 0x80#8 3#4) ((regs [(.d1, 7#5, 0x80#32)]).setFlags onlyC)) =
      some (0#32, ⟨false, false, false, true⟩) := by
  decide

/-- Worked examples of 40_core_gp_a.md R241, R242, R258, R259; 42_extended_gp_a.md R321, R322, R323, R324, R325,
R345. -/
theorem test_examples_address :
    seen (fun s => readReg s .a0 7#5 0)
      (exec (.addARR false 7#4 false 7#4 false 1#4) (regs [(.a0, 7#5, 0x1000#32), (.a0, 1#5, 0x24#32)])) =
      some 0x1024#32 ∧
    seen (fun s => readReg s .a0 1#5 0)
      (exec (.addAI16 false true 1#4 0x7FFF#16 false true) (State.reset.setPc 0x80001000#32)) = some 0xFFFF1000#32 ∧
    seen (fun s => readReg s .a1 7#5 0)
      (exec (.addARX true 7#4 false 7#4 1#2 7#3) (regs [(.a1, 7#5, 0x100#32), (.d0, 7#5, 0x23#32)])) =
      some 0x123#32 ∧
    seen (fun s => (s.th.pcx, s.th.pc))
      (exec (.addACR true 1#5 true 0#4 true 0#4 5#4 5#4) ((State.reset.setFlags onlyN).setPc 0x1000#32)) =
      some (0x2000#32, 0x1004#32) ∧
    seen (fun s => readReg s .d1 7#5 0)
      (exec (.addACX false 7#5 false 7#4 3#2 7#3 2#4 9#4) (regs [(.a0, 7#5, 8#32), (.d1, 7#5, 1#32)])) = some 9#32 ∧
    seen (fun s => readReg s .d0 7#5 0)
      (exec (.addAUX8 false 7#5 false 7#4 0x7F#8 1#4) (regs [(.a0, 7#5, 0xFFFFFFFF#32)])) = some 0x7E#32 ∧
    seen (fun s => readReg s .a1 7#5 0)
      (exec (.addACX8 true 7#5 false 7#4 0x80#8 3#4) ((regs [(.a1, 7#5, 0x80#32)]).setFlags onlyC)) = some 0x100#32 ∧
    seen (fun s => readReg s .a1 1#5 0)
      (exec (.movARR true 1#4 true 0#4) (State.reset.setPc 0x80000100#32)) = some 0x80000100#32 ∧
    seen (fun s => readReg s .a0 7#5 0)
      (exec (.movAI16 false false 7#4 0xFFFF#16 true false) State.reset) = some 0xFFFFFFFF#32 ∧
    seen (fun s => (readReg s .a0 3#5 0, s.th.rdq))
      (exec (.movARX false 3#4 2#2 0#3) (State.reset.setRdq [0x712345678#64])) = some (0x12345678#32, []) := by
  decide

/-- Worked examples of 41_core_gp_b.md R283, R284, R292, R293; 43_extended_gp_b.md R377, R386, R387, R388, R389,
R390. -/
theorem test_examples_address_2 :
    seen (fun s => readReg s .a0 7#5 0)
      (exec (.negARR false 7#4 false 7#4) (regs [(.a0, 7#5, 1#32)])) = some 0xFFFFFFFF#32 ∧
    seen (fun s => readReg s .a0 7#5 0)
      (exec (.negAI16 false false 7#4 0x7FFF#16 false true) State.reset) = some 0x80010000#32 ∧
    seen (fun s => readReg s .a1 3#5 0)
      (exec (.negARX true 3#4 1#2 2#3) (regs [(.d0, 2#5, 1#32)])) = some 0xFFFFFFFF#32 ∧
    seen (fun s => readReg s .a1 7#5 0)
      (exec (.subARR true 7#4 false 1#4 true 0#4) ((regs [(.a1, 1#5, 0x80001000#32)]).setPc 0x80000F00#32)) =
      some 0x100#32 ∧
    seen (fun s => readReg s .a0 7#5 0)
      (exec (.subAI16 false false 7#4 0x7FFF#16 false false) (regs [(.a0, 7#5, 0x10000#32)])) = some 0x8001#32 ∧
    seen (fun s => readReg s .a1 7#5 0)
      (exec (.subARX true 7#4 false 7#4 1#2 7#3) (regs [(.a1, 7#5, 0x100#32), (.d0, 7#5, 0x101#32)])) =
      some 0xFFFFFFFF#32 ∧
    seen (fun s => s.th.pcx)
      (exec (.subACR true 1#5 true 0#4 true 0#4 5#4 5#4)
        (((State.reset.setFlags onlyN).setPc 0x1000#32).setPcx 7#32)) =
      some 0#32 ∧
    seen (fun s => readReg s .d1 7#5 0)
      (exec (.subACX false 7#5 false 7#4 3#2 7#3 2#4 9#4) (regs [(.a0, 7#5, 8#32), (.d1, 7#5, 1#32)])) = some 7#32 ∧
    seen (fun s => readReg s .d0 7#5 0)
      (exec (.subAUX8 false 7#5 false 7#4 0x7F#8 1#4) (regs [(.a0, 7#5, 0x7E#32)])) = some 0xFFFFFFFF#32 ∧
    seen (fun s => readReg s .a0 7#5 0)
      (exec (.subACX8 false 7#5 true 0#4 0x80#8 0xE#4) ((State.reset.setFlags onlyZ).setPc 0x1000#32)) =
      some 0xF80#32 := by
  decide

/-- Worked examples of 45_shift.md R442, R443, R444. -/
theorem test_examples_shift :
    seen (fun s => (readReg s .d1 0#5 0, (s.th.flags.z, s.th.flags.n, s.th.flags.c)))
      (exec (.asrI5 true true 0#5 7#5 0x10#5) (regs [(.d1, 7#5, 0x80018000#32)])) =
      some (0xFFFF8001#32, (false, true, true)) ∧
    seen (fun s => (readReg s .d1 7#5 0, (s.th.flags.z, s.th.flags.n, s.th.flags.c)))
      (exec (.lslI5 true true 7#5 0#5 0x1F#5) (regs [(.d1, 0#5, 3#32)])) =
      some (0x80000000#32, (false, true, true)) ∧
    seen (fun s => (readReg s .d1 7#5 0, s.th.flags))
      (exec (.lsrI5 false true 7#5 0#5 0x1F#5) (regs [(.d1, 0#5, 0x80000000#32)])) =
      some (1#32, ⟨false, false, false, false⟩) ∧
    seen (fun s => readReg s .d0 0#5 0)
      (exec (.lsrRR false false 0#5 0#5 7#5) (regs [(.d0, 0#5, 0xF0#32), (.d0, 7#5, 0x24#32)])) = some 0xF#32 ∧
    seen (fun s => s.th.pc)
      (exec (.lslUI5 false true 0#5 7#5 0x10#5 5#4) (regs [(.d1, 7#5, 0x1234#32)])) = some 0x12340000#32 ∧
    seen (fun s => readReg s .d0 7#5 0)
      (exec (.asrUI5 false true 7#5 7#5 0xF#5 1#4) (regs [(.d1, 7#5, 0xFFFF0000#32)])) = some 0xFFFFFFFE#32 ∧
    seen (fun s => readReg s .d0 0#5 0)
      (exec (.asrCI5 false false 0#5 0#5 0x1F#5 0xE#4) ((regs [(.d0, 0#5, 0x80000000#32)]).setFlags onlyZ)) =
      some 0xFFFFFFFF#32 ∧
    seen (fun s => readReg s .d0 0#5 0)
      (exec (.asrCI5 false false 0#5 0#5 0x1F#5 0xE#4) ((regs [(.d0, 0#5, 0x80000000#32)]).setFlags noFlags)) =
      some 0x80000000#32 := by
  decide

/-- Worked examples of 41_core_gp_b.md R281, R282; 43_extended_gp_b.md R370, R371, R372, R373, R374, R375, R376. -/
theorem test_examples_multiply :
    seen (fun s => readReg s .d0 7#5 0)
      (exec (.mulwRR false 7#5 7#5 0#5) (regs [(.d0, 7#5, 0x1FFFF#32), (.d0, 0#5, 3#32)])) = some 0x2FFFD#32 ∧
    seen (fun s => readReg s .d1 0#5 0)
      (exec (.muldRR true 0#5 0#5 0#5) (regs [(.d1, 0#5, 0x10000#32)])) = some 0#32 ∧
    seen (fun s => readReg s .d1 7#5 0)
      (exec (.muldI16 true 7#5 0x7FFF#16 false false) (regs [(.d1, 7#5, 2#32)])) = some 0xFFFE#32 ∧
    seen (fun s => (readReg s .d1 7#5 0, s.th.rdq))
      (exec (.mulwRX true 7#5 7#5 2#2 0#3) ((regs [(.d1, 7#5, 0x20003#32)]).setRdq [0x10004#64])) =
      some (0xC#32, []) ∧
    seen (fun s => readReg s .a0 7#5 0)
      (exec (.muldUR false 7#5 7#5 7#5 3#4) (regs [(.d0, 7#5, 0xFFFFFFFF#32)])) = some 1#32 ∧
    seen (fun s => readReg s .a0 7#5 0)
      (exec (.muldUX true 7#5 7#5 1#2 7#3 3#4) (regs [(.d1, 7#5, 6#32), (.d0, 7#5, 7#32)])) = some 0x2A#32 ∧
    seen (fun s => readReg s .a0 7#5 0)
      (exec (.mulwUX8 true 7#5 0#5 0x80#8 3#4) (regs [(.d1, 0#5, 0x10002#32)])) = some 0x100#32 ∧
    seen (fun s => readReg s .d0 7#5 0)
      (exec (.muldCR false 7#5 7#5 7#5 1#4) ((regs [(.d0, 7#5, 5#32)]).setFlags onlyZ)) = some 0x19#32 ∧
    seen (fun s => (readReg s .d1 7#5 0, s.th.rdq))
      (exec (.mulwCX true 7#5 0#5 2#2 0#3 0xF#4) ((regs [(.d1, 7#5, 8#32)]).setRdq [9#64])) = some (8#32, []) ∧
    seen (fun s => readReg s .d0 7#5 0)
      (exec (.muldCX8 false 7#5 7#5 0x80#8 0xB#4) (regs [(.d0, 7#5, 3#32)])) = some 0x180#32 := by
  decide

/-- Worked examples of 44_data_unit_extended.md R421, R422, R423, R424, R425, R426, R427, R428, R429, R430. -/
theorem test_examples_extended :
    seen (fun s => (readReg s .d0 7#5 0, s.th.flags))
      (exec (.absRR false 7#5 0#5) (regs [(.d0, 0#5, 0xFFFFFFFB#32)])) = some (5#32, ⟨false, false, false, false⟩) ∧
    seen (fun s => (readReg s .d0 7#5 0, s.th.flags))
      (exec (.absRR false 7#5 0#5) (regs [(.d0, 0#5, 5#32)])) = some (5#32, ⟨false, true, true, true⟩) ∧
    seen (fun s => (readReg s .d0 7#5 0, s.th.flags))
      (exec (.ffbRR false 7#5 0#5) (regs [(.d0, 0#5, 0x12345#32)])) = some (0x10#32, ⟨false, false, false, false⟩) ∧
    seen (fun s => (readReg s .d0 7#5 0, (s.th.flags.z, s.th.flags.n)))
      (exec (.ffbRR false 7#5 0#5) State.reset) = some (0xFFFFFFFF#32, (true, false)) ∧
    seen (fun s => (readReg s .d1 0#5 0, s.th.flags))
      (exec (.maxRR true 0#5 7#5 3#5) (regs [(.d1, 7#5, 0xFFFFFFFF#32), (.d1, 3#5, 2#32)])) =
      some (2#32, ⟨false, true, false, false⟩) ∧
    seen (fun s => (readReg s .d1 0#5 0, s.th.flags))
      (exec (.minRR true 0#5 7#5 3#5) (regs [(.d1, 7#5, 0xFFFFFFFF#32), (.d1, 3#5, 2#32)])) =
      some (0xFFFFFFFF#32, ⟨false, true, false, false⟩) ∧
    seen (fun s => readReg s .d0 0#5 0)
      (exec (.mortRR false 0#5 7#5 0#5) (regs [(.d0, 7#5, 0xFFFF#32)])) = some 0x55555555#32 ∧
    seen (fun s => (readReg s .d0 0#5 0, (s.th.flags.z, s.th.flags.n), s.th.rdq))
      (exec (.mortRX false 0#5 7#5 2#2 0#3) ((regs [(.d0, 7#5, 1#32)]).setRdq [1#64])) =
      some (3#32, (true, false), []) ∧
    seen (fun s => readReg s .d0 0#5 0)
      (exec (.nminRR false 0#5 7#5 0#5) (regs [(.d0, 7#5, 0x100#32), (.d0, 0#5, 0xC#32)])) = some 0xC#32 ∧
    seen (fun s => readReg s .d0 0#5 0)
      (exec (.nminRR false 0#5 7#5 0#5) (regs [(.d0, 7#5, 0x100#32), (.d0, 0#5, 0x1E#32)])) = some 0x16#32 ∧
    seen (fun s => readReg s .d1 0#5 0)
      (exec (.normRR true 0#5 7#5) (regs [(.d1, 7#5, 0xFFFF0000#32)])) = some 0xF#32 ∧
    seen (fun s => readReg s .d1 0#5 0) (exec (.normRR true 0#5 7#5) (regs [(.d1, 7#5, 1#32)])) = some 0x1E#32 ∧
    seen (fun s => (readReg s .d0 2#5 0, s.th.flags))
      (exec (.vpackRR false 2#5 1#5 0#5) (regs [(.d0, 1#5, 0x11112222#32), (.d0, 0#5, 0x33334444#32)])) =
      some (0x44442222#32, ⟨false, true, false, true⟩) ∧
    seen (fun s => readReg s .d1 7#5 0)
      (exec (.vpackRX true 7#5 0#5 1#2 5#3) (regs [(.d1, 0#5, 0xBEEF#32), (.d0, 5#5, 0xDEAD#32)])) =
      some 0xDEADBEEF#32 := by
  decide

/-- Worked examples of 40_core_gp_a.md R250, R251, R254; 42_extended_gp_a.md R336, R337, R338; 41_core_gp_b.md R299,
R300, R301; 43_extended_gp_b.md R396, R397, R398. -/
theorem test_examples_compare :
    seen (fun s => s.th.flags)
      (exec (.cmpRR true 0#5 7#5) (regs [(.d1, 0#5, 1#32), (.d1, 7#5, 2#32)])) = some ⟨false, true, false, true⟩ ∧
    seen (fun s => s.th.flags)
      (exec (.cmpI16 false 7#5 0xFFFF#16 false true false) (regs [(.d0, 7#5, 0xFFFFFFFF#32)])) =
      some ⟨true, false, false, false⟩ ∧
    seen (fun s => (s.th.flags, s.th.rdq))
      (exec (.cmpRX false 0#5 2#2 0#3) ((regs [(.d0, 0#5, 5#32)]).setRdq [5#64])) =
      some (⟨true, false, false, false⟩, []) ∧
    seen (fun s => s.th.flags)
      (exec (.cmpCR false 0#5 0#5 3#4) (State.reset.setFlags onlyC)) = some ⟨true, false, false, false⟩ ∧
    seen (fun s => (s.th.flags, s.th.rdq))
      (exec (.cmpCX false 0#5 2#2 0#3 7#4) ((State.reset.setFlags onlyN).setRdq [9#64])) =
      some (⟨false, true, false, false⟩, []) ∧
    seen (fun s => s.th.flags)
      (exec (.cmpCX8 true 0#5 0x7F#8 0xB#4) (regs [(.d1, 0#5, 0x7E#32)])) = some ⟨false, true, false, true⟩ ∧
    seen (fun s => (s.th.flags.z, s.th.flags.n))
      (exec (.tstRR true 0#5 7#5) (regs [(.d1, 0#5, 0xF0#32), (.d1, 7#5, 0xF#32)])) = some (true, false) ∧
    seen (fun s => (s.th.flags.z, s.th.flags.n))
      (exec (.tstI16 true 0#5 0x8000#16 false false true) (regs [(.d1, 0#5, 0x80000000#32)])) = some (false, true) ∧
    seen (fun s => (s.th.flags.z, s.th.flags.n))
      (exec (.tstRX false 7#5 0#2 7#3) (regs [(.d0, 7#5, 0x80000000#32), (.a1, 7#5, 0xFFFFFFFF#32)])) =
      some (false, true) ∧
    seen (fun s => (s.th.flags.z, s.th.flags.n))
      (exec (.tstCR true 0#5 7#5 5#4) ((regs [(.d1, 0#5, 0xF0#32), (.d1, 7#5, 0xF#32)]).setFlags onlyN)) =
      some (true, false) ∧
    seen (fun s => (s.th.flags, s.th.pc))
      (exec (.tstCX false 0#5 1#2 7#3 0xF#4) ((regs [(.d1, 7#5, 0xF#32)]).setFlags onlyN)) =
      some (⟨false, true, false, false⟩, 4#32) ∧
    seen (fun s => (s.th.flags.z, s.th.flags.n))
      (exec (.tstCX8 true 0#5 0x7F#8 0xB#4) (regs [(.d1, 0#5, 0x80#32)])) = some (true, false) := by
  decide

/-- Worked examples of 40_core_gp_a.md R247, R248, R249, R253; 46_long_gp_a.md R452, R465; 41_core_gp_b.md R287,
R290, R295, R298. -/
theorem test_examples_control :
    seen (fun s => s.th.pc) (exec (.branch 0x7FFFF#19 false) (State.reset.setPc 0x1000#32)) = some 0xFFC#32 ∧
    seen (fun s => (s.th.pc, s.ctCell .txrpt))
      (exec (.branchCc 0x7FFF0#19 2#4 true)
        (((State.reset.setFlags onlyZ).setPc 0x1000#32).setCtCell .txrpt 2#32)) =
      some (0x1004#32, 1#32) ∧
    seen (fun s => (readReg s .d1 0#5 0, s.th.pc))
      (exec (.callr 0x10#19 2#2 0#3) (State.reset.setPc 0x2000#32)) = some (0x2004#32, 0x2040#32) ∧
    seen (fun s => (s.th.pc, readReg s .d1 4#5 0))
      (exec (.call 4#5 0x1234#16 2#2) ((regs [(.d1, 4#5, 0x80020000#32)]).setPc 0x1000#32)) =
      some (0x80021234#32, 0x1004#32) ∧
    seen (fun s => (s.th.pc, readReg s .d0 7#5 0))
      (exec (.jump 7#5 0x8000#16 1#2) (regs [(.d0, 7#5, 0x40000000#32)])) = some (0x40008000#32, 0x40000000#32) ∧
    seen (fun s => s.th.pc) (exec .nop (State.reset.setPc 0x100#32)) = some 0x104#32 ∧
    seen (fun s => (s.th.istat, s.th.pc)) (exec .rth (State.reset.setPc 0x200#32)) = some (true, 0x204#32) ∧
    seen (fun s => (s.th.pc, s.th.pcx, s.th.istat))
      (exec .rti (((State.reset.setPc 0x1000#32).setPcx 0x80004444#32).setIstat true)) =
      some (0x80004444#32, 0x1004#32, false) ∧
    seen (fun s => (s.th.pc, s.th.runState, s.th.lastException))
      (exec (.switch 0xFFFFFF#24) (State.reset.setPc 0x300#32)) =
      some (0x300#32, .halted, some (.switchException 0xFFFFFF#24)) ∧
    seen (fun s => (s.volOwner, s.globOwner)) (exec .lock1 State.reset) = some (some 0, none) ∧
    seen (fun s => (s.volOwner, s.th.runState, s.th.pc))
      (exec .lock1 { State.reset with volOwner := some 1 }) = some (some 1, .blocked .lock, 0#32) := by
  decide

/-- Worked examples of 40_core_gp_a.md R261; 47_long_gp_b.md R496, R502, R492, R494, R495; 41_core_gp_b.md R297;
49_trace_ops.md R550, R551, R552. -/
theorem test_examples_move :
    seen (fun s => s.th.pc)
      (exec (.movUnit 0#5 3#5 2#4 5#4) (regs [(.d1, 3#5, 0x80002000#32)])) = some 0x80002000#32 ∧
    seen (fun s => (s.ctCell .txenable, s.emitted))
      (exec (.movUnitCc 0#5 7#5 3#4 0#4 1#4) ((regs [(.a0, 7#5, 1#32)]).setFlags onlyZ)) =
      some (1#32, [.ctWrite 0 0#5 1#32]) ∧
    seen (fun s => (s.ctCell .txenable, s.emitted))
      (exec (.movUnitCc 0#5 7#5 3#4 0#4 1#4) ((regs [(.a0, 7#5, 1#32)]).setFlags noFlags)) = some (0#32, []) ∧
    seen (fun s => (readReg s .a0 7#5 0, readReg s .d0 1#5 0))
      (exec (.swap 1#5 7#5 3#4 1#4) (regs [(.a0, 7#5, 1#32), (.d0, 1#5, 2#32)])) = some (2#32, 1#32) ∧
    seen (fun s => (s.th.pc, readReg s .a1 7#5 0))
      (exec (.swapCc 0#5 7#5 4#4 5#4 4#4) ((regs [(.a1, 7#5, 0x2000#32)]).setPc 0x1000#32)) =
      some (0x2000#32, 0x1004#32) ∧
    seen (fun s => (s.th.pc, readReg s .a1 7#5 0))
      (exec (.swapCc 0#5 7#5 4#4 5#4 4#4) (((regs [(.a1, 7#5, 0x2000#32)]).setFlags onlyC).setPc 0x1000#32)) =
      some (0x1004#32, 0x2000#32) ∧
    seen (fun s => s.ctCell .txrpt) (exec (.movCt 3#5 0x28#16 false false) State.reset) = some 40#32 ∧
    seen (fun s => s.ttCell .ttmark) (exec (.movTt 2#5 0x8000#16 false false) State.reset) = some 0x8000#32 ∧
    seen (fun s => (readReg s .d0 4#5 0, s.th.ttrec))
      (exec (.ttmov 4#5 1#5 3#4 1#4 0#4) (regs [(.a0, 1#5, 0x803F00#32)])) =
      some (0x803F00#32, [⟨32, 0x803F00#64⟩]) ∧
    seen (fun s => s.th.ttrec)
      (exec (.movlTtrec 7#5 7#5 2#2 3#4)
        ((regs [(.d1, 7#5, 0x11111111#32), (.d0, 7#5, 0x22222222#32)]).setFlags onlyC)) =
      some [⟨64, 0x2222222211111111#64⟩] ∧
    seen (fun s => (readReg s .d1 7#5 0, readReg s .d0 7#5 0, s.th.rdq))
      (exec (.movlRd 7#5 7#5 2#2 5#4) ((State.reset.setFlags onlyN).setRdq [0x2222222211111111#64])) =
      some (0x11111111#32, 0x22222222#32, []) ∧
    seen (fun s => (readReg s .a0 7#5 0, s.th.rdq))
      (exec (.movbRd 7#5 3#4 0xD#4) (State.reset.setRdq [0xDEADBEEF#64])) = some (0xEF#32, []) := by
  decide

/-- Worked examples of 46_long_gp_a.md R466, R460. -/
theorem test_examples_trigger :
    seen (fun s => (readReg s .d0 0#5 0, s.th.kickCount))
      (exec (.kick 0#5 0#5 1#4 0#4) (State.reset.setKick 3)) = some (0x20002#32, 2) ∧
    seen (fun s => (readReg s .d0 0#5 0, s.th.pc))
      (exec (.kick 0#5 6#5 1#4 0#4) ((regs [(.d0, 0#5, 9#32)]).setIstat true)) = some (0#32, 4#32) ∧
    seen (fun s => (readReg s .d0 0#5 0, s.th.pc, s.th.runState))
      (exec (.kick 0#5 0#5 1#4 0#4) (regs [(.d0, 0#5, 9#32)])) = some (9#32, 0#32, .blocked .trigger) ∧
    seen (fun s => (readReg s .d1 0#5 0, s.th.txdefr0))
      (exec (.defr 0#5 0#5 2#4 0#4)
        { State.reset with th := { State.reset.th with txdefr0 := 0x02001234#32, trig0 := 1#16, txmask := 1#32 } }) =
      some (0x2000001#32, 0x1234#32) := by
  decide

/-- Worked examples of 46_long_gp_a.md R451; 47_long_gp_b.md R497, R505, R506. -/
theorem test_examples_shuffle :
    seen (fun s => readReg s .d0 0#5 0)
      (exec (.bexd 0#5 7#5 false false) (regs [(.d0, 7#5, 0x11223344#32)])) = some 0x44332211#32 ∧
    seen (fun s => (readReg s .d1 7#5 0, readReg s .d0 7#5 0))
      (exec (.bexl 7#5 7#5 true false) (regs [(.d0, 7#5, 0x55667788#32), (.d1, 7#5, 0x11223344#32)])) =
      some (0x44332211#32, 0x88776655#32) ∧
    seen (fun s => (readReg s .d0 0#5 0, (s.th.flags.z, s.th.flags.n)))
      (exec (.rtdw 0#5 7#5 true false) (regs [(.d0, 7#5, 0x12348765#32)])) = some (0x87651234#32, (false, true)) ∧
    seen (fun s => (readReg s .d0 0#5 0, (s.th.flags.z, s.th.flags.n)))
      (exec (.xsdb 0#5 7#5 true false) (regs [(.d0, 7#5, 0x12345680#32)])) = some (0xFFFFFF80#32, (false, true)) ∧
    seen (fun s => (readReg s .d0 0#5 0, (s.th.flags.z, s.th.flags.n)))
      (exec (.xsdw 0#5 7#5 true false) (regs [(.d0, 7#5, 0xFFFF0000#32)])) = some (0#32, (true, false)) := by
  decide

/-- Worked examples of 40_core_gp_a.md R252, R255; 42_extended_gp_a.md R340, R341; 46_long_gp_a.md R461, R462, R467,
R468. -/
theorem test_examples_load :
    seen (fun s => readReg s .a0 1#5 0)
      (exec (.getdShort 1#5 0#5 0x3C#6 false 3#4 false)
        (words [(0x3000, 0xCAFE0001#32)] (regs [(.a0, 0#5, 0x3010#32)]))) =
      some 0xCAFE0001#32 ∧
    seen (fun s => (readReg s .a0 7#5 0, readReg s .a1 7#5 0, readReg s .d1 0#5 0))
      (exec (.getlI6 7#5 0#5 0x3F#6 true 2#2 3#4 true)
        (words [(0x2000, 0x11111111#32), (0x2004, 0x22222222#32)] (regs [(.d1, 0#5, 0x2000#32)]))) =
      some (0x11111111#32, 0x22222222#32, 0x1FF8#32) ∧
    seen (fun s => (readReg s .d0 0#5 0, readReg s .d0 7#5 0))
      (exec (.getdI6 0#5 7#5 0x20#6 true 1#2 1#4 true)
        (words [(0x3000, 0xDEADBEEF#32)] (regs [(.d0, 7#5, 0x3000#32)]))) =
      some (0xDEADBEEF#32, 0x2F80#32) ∧
    seen (fun s => (readReg s .d0 7#5 0, readReg s .d1 7#5 0))
      (exec (.getlS12 7#5 0x7FF#12 0#2 1#2 1#1)
        (words [(0x13FF8, 0x4030201#32), (0x13FFC, 0x8070605#32)] (regs [(.a1, 1#5, 0x10000#32)]))) =
      some (0x4030201#32, 0x8070605#32) ∧
    seen (fun s => readReg s .d0 7#5 0)
      (exec (.getdS12 7#5 0x800#12 1#2 1#2 0#1)
        (words [(0x7000, 0xDEADBEEF#32)] (regs [(.d0, 0#5, 0x9000#32)]))) =
      some 0xDEADBEEF#32 ∧
    seen (fun s => (readReg s .d1 0#5 0, readReg s .d1 7#5 0, readReg s .a1 7#5 0))
      (exec (.mgetd 0#5 7#5 0x40#7 0#2 2#2)
        (words [(0x4000, 0x11#32), (0x4004, 0x22#32)] (regs [(.a1, 7#5, 0x4000#32)]))) =
      some (0x11#32, 0x22#32, 0x4008#32) ∧
    seen (fun s => (readReg s .d1 1#5 0, readReg s .d0 1#5 0, s.th.linkFlag))
      (exec (.lnkgetl 1#5 7#5 0#2 2#2) (words [(0x8000, 1#32), (0x8004, 2#32)] (regs [(.a1, 7#5, 0x8000#32)]))) =
      some (1#32, 2#32, true) ∧
    seen (fun s => (readReg s .d0 0#5 0, s.th.linkFlag, s.th.linkAddr))
      (exec (.lnkgetd 0#5 3#5 2#2 1#2) (regs [(.d1, 3#5, 0x6000#32), (.d0, 0#5, 9#32)])) =
      some (0#32, true, some ⟨0x6000#32, 0x6000#32, .d⟩) := by
  decide

/-- Worked examples of 41_core_gp_b.md R291; 43_extended_gp_b.md R384, R385; 47_long_gp_b.md R498, R499, R500, R501;
40_core_gp_a.md R256. -/
theorem test_examples_store :
    seen (fun s => (wordAt s 0x5FFC, readReg s .a0 0#5 0))
      (exec (.setdShort 0#5 0#5 0x3F#6 true 1#4 false) (regs [(.a0, 0#5, 0x6000#32), (.d0, 0#5, 7#32)])) =
      some (0x7, 0x5FFC#32) ∧
    seen (fun s => (wordAt s 0x4000, wordAt s 0x4004, readReg s .d0 0#5 0))
      (exec (.setlI6 0#5 0#5 2#6 true 1#2 2#4 true) (regs [(.d0, 0#5, 0x4000#32), (.d1, 0#5, 0xBBBBBBBB#32)])) =
      some (0xBBBBBBBB, 0x4000, 0x4010#32) ∧
    seen (fun s => (wordAt s 0x5004, readReg s .a1 1#5 0))
      (exec (.setwR 3#5 1#5 7#5 false 0#2 1#4 false)
        (regs [(.a1, 1#5, 0x5000#32), (.a1, 7#5, 4#32), (.d0, 3#5, 0x11223344#32)])) =
      some (0x3344, 0x5000#32) ∧
    seen (fun s => (wordAt s 0x9000, wordAt s 0x9004))
      (exec (.setlS12 1#5 0xFFF#12 2#2 0#2 0#1)
        (regs [(.d1, 0#5, 0x9008#32), (.a1, 1#5, 0xAABBCCDD#32), (.a0, 1#5, 0x11223344#32)])) =
      some (0xAABBCCDD, 0x11223344) ∧
    seen (fun s => wordAt s 0x7000)
      (exec (.setdS12 7#5 0x800#12 1#2 0#2 0#1) (regs [(.d0, 0#5, 0x9000#32), (.a1, 7#5, 0xCAFEF00D#32)])) =
      some 0xCAFEF00D ∧
    seen (fun s => (wordAt s 0x7000, wordAt s 0x7004))
      (exec (.setlCc 7#5 7#5 1#4 1#2 0xB#4) (regs [(.d0, 7#5, 0x7000#32), (.d1, 7#5, 5#32)])) = some (0x7000, 0x5) ∧
    seen (fun s => wordAt s 0x7000)
      (exec (.setdCc 7#5 7#5 1#4 1#2 3#4) ((regs [(.d0, 7#5, 0x7000#32)]).setFlags onlyC)) = some 0x7000 ∧
    seen (fun s => (wordAt s 0x100, s.th.pc))
      (exec (.setwCc 7#5 1#5 1#4 3#2 0xF#4)
        ((regs [(.d0, 7#5, 0x7000#32), (.a0, 1#5, 0x100#32)]).setFlags onlyC)) =
      some (0x0, 4#32) ∧
    seen (fun s => (wordAt s 0x5000, wordAt s 0x5004, wordAt s 0x5008, wordAt s 0x500C, readReg s .a0 0#5 0))
      (exec (.msetl 2#5 0#5 1#7 3#2 2#2)
        (regs [(.a0, 0#5, 0x5000#32), (.d1, 2#5, 0xA#32), (.d0, 2#5, 0xB#32), (.d1, 3#5, 0xC#32), (.d0, 3#5, 0xD#32)])) =
      some (0xA, 0xB, 0xC, 0xD, 0x5010#32) := by
  decide

/-- Worked examples of 42_extended_gp_a.md R342, R343, R344, R347; 47_long_gp_b.md R493, R504; 46_long_gp_a.md R457,
R458. -/
theorem test_examples_pipeline :
    seen (fun s => s.th.rdq) (exec (.mdrd 3#7) (State.reset.setRdq [1#64, 2#64, 3#64, 4#64])) = some [4#64] ∧
    seen (fun s => (readReg s .d0 0#5 0, readReg s .d1 0#5 0, readReg s .d0 1#5 0, readReg s .d1 1#5 0))
      (exec (.mmovlRd 0#5 1#7 1#2) (State.reset.setRdq [0x200000001#64, 0x400000003#64])) =
      some (1#32, 2#32, 3#32, 4#32) ∧
    seen (fun s => (s.th.rdq, readReg s .a1 1#5 0))
      (exec (.mmovdRa 0x10#5 1#5 1#7 0#2)
        (words [(0x8000, 5#32), (0x8004, 6#32)] (regs [(.a1, 1#5, 0x8000#32)]))) =
      some ([5#64, 6#64], 0x8008#32) ∧
    seen (fun s => (s.th.rdq, readReg s .a1 1#5 0))
      (exec (.movbRaI6 1#5 0x1F#6 true 0#2 false 0x18#5)
        (words [(0x11C, 0x80000000#32)] (regs [(.a1, 1#5, 0x100#32)]))) =
      some ([0x80#64], 0x11F#32) ∧
    seen (fun s => s.th.rdq)
      (exec (.movbRaS12 0x1C#5 0xFFF#12 3#2 1#1)
        (words [(0x4FFC, 0x80000000#32)] (regs [(.a0, 1#5, 0x5000#32)]))) =
      some [0xFFFFFFFFFFFFFF80#64] ∧
    seen (fun s => (wordAt s 0x2000, s.th.rdq, readReg s .d0 2#5 0, readReg s .a0 2#5 0, s.th.pc, s.ctCell .txrpt))
      (exec (.xfrd13 true true true 2#5 3#5 2#5 3#5)
        (((words [(0x1004, 2#32)] (
          regs [(.a0, 2#5, 0x1004#32), (.a0, 3#5, 4#32), (.d0, 2#5, 0x2000#32), (.d0, 3#5, 4#32)])).setRdq [1#64]).setCtCell .txrpt 2#32)) =
      some (0x1, [2#64], 0x2004#32, 0x1008#32, 0#32, 1#32) ∧
    seen (fun s => s.emitted)
      (exec (.cpwlRR 1#2 7#3 7#5 7#5) (regs [(.d0, 7#5, 0x11111111#32), (.d1, 7#5, 0x22222222#32)])) =
      some [.cpWrite 0 7#3 0x2222222211111111#64] ∧
    seen (fun s => s.emitted)
      (exec (.cpwlRI 1#2 0#3 7#5 0x7FFF#16) (regs [(.d0, 7#5, 0x11111111#32)])) =
      some [.cpWrite 0 0#3 0x00007FFF11111111#64] ∧
    seen (fun s => (s.th.rdq, readReg s .a0 1#5 0, s.emitted))
      (exec (.cpwlMemI8 3#2 0#3 1#5 1#8 false true true)
        ((words [(0x4000, 0xBBBBBBBB#32)] (regs [(.a0, 1#5, 0x4000#32)])).setRdq [0xAAAAAAAA#64])) =
      some ([0xBBBBBBBB#64], 0x4008#32, [.cpWrite 0 0#3 0xAAAAAAAA#64]) := by
  decide

/-- Worked examples of 48_cache_ops.md R533, R534, R535, R538, R536. -/
theorem test_examples_cache :
    seen (fun s => readReg s .d0 0#5 0)
      (exec (.cacherd 0#5 3#5 0#6 2#2 1#2) (regs [(.d1, 3#5, 0x80002000#32)])) = some 0x80002000#32 ∧
    seen (fun s => s.emitted)
      (exec (.cachewl 7#5 0#5 9#6 2#2 2#2) (regs [(.d1, 0#5, 0x10000#32), (.d1, 7#5, 1#32)])) =
      some [.flush 0 (.cache true false) 0x10240#32 (some .l)] ∧
    seen (fun s => s.emitted)
      (exec (.cachewd 7#5 0#5 2#6 2#2 1#2) (regs [(.d1, 0#5, 0x20000#32), (.d0, 7#5, 2#32)])) =
      some [.flush 0 (.cache false true) 0x20080#32 (some .d)] ∧
    seen (fun s => s.emitted)
      (exec (.dcache 0#5 0#5 0x1F#6 2#2 2#2) State.reset) = some [.flush 0 .dataLine 0x7C0#32 none] ∧
    seen (fun s => (s.th.pc, s.emitted))
      (exec (.icache 0x7FFF#15 6#4 false) (State.reset.setPc 0x10040#32)) =
      some (0x10044#32, [.prefetch 0 0x10000#32 6#4 false]) := by
  decide

/-! ## States that meet the hypotheses of the statements -/

/-- Nothing is mapped for thread 0. -/
def unmapped : State := { State.reset with xlat := [⟨0, 0, 2 ^ 32, none, 0#32, 0#32⟩] }

/-- Nothing is mapped, and failures are deferred. -/
def deferredFailures : State := { unmapped with cfg := { State.reset.cfg with memErrorMode := .deferred } }

/-- The first 64 bytes belong to device 7. -/
def withDevice : State := { State.reset with cfg := { State.reset.cfg with memMap := [⟨0, 64, .device 7⟩] } }

/-- The read pipeline is full. -/
def fullQueue : State := queue (List.replicate 8 1#64)

/-- The trigger of a level is active in its mask. -/
def triggered : State :=
  { State.reset with th := { State.reset.th with
      trig0 := 0x8000#16, txmask := 0x8000#32, trig1 := 0x1#16, txmaski := 0x1#32 } }

/-- A coprocessor of each kind of state: without DSP registers and without MORT and VPACK. -/
def smallCore : State := { State.reset with cfg := { State.reset.cfg with dspRegs := false, hasMortVpack := false } }

theorem popped_queue (e : DWord) (l : List DWord) : Popped (queue (e :: l)) (queue l) e := ⟨rfl, rfl⟩

theorem accessible_reset : Accessible State.reset 0 64#32 .d ∧ Accessible State.reset 1 0xFFFFFFF8#32 .l ∧
    Accessible State.reset 3 0#32 .l ∧ Accessible State.reset 1 0xFFFFFFFF#32 .b :=
  ⟨⟨⟨rfl, rfl⟩, rfl, .inl (by decide)⟩, ⟨⟨rfl, rfl⟩, rfl, .inl (by decide)⟩, ⟨⟨rfl, rfl⟩, rfl, .inl (by decide)⟩,
    ⟨⟨rfl, rfl⟩, rfl, .inl (by decide)⟩⟩

theorem accessible_deferred : Accessible deferredFailures 0 64#32 .d ∧ deferredFailures.target 0 64#32 = none ∧
    Accessible withDevice 0 60#32 .d ∧ withDevice.target 0 60#32 = some (.device 7 60#32) ∧
    withDevice.target 0 64#32 = some (.ram 64#32) :=
  ⟨⟨⟨rfl, rfl⟩, rfl, .inr rfl⟩, by decide, ⟨⟨rfl, rfl⟩, rfl, .inl (by decide)⟩, rfl, rfl⟩

theorem faults_unmapped : Faults unmapped 0 0#32 .d ∧ Faults unmapped 1 0xFFFFFFF8#32 .l ∧ Faults unmapped 3 0#32 .l :=
  ⟨⟨⟨rfl, rfl⟩, rfl, by decide, rfl⟩, ⟨⟨rfl, rfl⟩, rfl, by decide, rfl⟩, ⟨⟨rfl, rfl⟩, rfl, by decide, rfl⟩⟩

theorem not_port {s : State} {u : BitVec 4} {n : BitVec 5} {v : Word} (h : u ≠ 6#4) : CanWrite s u n v :=
  fun e => absurd e h

theorem port_free : CanWrite State.reset 6#4 16#5 0#32 :=
  fun _ _ => ⟨by decide, ⟨rfl, rfl⟩, rfl, .inl (by decide)⟩

theorem port_waits : WriteWaits fullQueue 6#4 16#5 ∧ WriteWaits fullQueue 6#4 31#5 :=
  ⟨⟨rfl, by decide, by decide⟩, rfl, by decide, by decide⟩

theorem port_faults : WriteFaults unmapped 6#4 16#5 0#32 :=
  ⟨rfl, by decide, fun h => absurd h.2.2 (by decide), ⟨rfl, rfl⟩, rfl, by decide, rfl⟩

/-- Register A1.0 holds an odd address. -/
def odd : State := regs [(.a1, 0#5, 1#32)]

theorem port_strays : WriteStrays State.reset 6#4 30#5 1#32 :=
  ⟨rfl, by decide, fun h => absurd h.2.2 (by decide), ⟨rfl, rfl⟩, by decide⟩

theorem status_waits : ReadWaits State.reset 7#4 0#5 ∧ ReadWaits State.reset 7#4 2#5 :=
  ⟨⟨rfl, .inl ⟨rfl, fun b _ h => absurd h.1 (by simp [State.reset, Thread.start])⟩⟩,
    ⟨rfl, .inr ⟨rfl, fun b _ h => absurd h.1 (by simp [State.reset, Thread.start])⟩⟩⟩

theorem status_triggered : Triggered triggered false 15 ∧ Triggered triggered true 0 ∧
    ¬ ReadWaits triggered 7#4 0#5 ∧ ¬ ReadWaits triggered 7#4 2#5 := by
  have h0 : Triggered triggered false 15 := ⟨by decide, by decide⟩
  have h1 : Triggered triggered true 0 := ⟨by decide, by decide⟩
  refine ⟨h0, h1, ?_, ?_⟩
  · rintro ⟨_, ⟨_, h⟩ | ⟨h, _⟩⟩
    · exact h 15 (by decide) h0
    · cases h
  · rintro ⟨_, ⟨h, _⟩ | ⟨_, h⟩⟩
    · cases h
    · exact h 0 (by decide) h1

theorem no_wait {s : State} {u : BitVec 4} {n : BitVec 5} (h : u ≠ 7#4) : ¬ ReadWaits s u n := fun e => h e.1

theorem can_read {s : State} {u : BitVec 4} {n : BitVec 5} (h7 : u ≠ 7#4) (h6 : u ≠ 6#4) : CanRead s u n :=
  ⟨fun h => h7 h.1, fun h => h6 h.1⟩

theorem empty_underflows : ReadUnderflows State.reset 6#4 16#5 ∧ CanRead (queue [1]) 6#4 16#5 ∧
    CanRead State.reset 6#4 0#5 :=
  ⟨⟨rfl, rfl, rfl⟩, ⟨no_wait (by decide), fun h => absurd h.2.2 (by decide)⟩, no_wait (by decide),
    fun h => absurd h.2.1 (by decide)⟩

/-- A false and a true condition. -/
theorem conditions : cond State.reset.th.flags 15#4 = false ∧ cond State.reset.th.flags 1#4 = false ∧
    cond State.reset.th.flags 0#4 = true ∧ cond State.reset.th.flags 2#4 = true := by decide

/-- Every clause of an arithmetic effect: an empty pipeline, a false and a true condition, and a destination that can be
written, that waits and that faults. -/
theorem witness_DataUnitOperations :
    (DataUnitForm (.addCX true false 1#5 2#5 2#2 0#3 6#4 0#4) (toUnit .add true false 6#4 1#5 0#4 (.reg 2#5) (.rep 2#2 0#3)) ∧
      State.reset.th.rdq = []) ∧
    (DataForm State.reset (.addRX true false 1#5 2#5 1#2 7#3) (inUnit .add true false 1#5 0#4 (.reg 2#5) (.rep 1#2 7#3)) ∧
      Second State.reset .d0 (.rep 1#2 7#3) 0#32 State.reset ∧ CanWrite State.reset 1#4 1#5 0#32) ∧
    (DataForm State.reset (.subCX8 true true 31#5 0#5 255#8 15#4)
      (inUnit .sub true true 31#5 15#4 (.reg 0#5) (.imm ((255#8).setWidth 32))) ∧
      cond State.reset.th.flags 15#4 = false) ∧
    (DataUnitForm (.xorUX8 true false 16#5 0#5 1#8 6#4)
      (toUnit .xor true false 6#4 16#5 0#4 (.reg 0#5) (.imm ((1#8).setWidth 32))) ∧ CanWrite State.reset 6#4 16#5 0#32 ∧
      WriteWaits fullQueue 6#4 16#5 ∧ WriteFaults unmapped 6#4 16#5 0#32 ∧ WriteStrays State.reset 6#4 30#5 1#32) :=
  ⟨⟨.addCX, rfl⟩, ⟨.addRX, .unit _ _ _ .d0_1, not_port (by decide)⟩, ⟨.subCX8, rfl⟩,
    ⟨.xorUX8, port_free, port_waits.1, port_faults, port_strays⟩⟩

theorem witness_AddressUnitOperations :
    (AddrUnitOpForm State.reset (.addARR true 15#4 false 0#4 true 0#4)
      (addrOp .add true 4#4 15#5 0#4 (asrcOpd false 0#4) (asrcOpd true 0#4)) ∧
      Second State.reset .a1 .pc 0#32 State.reset ∧ CanWrite State.reset 4#4 15#5 0#32) ∧
    (AddrToUnitForm (.addACX true 16#5 false 0#4 2#2 0#3 6#4 0#4)
      (addrOp .add true 6#4 16#5 0#4 (asrcOpd false 0#4) (.rep 2#2 0#3)) ∧ State.reset.th.rdq = [] ∧
      Second (queue [1]) .a1 (.rep 2#2 0#3) ((1#64).extractLsb' 0 32) (queue []) ∧
      WriteWaits fullQueue 6#4 16#5 ∧ WriteFaults unmapped 6#4 16#5 0#32) :=
  ⟨⟨.addARR, .pc, not_port (by decide)⟩, .addACX, rfl, .rd _ _ _ (popped_queue _ _), port_waits.1, port_faults⟩

theorem witness_Shifts :
    (ShiftForm (.lsrCI5 true true 31#5 0#5 31#5 2#4)
      (shiftOp .lsr true true 2#4 31#5 2#4 0#5 (.imm ((31#5).setWidth 32))) ∧
      cond State.reset.th.flags 2#4 = true ∧ CanWrite State.reset 2#4 31#5 0#32) ∧
    (ShiftUnitForm (.aslUR true false 16#5 0#5 1#5 6#4) (shiftOp .asl true false 6#4 16#5 0#4 0#5 (.reg 1#5)) ∧
      Second State.reset .d0 (.reg 1#5) 0#32 State.reset ∧ CanWrite State.reset 6#4 16#5 0#32) :=
  ⟨⟨.lsrCI5, rfl, not_port (by decide)⟩, .aslUR, .reg _, port_free⟩

/-- Unit codes at both ends of the range that names a destination, and outside it. -/
theorem witness_Multiplies :
    MulForm State.reset (.mulwRR false 1#5 2#5 3#5) (mulOp .w false 1#4 1#5 0#4 (.reg 2#5) (.reg 3#5)) ∧
    (MulUnitForm (.muldUR false 1#5 2#5 3#5 1#4) (mulOp .d false 1#4 1#5 0#4 (.reg 2#5) (.reg 3#5)) ∧
      1 ≤ (1#4).toNat ∧ (1#4).toNat ≤ 4) ∧
    (MulUnitForm (.mulwUX8 false 1#5 2#5 3#8 4#4) (mulOp .w false 4#4 1#5 0#4 (.reg 2#5) (.imm ((3#8).setWidth 32))) ∧
      1 ≤ (4#4).toNat ∧ (4#4).toNat ≤ 4) ∧
    (MulUnitForm (.muldUX false 1#5 2#5 2#2 3#3 0#4) (mulOp .d false 0#4 1#5 0#4 (.reg 2#5) (.rep 2#2 3#3)) ∧
      ¬ (1 ≤ (0#4).toNat ∧ (0#4).toNat ≤ 4) ∧ Second (queue [1]) .d0 (.rep 2#2 3#3) ((1#64).extractLsb' 0 32) (queue [])) ∧
    (MulUnitForm (.mulwUR false 1#5 2#5 3#5 5#4) (mulOp .w false 5#4 1#5 0#4 (.reg 2#5) (.reg 3#5)) ∧
      ¬ (1 ≤ (5#4).toNat ∧ (5#4).toNat ≤ 4)) :=
  ⟨.mulwRR, ⟨.muldUR, by decide⟩, ⟨.mulwUX8, by decide⟩, ⟨.muldUX, by decide, .rd _ _ _ (popped_queue _ _)⟩,
    .mulwUR, by decide⟩

theorem witness_AbsMaxMin : ExtForm State.reset (.maxRR false 1#5 2#5 3#5)
      (extOp false 1#5 (fun a b => BitVec.ofInt 32 (max a.toInt b.toInt)) SubFlags (.reg 2#5) (.reg 3#5)) ∧
    Second State.reset .d0 (.reg 3#5) 0#32 State.reset ∧ cond State.reset.th.flags 0#4 = true ∧
    CanWrite State.reset 1#4 1#5 0#32 :=
  ⟨.maxRR, .reg _, rfl, not_port (by decide)⟩

/-- The first bit that differs from the sign at both ends of its range, and sources without one. -/
theorem witness_FirstBit :
    ((1#32 : Word).getLsbD 0 ≠ (1#32 : Word).getLsbD 31 ∧
      ∀ j < 31, 0 < j → (1#32 : Word).getLsbD j = (1#32 : Word).getLsbD 31) ∧
    ((0xBFFFFFFF#32 : Word).getLsbD 30 ≠ (0xBFFFFFFF#32 : Word).getLsbD 31 ∧
      ∀ j < 31, 30 < j → (0xBFFFFFFF#32 : Word).getLsbD j = (0xBFFFFFFF#32 : Word).getLsbD 31) ∧
    readReg State.reset .d0 1#5 0 = 0#32 := by decide

theorem witness_MortAndVpack : PackForm (.vpackRX false 1#5 2#5 1#2 3#3)
      (extOp false 1#5 (fun a b => b.setWidth 16 ++ a.setWidth 16) SubFlags (.reg 2#5) (.rep 1#2 3#3)) ∧
    State.reset.cfg.hasMortVpack = true ∧ Second State.reset .d0 (.rep 1#2 3#3) 0#32 State.reset ∧
    smallCore.cfg.hasMortVpack = false :=
  ⟨.vpackRX, rfl, .unit _ _ _ .d0_1, rfl⟩

theorem witness_ExtendAndExchange :
    ShuffleForm (.bexd 1#5 2#5 true false) (shuffleOp true false 1#5 2#5 bytesReversed) ∧
    Second State.reset .d0 .zero 0#32 State.reset ∧ cond State.reset.th.flags 0#4 = true ∧
    CanWrite State.reset 1#4 1#5 0#32 :=
  ⟨.bexd, .zero, rfl, not_port (by decide)⟩

theorem witness_Comparisons :
    (CmpForm State.reset (.tstCX false 1#5 2#2 3#3 15#4) (cmpOp true false (.reg 1#5) (.rep 2#2 3#3) 15#4) ∧
      State.reset.th.rdq = [] ∧ Second (queue [1]) .d0 (.rep 2#2 3#3) ((1#64).extractLsb' 0 32) (queue []) ∧
      cond State.reset.th.flags 15#4 = false) ∧
    (CmpForm State.reset (.cmpCR false 1#5 2#5 2#4) (cmpOp false false (.reg 1#5) (.reg 2#5) 2#4) ∧
      Second State.reset .d0 (.reg 2#5) 0#32 State.reset ∧ cond State.reset.th.flags 2#4 = true) :=
  ⟨⟨.tstCX, rfl, .rd _ _ _ (popped_queue _ _), rfl⟩, .cmpCR, .reg _, rfl⟩

/-- TXRPT at 0, and at its largest. -/
theorem witness_Branch : State.reset.ctCell .txrpt = 0#32 ∧
    (State.reset.setCtCell .txrpt 0xFFFFFFFF#32).ctCell .txrpt ≠ 0#32 := by decide

/-- Each clause of a move: a source that waits, one that underflows, a false and a true condition, and a destination that
can be written, that waits and that faults. -/
theorem witness_MovesBetweenUnits : ReadWaits State.reset 7#4 0#5 ∧ ReadWaits State.reset 7#4 2#5 ∧
    ReadUnderflows State.reset 6#4 16#5 ∧ CanRead State.reset 0#4 31#5 ∧ cond State.reset.th.flags 15#4 = false ∧
    cond State.reset.th.flags 0#4 = true ∧ CanWrite State.reset 5#4 0#5 0#32 ∧ CanWrite State.reset 6#4 16#5 0#32 ∧
    WriteWaits fullQueue 6#4 31#5 ∧ WriteFaults unmapped 6#4 16#5 0#32 ∧ WriteStrays State.reset 6#4 30#5 1#32 :=
  ⟨status_waits.1, status_waits.2, empty_underflows.1, can_read (by decide) (by decide), rfl, rfl,
    not_port (by decide), port_free, port_waits.2, port_faults, port_strays⟩

theorem witness_TraceMoves : ReadWaits State.reset 7#4 0#5 ∧ ReadUnderflows State.reset 6#4 16#5 ∧
    CanRead triggered 7#4 0#5 ∧ cond triggered.th.flags 15#4 = false ∧ cond triggered.th.flags 0#4 = true ∧
    CanWrite triggered 1#4 0#5 0#32 ∧ WriteWaits fullQueue 6#4 16#5 ∧ WriteFaults unmapped 6#4 16#5 0#32 :=
  ⟨status_waits.1, empty_underflows.1, ⟨status_triggered.2.2.1, fun h => absurd h.1 (by decide)⟩, rfl, rfl,
    not_port (by decide), port_waits.1, port_faults⟩

/-- A combination that may be exchanged, one unit with itself, and two special units. -/
theorem witness_Swaps : ¬ SwapForbidden 1#4 5#4 ∧ SwapForbidden 1#4 1#4 ∧ SwapForbidden 0#4 7#4 ∧
    ReadWaits State.reset 7#4 0#5 ∧ ¬ SwapForbidden 7#4 1#4 ∧ ¬ ReadWaits State.reset 1#4 0#5 ∧
    ¬ ReadWaits State.reset 5#4 1#5 ∧ cond State.reset.th.flags 15#4 = false ∧ cond State.reset.th.flags 0#4 = true :=
  ⟨by simp [SwapForbidden, SpecialUnit], by simp [SwapForbidden, SpecialUnit], by simp [SwapForbidden, SpecialUnit],
    status_waits.1, by simp [SwapForbidden, SpecialUnit], no_wait (by decide), no_wait (by decide), rfl, rfl⟩

theorem witness_PipelineToRegister : MovRdForm (.movwRd 1#5 6#4 0#4) .w 6#4 1#5 0#4 ∧ State.reset.th.rdq = [] ∧
    Popped (queue [1]) (queue []) 1#64 ∧ cond (queue [1]).th.flags 15#4 = false ∧
    cond (queue [1]).th.flags 0#4 = true ∧ CanWrite (queue []) 1#4 0#5 0#32 :=
  ⟨.movwRd, rfl, popped_queue _ _, rfl, rfl, not_port (by decide)⟩

/-- Sources that wait without a kick, that do not, and those that KICK describes at each level. -/
theorem witness_Kick : (State.reset.th.kickCount = 0 ∧ ((0#5 : BitVec 5) = 0#5 ∨ (0#5 : BitVec 5) = 2#5)) ∧
    ¬ (((0#5 : BitVec 5) = 0#5 ∨ (0#5 : BitVec 5) = 2#5) ∧ (State.reset.setKick 1).th.kickCount = 0) ∧
    ¬ (((6#5 : BitVec 5) = 0#5 ∨ (6#5 : BitVec 5) = 2#5) ∧ State.reset.th.kickCount = 0) ∧
    cond State.reset.th.flags 15#4 = false ∧ cond State.reset.th.flags 0#4 = true ∧ TriggerSource State.reset 0#5 ∧
    TriggerSource State.reset 4#5 ∧ TriggerSource (State.reset.setIstat true) 6#5 ∧
    TriggerSource (State.reset.setIstat true) 2#5 ∧ CanWrite State.reset 1#4 0#5 0#32 :=
  ⟨by decide, by decide, by decide, rfl, rfl, .inl rfl, .inr (.inl rfl), .inr (.inr ⟨.inr rfl, rfl⟩),
    .inr (.inr ⟨.inl rfl, rfl⟩), not_port (by decide)⟩

theorem witness_Defr : cond State.reset.th.flags 15#4 = false ∧ cond State.reset.th.flags 0#4 = true ∧
    TriggerSource State.reset 4#5 ∧ TriggerSource (State.reset.setIstat true) 2#5 ∧ CanWrite State.reset 4#4 7#5 0#32 ∧
    WriteWaits fullQueue 6#4 16#5 ∧ WriteFaults unmapped 6#4 16#5 0#32 :=
  ⟨rfl, rfl, .inr (.inl rfl), .inr (.inr ⟨.inl rfl, rfl⟩), not_port (by decide), port_waits.1, port_faults⟩

/-- Loads from RAM, from a device and from an unmapped region with deferred failures; a special unit and one without
partner. -/
theorem witness_Loads :
    (∃ p, GetForm State.reset (.getdS12 1#5 4#12 0#2 1#2 0#1) p ∧ p.unit ≠ 6#4 ∧
      Accessible State.reset 0 (p.mem.addr State.reset) p.size ∧ ¬ SmallSpecial p.size p.unit) ∧
    (∃ p, GetForm withDevice (.getbI6 1#5 0#5 63#6 true 0#2 0#4 true) p ∧ p.unit ≠ 6#4 ∧
      Accessible withDevice 0 (p.mem.addr withDevice) p.size ∧ SmallSpecial p.size p.unit) ∧
    (∃ p, GetPairForm deferredFailures (.getlI6 1#5 0#5 1#6 true 0#2 2#4 false) p ∧
      Accessible deferredFailures 0 (p.mem.addr deferredFailures) p.size ∧ p.unit = BUnit.d1.code) ∧
    (∃ p, GetPairForm State.reset (.getlR 1#5 0#5 1#5 true 0#2 5#4 false) p ∧
      Accessible State.reset 0 (p.mem.addr State.reset) p.size ∧ ∀ u : BUnit, p.unit ≠ u.code) :=
  ⟨⟨_, .getdS12, by decide, ⟨⟨rfl, rfl⟩, by decide, .inl (by decide)⟩, fun h => h.1 rfl⟩,
    ⟨_, .getbI6, by decide, ⟨⟨rfl, rfl⟩, by decide, .inl (by decide)⟩, by decide, .inl rfl⟩,
    ⟨_, .getlI6, ⟨⟨rfl, rfl⟩, by decide, .inr rfl⟩, rfl⟩,
    ⟨_, .getlR, ⟨⟨rfl, rfl⟩, by decide, .inl (by decide)⟩, fun u => by cases u <;> decide⟩⟩

theorem witness_Stores :
    (∃ p, SetForm State.reset (.setdI6 1#5 0#5 1#6 true 0#2 1#4 false) p False ∧ p.unit ≠ 6#4 ∧
      ¬ ReadWaits State.reset p.unit p.reg ∧ ¬ SmallSpecial p.size p.unit ∧ State.reset.mem.wf = true ∧
      Accessible State.reset 1 (p.mem.addr State.reset) p.size) ∧
    (∃ p, SetForm State.reset (.setwR 1#5 0#5 2#5 true 0#2 4#4 false) p (4#4 = (baseUnit 0#2).code) ∧
      4#4 = (baseUnit 0#2).code ∧ Accessible State.reset 1 (p.mem.addr State.reset) p.size) ∧
    (∃ p, SetForm State.reset (.setdI6 0#5 0#5 1#6 true 0#2 7#4 false) p False ∧ ReadWaits State.reset p.unit p.reg) ∧
    (∃ p, SetForm unmapped (.setbR 1#5 0#5 2#5 true 0#2 1#4 false) p (1#4 = (baseUnit 0#2).code) ∧
      Faults unmapped 1 (p.mem.addr unmapped) p.size) ∧
    (∃ p q, SetPairForm State.reset (.setlR 1#5 0#5 2#5 true 0#2 1#4 false) p q ∧ p.unit = BUnit.d0.code ∧ ¬ q ∧
      Accessible State.reset 1 (p.mem.addr State.reset) p.size) ∧
    (∃ p, SetPairForm unmapped (.setlI6 1#5 0#5 31#6 true 0#2 1#4 false) p False ∧
      Faults unmapped 1 (p.mem.addr unmapped) p.size) :=
  ⟨⟨_, .setdI6, by decide, no_wait (by decide), fun h => h.1 rfl, rfl, ⟨rfl, rfl⟩, by decide, .inl (by decide)⟩,
    ⟨_, .setwR, rfl, ⟨rfl, rfl⟩, by decide, .inl (by decide)⟩, ⟨_, .setdI6, status_waits.1⟩,
    ⟨_, .setbR, ⟨rfl, rfl⟩, by decide, by decide, rfl⟩,
    ⟨_, _, .setlR, rfl, fun ⟨v, h, k⟩ => (by
      cases v <;> first | exact absurd k (by decide) | exact absurd h (by decide)), ⟨rfl, rfl⟩, by decide, .inl (by decide)⟩,
    ⟨_, .setlI6, ⟨rfl, rfl⟩, by decide, by decide, rfl⟩⟩

theorem witness_CoprocessorToMemory :
    (∃ p, CprMemForm State.reset (.cprdMemR 0#5 1#5 false 0#2 false 16#5) p ∧ p.reg = 16#5 ∧ State.reset.th.rdq = []) ∧
    (∃ p, CprMemForm State.reset (.cprwMemI6 0#5 1#6 false 0#2 false 7#5) p ∧
      ¬ (p.reg = 16#5 ∧ State.reset.th.rdq = []) ∧ State.reset.mem.wf = true ∧
      Accessible State.reset 1 (p.mem.addr State.reset) p.size) ∧
    (∃ p, CprMemForm unmapped (.cprwMemI6 0#5 1#6 false 0#2 false 7#5) p ∧
      Faults unmapped 1 (p.mem.addr unmapped) p.size) :=
  ⟨⟨_, .cprdMemR, rfl, rfl⟩, ⟨_, .cprwMemI6, by decide, rfl, ⟨rfl, rfl⟩, by decide, .inl (by decide)⟩,
    ⟨_, .cprwMemI6, ⟨rfl, rfl⟩, by decide, by decide, rfl⟩⟩

theorem witness_ConditionalStores :
    (SetCcForm (.setbCc 1#5 2#5 5#4 0#2 0#4) ⟨.b, .a1, 2#5, 5#4, 1#5, 0#4⟩ ∧ SmallSpecial .b 5#4) ∧
    (SetCcForm (.setdCc 0#5 2#5 7#4 0#2 0#4) ⟨.d, .a1, 2#5, 7#4, 0#5, 0#4⟩ ∧ ¬ SmallSpecial .d 7#4 ∧
      ReadWaits State.reset 7#4 0#5) ∧
    (SetCcForm (.setwCc 1#5 2#5 1#4 0#2 0#4) ⟨.w, .a1, 2#5, 1#4, 1#5, 0#4⟩ ∧ ¬ ReadWaits State.reset 1#4 1#5 ∧
      cond State.reset.th.flags 0#4 = true ∧ State.reset.mem.wf = true ∧
      Accessible State.reset 1 (readReg State.reset .a1 2#5 2) .w ∧ Faults unmapped 1 (readReg unmapped .a1 2#5 2) .w ∧
      cond State.reset.th.flags 15#4 = false) ∧
    (CprMemCcForm (.cprdMemCc 16#5 2#5 0#2 0#4) ⟨.d, .a1, 2#5, 6#4, 16#5, 0#4⟩ ∧ State.reset.th.rdq = [] ∧
      ¬ (16#5 = 16#5 ∧ (queue [1]).th.rdq = [])) :=
  ⟨⟨.setbCc, by decide, .inr (.inl rfl)⟩, ⟨.setdCc, fun h => h.1 rfl, status_waits.1⟩,
    ⟨.setwCc, no_wait (by decide), rfl, rfl, ⟨⟨rfl, rfl⟩, by decide, .inl (by decide)⟩, ⟨⟨rfl, rfl⟩, by decide, by decide, rfl⟩, rfl⟩,
    .cprdMemCc, rfl, by decide⟩

theorem witness_LoadFaults :
    (∃ p, GetForm unmapped (.getdS12 1#5 4#12 0#2 1#2 0#1) p ∧ Faults unmapped 0 (p.mem.addr unmapped) p.size) ∧
    (∃ p, GetPairForm unmapped (.getlI6 1#5 0#5 31#6 true 0#2 2#4 false) p ∧
      Faults unmapped 0 (p.mem.addr unmapped) p.size) ∧
    (LnkGetForm unmapped (.lnkgetd 1#5 0#5 0#2 1#2) .d (readReg unmapped .a1 0#5 2) .d0 1#5 ∧
      Faults unmapped 0 (readReg unmapped .a1 0#5 2) .d ∧ Faults unmapped 0 (readReg unmapped .a1 0#5 2) .l) :=
  ⟨⟨_, .getdS12, ⟨rfl, rfl⟩, by decide, by decide, rfl⟩, ⟨_, .getlI6, ⟨rfl, rfl⟩, by decide, by decide, rfl⟩, .lnkgetd,
    ⟨⟨rfl, rfl⟩, by decide, by decide, rfl⟩, ⟨rfl, rfl⟩, by decide, by decide, rfl⟩

/-- Each form at an odd address; a load of 64 bits at one that is a multiple of 4 only; a status register that does not
wait. -/
theorem witness_MisalignedAccesses :
    (∃ p, GetForm odd (.getwI6 1#5 0#5 1#6 true 0#2 1#4 true) p ∧ p.unit ≠ 6#4 ∧
      Misaligned odd (p.mem.addr odd) p.size) ∧
    (∃ p, GetPairForm (regs [(.a1, 0#5, 4#32)]) (.getlI6 1#5 0#5 1#6 true 0#2 1#4 true) p ∧ p.unit ≠ 6#4 ∧
      Misaligned (regs [(.a1, 0#5, 4#32)]) (p.mem.addr (regs [(.a1, 0#5, 4#32)])) p.size) ∧
    (LnkGetForm odd (.lnkgetd 1#5 0#5 0#2 1#2) .d (readReg odd .a1 0#5 2) .d0 1#5 ∧
      Misaligned odd (readReg odd .a1 0#5 2) .d ∧ Misaligned odd (readReg odd .a1 0#5 2) .l) ∧
    (∃ p q, SetForm odd (.setdR 1#5 0#5 1#5 true 0#2 1#4 true) p q ∧ p.unit ≠ 6#4 ∧ ¬ ReadWaits odd p.unit p.reg ∧
      Misaligned odd (p.mem.addr odd) p.size) ∧
    (∃ p, SetForm odd (.setdI6 1#5 0#5 1#6 true 0#2 7#4 true) p False ∧ ¬ ReadWaits odd p.unit p.reg ∧
      Misaligned odd (p.mem.addr odd) p.size) ∧
    (∃ p, SetPairForm odd (.setlI6 1#5 0#5 1#6 true 0#2 1#4 true) p False ∧ Misaligned odd (p.mem.addr odd) p.size) ∧
    (∃ p, CprMemForm odd (.cprwMemI6 0#5 1#6 false 0#2 false 7#5) p ∧ ¬ (p.reg = 16#5 ∧ odd.th.rdq = []) ∧
      Misaligned odd (p.mem.addr odd) p.size) ∧
    (∃ p, IssueForm odd (.movdRaI6 0#5 1#6 false 0#2 false 16#5) p ∧ isReadPort p.reg = true ∧
      ¬ WriteWaits odd 6#4 p.reg ∧ Misaligned odd (p.mem.addr odd) p.size) ∧
    (SetCcForm (.setwCc 1#5 0#5 1#4 0#2 0#4) ⟨.w, .a1, 0#5, 1#4, 1#5, 0#4⟩ ∧ ¬ SmallSpecial .w 1#4 ∧
      ¬ ReadWaits odd 1#4 1#5 ∧ cond odd.th.flags 0#4 = true ∧ Misaligned odd (readReg odd .a1 0#5 2) .w ∧
      Misaligned odd (readReg odd .a1 0#5 2) .l) ∧
    (CprMemCcForm (.cprdMemCc 7#5 0#5 0#2 0#4) ⟨.d, .a1, 0#5, 6#4, 7#5, 0#4⟩ ∧
      Misaligned odd (readReg odd .a1 0#5 2) .d) :=
  ⟨⟨_, .getwI6, by decide, ⟨rfl, rfl⟩, by decide⟩, ⟨_, .getlI6, by decide, ⟨rfl, rfl⟩, by decide⟩,
    ⟨.lnkgetd, ⟨⟨rfl, rfl⟩, by decide⟩, ⟨rfl, rfl⟩, by decide⟩,
    ⟨_, _, .setdR, by decide, no_wait (by decide), ⟨rfl, rfl⟩, by decide⟩,
    ⟨_, .setdI6, (by rintro ⟨_, ⟨h, _⟩ | ⟨h, _⟩⟩ <;> cases h), ⟨rfl, rfl⟩, by decide⟩,
    ⟨_, .setlI6, ⟨rfl, rfl⟩, by decide⟩, ⟨_, .cprwMemI6, by decide, ⟨rfl, rfl⟩, by decide⟩,
    ⟨_, .movdRaI6, by decide, fun h => absurd h.2.2 (by decide), ⟨rfl, rfl⟩, by decide⟩,
    ⟨.setwCc, (by unfold SmallSpecial; decide), no_wait (by decide), rfl, ⟨⟨rfl, rfl⟩, by decide⟩, ⟨rfl, rfl⟩, by decide⟩,
    .cprdMemCc, ⟨rfl, rfl⟩, by decide⟩

/-- An entry in the pipeline, and an odd address in A1.0. -/
def oddQueue : State := { odd with th := { odd.th with rdq := [1] } }

/-- The misaligned clauses of the conditional, repeating and multi-register forms. -/
theorem witness_MisalignedElsewhere :
    (SetCcForm (.setwCc 1#5 0#5 1#4 0#2 0#4) ⟨.w, .a1, 0#5, 1#4, 1#5, 0#4⟩ ∧
      Misaligned odd (readReg odd .a1 0#5 2) .w) ∧
    (∃ e, CprRepForm odd (.cprdr0 true true 0#5 1#5 2#3) .d 2#3 e ∧ Misaligned odd (e.addr odd) .d) ∧
    (∃ e, CpwlMemForm oddQueue (.cpwlMemI8 0#2 1#3 0#5 1#8 true true false) 1#3 true e ∧
      Popped oddQueue odd 1#64 ∧ oddQueue.th.rdq.length ≤ Params.rdFifoDepth oddQueue.cfg ∧
      Misaligned oddQueue (e.addr oddQueue) .l) ∧
    (∃ d e, XfrForm oddQueue (.xfrd01 true true true 0#5 1#5 2#5 3#5) .d d e ∧ Popped oddQueue odd 1#64 ∧
      Quiet oddQueue ∧ oddQueue.mem.wf = true ∧ aligned (d.addr oddQueue) .d = false) ∧
    ¬ (⟨false, 1#5, 1#7, .d0, .a1, 0#5⟩ : MultiOp).reaches odd 0 0 ∧
    (⟨false, 1#5, 1#7, .d0, .a1, 0#5⟩ : MultiOp).stops odd 1 :=
  ⟨⟨.setwCc, ⟨rfl, rfl⟩, by decide⟩, ⟨_, .cprdr0, ⟨rfl, rfl⟩, by decide⟩,
    ⟨_, .cpwlMemI8, ⟨rfl, rfl⟩, by decide, ⟨rfl, rfl⟩, by decide⟩, ⟨_, _, .xfrd01, ⟨rfl, rfl⟩, ⟨rfl, rfl⟩, rfl, by decide⟩,
    fun h => absurd h.1 (by decide), rfl, .inr (by decide)⟩

theorem witness_ReadIssues :
    (∃ p, IssueForm State.reset (.movbRaS12 28#5 1#12 0#2 0#1) p ∧
      Issuable State.reset p.reg (p.mem.addr State.reset) p.size) ∧
    WriteWaits fullQueue 6#4 31#5 ∧
    (∃ p, IssueForm unmapped (.movbRaS12 17#5 1#12 0#2 0#1) p ∧ isReadPort p.reg = true ∧
      ¬ WriteWaits unmapped 6#4 p.reg ∧ Faults unmapped 3 (p.mem.addr unmapped) p.size) ∧
    isReadPort 18#5 = false :=
  ⟨⟨_, .movbRaS12, fun _ => ⟨by decide, ⟨rfl, rfl⟩, by decide, .inl (by decide)⟩⟩, port_waits.2,
    ⟨_, .movbRaS12, by decide, fun h => absurd h.2.2 (by decide), ⟨rfl, rfl⟩, by decide, by decide, rfl⟩, by decide⟩

/-- A list that is allowed, one that names the base, and one that ends at the last register. -/
theorem witness_MultipleLoads :
    (MGetForm (.mgetd 13#5 0#5 3#7 0#2 1#2) ⟨false, 13#5, 3#7, .d0, .a1, 0#5⟩ ∧
      (∀ n ∈ (⟨false, 13#5, 3#7, .d0, .a1, 0#5⟩ : MultiOp).list, (⟨false, 13#5, 3#7, .d0, .a1, 0#5⟩ : MultiOp).allows n) ∧
      aligned ((⟨false, 13#5, 3#7, .d0, .a1, 0#5⟩ : MultiOp).addr State.reset) .d = true ∧
      ∀ k < 3, State.reset.target 0 ((⟨false, 13#5, 3#7, .d0, .a1, 0#5⟩ : MultiOp).addrOf State.reset k) ≠ none) ∧
    (MGetForm (.mgetl 0#5 1#5 1#7 1#2 1#2) ⟨true, 0#5, 1#7, .d0, .d0, 1#5⟩ ∧
      (∃ n ∈ (⟨true, 0#5, 1#7, .d0, .d0, 1#5⟩ : MultiOp).list, ¬ (⟨true, 0#5, 1#7, .d0, .d0, 1#5⟩ : MultiOp).allows n) ∧
      ∀ k < 2, State.reset.target 0
        ((⟨true, 0#5, 1#7, .d0, .d0, 1#5⟩ : MultiOp).addr State.reset + BitVec.ofNat 32 (k * 8)) ≠ none) := by
  refine ⟨⟨.mgetd, ?_, by decide, by decide⟩, .mgetl, ⟨1, by decide, ?_⟩, by decide⟩
  · intro n hn
    have : n = 13 ∨ n = 14 ∨ n = 15 := by
      have h : (⟨false, 13#5, 3#7, .d0, .a1, 0#5⟩ : MultiOp).list = [13, 14, 15] := by decide
      simpa [h] using hn
    rcases this with rfl | rfl | rfl <;> simp [MultiOp.allows, BUnit.isData]
  · simp [MultiOp.allows]

theorem witness_MultipleStores : MSetForm (.msetl 0#5 0#5 1#7 0#2 1#2) ⟨true, 0#5, 1#7, .d0, .a1, 0#5⟩ ∧
    State.reset.mem.wf = true ∧ State.reset.mid = [] ∧
    aligned ((⟨true, 0#5, 1#7, .d0, .a1, 0#5⟩ : MultiOp).addr State.reset) .l = true ∧
    (∀ k < 2, State.reset.target 1 ((⟨true, 0#5, 1#7, .d0, .a1, 0#5⟩ : MultiOp).addrOf State.reset k) ≠ none) ∧
    (⟨true, 0#5, 1#7, .d0, .a1, 0#5⟩ : MultiOp).list.length = 2 ∧
    (∀ k < 2, ∀ pa, State.reset.target 1 ((⟨true, 0#5, 1#7, .d0, .a1, 0#5⟩ : MultiOp).addrOf State.reset k) =
      some (.ram pa) → ∀ j < 8, 4096 ≠ (pa + BitVec.ofNat 32 j).toNat) := by
  refine ⟨.msetl, rfl, rfl, by decide, by decide, by decide, ?_⟩
  intro k hk pa h j hj
  have : pa = BitVec.ofNat 32 (8 * k) := by
    have hk2 : k = 0 ∨ k = 1 := by omega
    rcases hk2 with rfl | rfl <;> exact (Target.ram.inj (Option.some.inj h)).symm
  subst this
  rw [BitVec.toNat_add, BitVec.toNat_ofNat, BitVec.toNat_ofNat]
  omega

/-- Room for just as many entries, and for one too few. -/
theorem witness_MultipleIssues : MMovRaForm (.mmovdRa 16#5 0#5 1#7 0#2) ⟨false, 16#5, 1#7, .d0, .a1, 0#5⟩ ∧
    isReadPort 16#5 = true ∧ portReturns State.reset.cfg 16#5 = true ∧
    aligned ((⟨false, 16#5, 1#7, .d0, .a1, 0#5⟩ : MultiOp).addr State.reset) .d = true ∧
    (queue (List.replicate 6 1)).th.rdq.length + (⟨false, 16#5, 1#7, .d0, .a1, 0#5⟩ : MultiOp).list.length ≤
      Params.rdFifoDepth State.reset.cfg ∧
    Params.rdFifoDepth State.reset.cfg <
      (queue (List.replicate 7 1)).th.rdq.length + (⟨false, 16#5, 1#7, .d0, .a1, 0#5⟩ : MultiOp).list.length ∧
    ∀ k < 2, State.reset.target 3 ((⟨false, 16#5, 1#7, .d0, .a1, 0#5⟩ : MultiOp).addrOf State.reset k) ≠ none :=
  ⟨.mmovdRa, by decide, by decide, by decide, by decide, by decide, by decide⟩

theorem witness_MultipleDrains : MMovRdForm (.mmovlRd 0#5 1#7 1#2) ⟨true, 0#5, 1#7, .d0, .d0, 0#5⟩ ∧
    (queue [1, 2]).th.todo = [] ∧ fullQueue.th.todo = [] ∧ (queue [1]).th.todo = [] ∧
    (⟨true, 0#5, 1#7, .d0, .d0, 0#5⟩ : MultiOp).list.length ≤ (queue [1, 2]).th.rdq.length ∧
    (regList 0#5 127#7).length ≤ fullQueue.th.rdq.length ∧ (queue [1]).th.rdq.length < (regList 0#5 1#7).length :=
  ⟨.mmovlRd, rfl, rfl, rfl, by decide, by decide, by decide⟩

theorem witness_LinkedLoads : LnkGetForm State.reset (.lnkgetd 1#5 0#5 0#2 1#2) .d (readReg State.reset .a1 0#5 2) .d0 1#5 ∧
    Accessible State.reset 0 (readReg State.reset .a1 0#5 2) .d ∧
    Accessible State.reset 0 (readReg State.reset .a1 0#5 2) .l :=
  ⟨.lnkgetd, ⟨⟨rfl, rfl⟩, by decide, .inl (by decide)⟩, ⟨rfl, rfl⟩, by decide, .inl (by decide)⟩

theorem witness_LinkedStores : LnkSetForm (.lnksetd 1#5 0#5 1#4 0#2 0#4) ⟨.d, .a1, 0#5, 1#4, 1#5, 0#4⟩ ∧
    ReadWaits State.reset 7#4 0#5 ∧ ReadUnderflows State.reset 6#4 16#5 ∧ CanRead State.reset 1#4 1#5 ∧
    cond State.reset.th.flags 15#4 = false ∧ cond State.reset.th.flags 0#4 = true ∧ State.reset.mem.wf = true ∧
    Quiet State.reset ∧ 1#4 = BUnit.d0.code :=
  ⟨.lnksetd, status_waits.1, empty_underflows.1, can_read (by decide) (by decide), rfl, rfl, rfl, ⟨rfl, rfl⟩, rfl⟩

theorem witness_CoprocessorReads :
    (CprUnitForm (.cprbUnit 1#5 2#3 6#4 0#4) .b 2#3 6#4 1#5 0#4 ∧ Size.b ≠ .d ∧ (SpecialUnit 6#4 ∨ 6#4 = 6#4)) ∧
    (CprUnitForm (.cprbUnit 1#5 2#3 9#4 0#4) .b 2#3 9#4 1#5 0#4 ∧ ¬ (Size.b ≠ .d ∧ (SpecialUnit 9#4 ∨ 9#4 = 6#4))) ∧
    (CprUnitForm (.cprdUnit 1#5 2#3 6#4 0#4) .d 2#3 6#4 1#5 0#4 ∧ ¬ (Size.d ≠ .d ∧ (SpecialUnit 6#4 ∨ 6#4 = 6#4))) ∧
    cond State.reset.th.flags 15#4 = false ∧ cond State.reset.th.flags 0#4 = true ∧ CanWrite State.reset 4#4 1#5 0#32 :=
  ⟨⟨.cprbUnit, by decide, .inr rfl⟩, ⟨.cprbUnit, by simp [SpecialUnit]⟩, ⟨.cprdUnit, by simp⟩, rfl, rfl,
    not_port (by decide)⟩

theorem witness_CoprocessorReadRepeat :
    (∃ e, CprRepForm State.reset (.cprdr0 true true 0#5 1#5 2#3) .d 2#3 e ∧ State.reset.mem.wf = true ∧
      Accessible State.reset 1 (e.addr State.reset) .d) ∧
    ∃ e, CprRepForm unmapped (.cprdr0 true true 0#5 1#5 2#3) .d 2#3 e ∧ Faults unmapped 1 (e.addr unmapped) .d :=
  ⟨⟨_, .cprdr0, rfl, ⟨rfl, rfl⟩, by decide, .inl (by decide)⟩, _, .cprdr0, ⟨rfl, rfl⟩, by decide, by decide, rfl⟩

/-- Entries in the pipeline of a core that maps nothing. -/
def unmappedQueue : State := { unmapped with th := { unmapped.th with rdq := [1] } }

theorem witness_CoprocessorWriteFromMemory :
    (∃ e, CpwlMemForm (queue [1]) (.cpwlMemI8 0#2 1#3 0#5 1#8 true true false) 1#3 true e ∧
      Popped (queue [1]) (queue []) 1#64 ∧ (queue [1]).th.rdq.length ≤ Params.rdFifoDepth (queue [1]).cfg ∧
      Accessible (queue [1]) 3 (e.addr (queue [1])) .l) ∧
    State.reset.th.rdq = [] ∧
    (∃ e s1, CpwlMemForm unmappedQueue (.cpwlMemR 0#2 1#3 0#5 1#5 false false false) 1#3 false e ∧
      Popped unmappedQueue s1 1#64 ∧ Faults unmappedQueue 3 (e.addr unmappedQueue) .l) :=
  ⟨⟨_, .cpwlMemI8, popped_queue _ _, by decide, ⟨rfl, rfl⟩, by decide, .inl (by decide)⟩, rfl,
    _, unmapped, .cpwlMemR, ⟨rfl, rfl⟩, ⟨rfl, rfl⟩, by decide, by decide, rfl⟩

/-- The source of a transfer lies where nothing is mapped, its destination in RAM; the pipeline holds an entry. -/
def halfMapped : State :=
  let s := writeReg (queue [1]) .d0 2#5 4096#32
  { s with xlat := [⟨0, 4096, 2 ^ 32, none, 0#32, 0#32⟩] }

theorem witness_Transfers :
    (∃ d e, XfrForm (queue [1]) (.xfrd01 true true false 0#5 1#5 2#5 3#5) .d d e ∧ Popped (queue [1]) (queue []) 1#64 ∧
      (queue [1]).th.rdq.length ≤ Params.rdFifoDepth (queue [1]).cfg ∧ (queue [1]).mem.wf = true ∧
      Accessible (queue [1]) 1 (d.addr (queue [1])) .d ∧ Accessible (queue [1]) 3 (e.addr (queue [1])) .d) ∧
    State.reset.th.rdq = [] ∧
    (∃ d e s1, XfrForm unmappedQueue (.xfrd01 true true false 0#5 1#5 2#5 3#5) .d d e ∧ Popped unmappedQueue s1 1#64 ∧
      Faults unmappedQueue 1 (d.addr unmappedQueue) .d) ∧
    (∃ d e, XfrForm halfMapped (.xfrd01 true true false 0#5 1#5 2#5 3#5) .d d e ∧
      Accessible halfMapped 1 (d.addr halfMapped) .d ∧ Faults halfMapped 3 (e.addr halfMapped) .d) :=
  ⟨⟨_, _, .xfrd01, popped_queue _ _, by decide, rfl, ⟨⟨rfl, rfl⟩, by decide, .inl (by decide)⟩, ⟨rfl, rfl⟩, by decide, .inl (by decide)⟩,
    rfl, ⟨_, _, unmapped, .xfrd01, ⟨rfl, rfl⟩, ⟨rfl, rfl⟩, by decide, by decide, rfl⟩,
    _, _, .xfrd01, ⟨⟨rfl, rfl⟩, by decide, .inl (by decide)⟩, ⟨rfl, rfl⟩, by decide, by decide, rfl⟩

/-- A line with a translation, both kinds of data, an address of the line and one of the next. -/
theorem witness_CacheCommands : State.reset.translate 0 (line 0x7F#32) = some 0x40#32 ∧
    (3#32 : Word).extractLsb' 2 6 = 0#6 ∧ (3#32 : Word).getLsbD 0 = true ∧ (0#32 : Word).getLsbD 0 = false ∧
    (0#32 : Word).getLsbD 1 = false ∧ (3#32 : Word).getLsbD 1 = true ∧ line 0x40#32 = line 0x7F#32 ∧
    line 0x80#32 ≠ line 0x7F#32 := by decide

theorem witness_CacheTranslations : (0x48#32 : Word).extractLsb' 4 2 = 0#2 ∧ (0x48#32 : Word).extractLsb' 0 3 = 0#3 ∧
    State.reset.translate 0 (0x48#32 &&& 0xFFFFFFC0#32) = some 0x40#32 := by decide

/-- Another thread holds the global lock. -/
def excluded : State := { State.reset with volOwner := some 1, globOwner := some 1 }

/-- A lock that is free, one that is held, and one that another thread holds. -/
theorem witness_Locks : (queue [1]).th.rdq ≠ [] ∧ State.reset.th.rdq = [] ∧ free none 0 ∧ free (some 0) 0 ∧
    ¬ free (some 1) 0 ∧ (excluded.globOwner = some 1 ∧ 1 ≠ excluded.th.tid ∧ excluded.env = []) ∧
    ({ excluded with env := [some (.during [.giveWay]), none] } : State).env = some (.during [.giveWay]) :: [none] :=
  ⟨by decide, rfl, .inl rfl, .inr rfl, by simp [free], by decide, rfl⟩

theorem witness_LevelReturns : (queue [1]).th.rdq ≠ [] ∧ State.reset.th.rdq = [] := by decide

/-- Every exception of the thread enters the interrupt level. -/
def handlers : State :=
  { State.reset with th := { State.reset.th with exModes := ⟨.handler, .handler, .handler, .handler, .handler, .handler⟩ } }

theorem witness_SwitchTraps : State.reset.th.exModes.switchException = .halt ∧
    (handlers.setIstat true).th.istat = true ∧
    (handlers.th.exModes.switchException = .handler ∧ handlers.th.istat = false) := by decide

theorem witness_ExceptionEntry : ExcKind.pcMisaligned 2#32 ≠ .outstandingReads ∧
    State.reset.th.exModes.mode (.pcMisaligned 2#32) = .halt ∧ (handlers.setIstat true).th.istat = true ∧
    handlers.th.exModes.mode (.pcMisaligned 2#32) = .handler ∧ handlers.th.istat = false := by decide

/-- An interrupt for the thread that has the turn, taken and not taken. -/
theorem witness_Interrupts :
    ({ triggered with env := [some (.interrupt 0)] } : State).env = some (.interrupt triggered.th.tid) :: [] ∧
    (∀ t, triggered.globOwner = some t → t = triggered.th.tid) ∧
    (triggered.th.istat = false ∧ triggered.th.runState ≠ .halted ∧ ∃ b < 16, Triggered triggered true b) ∧
    ¬ ((triggered.setIstat true).th.istat = false) :=
  ⟨rfl, by simp [triggered, State.reset], ⟨rfl, by decide, 0, by decide, status_triggered.2.1⟩, by decide⟩

/-- An interrupt that comes in the middle of an instruction, which is not taken. -/
theorem witness_InterruptsBetweenAccesses : (triggered.push (.storeFree 0#32 1)).th.todo ≠ [] ∧
    triggered.th.todo = [] := by decide

/-- A prefetch that returns no data takes no place in the pipeline, also while it is still to come. -/
theorem test_prefetch_takes_no_place :
    (State.reset.push (.issue (.ram 0#32) 17#5 .d)).th.pipelineUse { Params.start with rapfReturnsData := false } = 0 ∧
    (State.reset.push (.issue (.ram 0#32) 17#5 .d)).th.pipelineUse Params.start = 1 := by decide

/-- Two accesses of one byte that an instruction has still to make draw at two values of the counter. -/
theorem test_each_access_draws_anew :
    (((State.reset.push (.load (.ram 0#32) .b none none)).push (.load (.ram 0#32) .b none none)).resume).tick = 2 := rfl

/-- A timer and another register, a thread of the core to give the turn to, and deferred failures. -/
theorem witness_EnvironmentEvents : CtReg.isTimer .txtimer = true ∧ CtReg.isTimer .txenable = false ∧
    (∃ o ∈ State.reset.others, o.tid = 1) ∧ State.reset.th.tid ≠ 1 ∧ State.reset.mem.wf = true ∧
    deferredFailures.cfg.memErrorMode = .deferred ∧ State.reset.cfg.memErrorMode ≠ .deferred ∧
    ({ State.reset with env := [some (.select 1)] } : State).env = some (.select 1) :: [] ∧
    ({ State.reset with env := [some (.retranslate [])] } : State).env = some (.retranslate []) :: [] ∧
    ({ State.reset with env := [some (.ctHook 0 .txenable 0#32 true)] } : State).env =
      some (.ctHook 0 .txenable 0#32 true) :: [] :=
  ⟨rfl, rfl, ⟨_, List.mem_cons_self, rfl⟩, by decide, rfl, rfl, by decide, rfl, rfl, rfl⟩

/-- The next instruction gives way before its second access; the address of the store is the last one of 64 bits. -/
def givingWay : State :=
  { regs [(.a1, 0#5, 0xFFFFFFF0#32), (.d0, 1#5, 0x11223344#32), (.d1, 1#5, 0x55667788#32)] with
    mid := [.writes [], .giveWay] }

theorem witness_WideAccessesGiveWay :
    (∃ p, SetPairForm givingWay (.setlI6 1#5 0#5 1#6 false 0#2 1#4 false) p False ∧ givingWay.mem.wf = true ∧
      givingWay.mid = [.writes [], .giveWay] ∧ givingWay.th.todo = [] ∧ aligned (p.mem.addr givingWay) .l = true ∧
      givingWay.target 1 (p.mem.addr givingWay) = some (.ram 0xFFFFFFF8#32)) ∧
    (State.reset.push (.store 0xFFFFFFFC#32 .d 1#64)).th.todo = [.store 0xFFFFFFFC#32 .d 1#64] ∧
    (State.reset.push (.store 0xFFFFFFFC#32 .d 1#64)).th.runState ≠ .halted :=
  ⟨⟨_, .setlI6, rfl, rfl, rfl, by decide, rfl⟩, rfl, by decide⟩

/-- A 64-bit store that gives way stores its low half, and its high half at the next turn of the thread. -/
theorem test_wide_store_gives_way :
    seen (fun s => (wordAt s 0xFFFFFFF8, wordAt s 0xFFFFFFFC, s.th.todo.length))
      (exec (.setlI6 1#5 0#5 1#6 false 0#2 1#4 false) givingWay) = some (0x11223344, 0, 1) ∧
    seen (fun s => (wordAt s.close.resume 0xFFFFFFFC, s.close.resume.th.todo))
      (exec (.setlI6 1#5 0#5 1#6 false 0#2 1#4 false) givingWay) = some (0x55667788, []) := by decide

/-- A halted thread, with and without anything left for the environment to do, and a thread that runs. -/
theorem witness_HaltedThread : ((State.reset.setRun .halted).th.runState = .halted ∧ (State.reset.setRun .halted).env = []) ∧
    ({ State.reset.setRun .halted with env := [none, some (.kick 0)] } : State).env = none :: some (.kick 0) :: [] ∧
    ({ State.reset.setRun .halted with env := [some (.during [.giveWay])] } : State).env =
      some (.during [.giveWay]) :: [] ∧
    ({ State.reset.setRun .halted with env := [some (.restart 0 8#32)] } : State).env =
      some (.restart (State.reset.setRun .halted).th.tid 8#32) :: [] ∧
    State.reset.th.runState ≠ .halted := by decide

theorem witness_StepRunsDecoded : Ready (State.reset.withFetchWord 32 0xA0FFFFFE) ∧
    (State.reset.withFetchWord 32 0xA0FFFFFE).target 2 0#32 = some (.ram 0#32) ∧
    decode ((State.reset.withFetchWord 32 0xA0FFFFFE).fetchByte 3#32 ++
      (State.reset.withFetchWord 32 0xA0FFFFFE).fetchByte 2#32 ++ (State.reset.withFetchWord 32 0xA0FFFFFE).fetchByte 1#32 ++
      (State.reset.withFetchWord 32 0xA0FFFFFE).fetchByte 0#32).toNat = some .nop ∧
    seen (fun s => s.th.pc) (exec .nop { State.reset.withFetchWord 32 0xA0FFFFFE with
      th := { (State.reset.withFetchWord 32 0xA0FFFFFE).th with runState := .running } }) = some 4#32 :=
  ⟨⟨by decide, by decide, by decide, (by intro t h; cases h), by decide⟩, rfl, by decide, by decide⟩

theorem witness_FetchExceptions : (State.reset.setPc 0xFFFFFFFD#32).th.pc.toNat % 4 ≠ 0 ∧
    (unmapped.th.pc.toNat % 4 = 0 ∧ unmapped.target 2 unmapped.th.pc = none) ∧
    (State.reset.target 2 State.reset.th.pc = some (.ram 0#32) ∧ decode 0x90000000 = none) ∧ State.reset.env = [] ∧
    State.reset.th.runState ≠ .halted :=
  ⟨by decide, by decide, ⟨rfl, by decide⟩, rfl, by decide⟩

theorem witness_OtherThreadsKept : ∃ t, exec .nop State.reset = .next t := ⟨_, rfl⟩

/-- Pipelines at their capacity, a lock held, and a memory with a byte in it. -/
theorem witness_StepKeepsInvariant :
    State.Inv { fullQueue with mem := [(0xFFFFFFFF, 1#8)], volOwner := some 0, globOwner := some 0 } ∧
    ∃ t, step { fullQueue with mem := [(0xFFFFFFFF, 1#8)], volOwner := some 0, globOwner := some 0 } = .next t := by
  refine ⟨⟨by decide, by unfold Thread.pipelineFits; decide, ?_, ?_⟩, _, rfl⟩
  · intro t ht; simp [fullQueue, queue, State.setRdq, State.reset, Thread.start] at ht; subst ht
    unfold Thread.pipelineFits; decide
  · intro t h; exact h

/-- Words at both ends of each range of primary opcodes. -/
theorem witness_DecodeEncode :
    ((Instr.addRR false false 0#5 0#5 0#5).wellFormed = true ∧ bits (encode (.addRR false false 0#5 0#5 0#5)) 28 4 < 9) ∧
    ((Instr.subACX8 true 31#5 true 15#4 255#8 15#4).wellFormed = true ∧
      bits (encode (.subACX8 true 31#5 true 15#4 255#8 15#4)) 28 4 = 8) ∧
    (Instr.rti.wellFormed = true ∧ bits (encode .rti) 28 4 = 10) ∧
    ((Instr.setbR 31#5 31#5 31#5 true 3#2 15#4 true).wellFormed = true ∧
      bits (encode (.setbR 31#5 31#5 31#5 true 3#2 15#4 true)) 28 4 = 11) ∧
    ((Instr.cpwlMemI8 3#2 7#3 31#5 255#8 true true true).wellFormed = true ∧
      bits (encode (.cpwlMemI8 3#2 7#3 31#5 255#8 true true true)) 28 4 = 14) := by decide

end Sys2Proof.Tests
end

section
/-! SUPPORT. What every instruction keeps: each meaning is a chain of the operations of Laws/Kept.lean, and `exec` is one
of these meanings for each constructor. -/

namespace Sys2Proof.Claims
open Sys2Proof.Machine

section Ends
/-! ## The ends of instructions -/

theorem KeepsOut.finish_ok {s t : State} (h : Kept s t) : KeepsOut s (Machine.finish s (.ok () t)) :=
  .finish (.refl s) (.ok h _)

theorem KeepsOut.finish_res {s : State} {r : Res Unit} (h : KeepsRes s r) : KeepsOut s (Machine.finish s r) :=
  .finish (.refl s) h

theorem KeepsOut.finish_exc {s : State} {k : ExcKind} : KeepsOut s (Machine.finish s (.exc k)) := .finish_res .exc

theorem KeepsOut.drained {s : State} {r : Res Unit} (h : KeepsRes s r) : KeepsOut s (drained s r) :=
  .ite (.finish_res h) .finish_exc

/-- An instruction that reads operand 2 by operand 2 replace, and ends with an update of the state. -/
theorem KeepsRes.readO2R_ok {s : State} {u : BUnit} {osel : BitVec 2} {oreg : BitVec 3} {slot : Nat}
    {f : Word → State → State} (hf : ∀ b t, Kept s t → Kept s (f b t)) :
    KeepsRes s ((Machine.readO2R s u osel oreg slot).bind fun b t => .ok () (f b t)) :=
  .bind (.readO2R (.refl s) _ _ _ _) fun _ _ ht => .ok (hf _ _ ht) _

/-- A conditional write of any unit at the end of an instruction. -/
theorem KeepsRes.writeUnitIf {s t : State} (h : Kept s t) (c : Bool) (u : BitVec 4) (n : BitVec 5) (v : Word) :
    KeepsRes s (if c then Machine.writeUnit (Machine.advance t) u n v else .ok () (Machine.advance t)) :=
  .ite (.writeUnit h.advance _ _ _) (.ok h.advance _)

end Ends

section DataUnit
/-! ## The data and address units -/

theorem Kept.endData {s t : State} (h : Kept s t) (op sf u rd a b) : Kept s (endData op sf u rd a b t) :=
  (h.advance.setFlagsIf _ _).writeReg _ _ _

theorem KeepsRes.endUnit {s t : State} (h : Kept s t) (op sf ud rd a b) : KeepsRes s (endUnit op sf ud rd a b t) :=
  .writeUnit (h.advance.setFlagsIf _ _) _ _ _

theorem KeepsRes.endUnitIf {s t : State} (h : Kept s t) (c : Bool) (op sf ud rd a b) :
    KeepsRes s (if c then Machine.endUnit op sf ud rd a b t else .ok () (Machine.advance t)) :=
  .ite (.endUnit h _ _ _ _ _ _) (.ok h.advance _)

theorem KeepsOut.aluRR (op sf du rd rs1 rs2) (s : State) : KeepsOut s (aluRR op sf du rd rs1 rs2 s) :=
  .finish_ok ((Kept.refl s).endData _ _ _ _ _ _)

theorem KeepsOut.aluRX (op sf du rd rs1 osel oreg) (s : State) : KeepsOut s (aluRX op sf du rd rs1 osel oreg s) :=
  .finish_res (.readO2R_ok fun _ _ ht => ht.endData _ _ _ _ _ _)

theorem KeepsOut.aluR1 (op sf du rd rs2) (s : State) : KeepsOut s (aluR1 op sf du rd rs2 s) :=
  .finish_ok ((Kept.refl s).endData _ _ _ _ _ _)

theorem KeepsOut.aluX1 (op sf du rd osel oreg) (s : State) : KeepsOut s (aluX1 op sf du rd osel oreg s) :=
  .finish_res (.readO2R_ok fun _ _ ht => ht.endData _ _ _ _ _ _)

theorem KeepsOut.aluI16 (op sf du rd b) (s : State) : KeepsOut s (aluI16 op sf du rd b s) :=
  .finish_ok ((Kept.refl s).endData _ _ _ _ _ _)

theorem KeepsOut.aluCR (op sf du rd rs1 rs2 ud cc) (s : State) : KeepsOut s (aluCR op sf du rd rs1 rs2 ud cc s) :=
  .finish_res (.endUnitIf (.refl s) _ _ _ _ _ _ _)

theorem KeepsOut.aluCX (op sf du rd rs1 osel oreg ud cc) (s : State) :
    KeepsOut s (aluCX op sf du rd rs1 osel oreg ud cc s) :=
  .finish_res (.bind (.readO2R (.refl s) _ _ _ _) fun _ _ ht => .endUnitIf ht _ _ _ _ _ _ _)

theorem KeepsOut.aluUX8 (op sf du rd rs imm ud) (s : State) : KeepsOut s (aluUX8 op sf du rd rs imm ud s) :=
  .finish_res (.endUnit (.refl s) _ _ _ _ _ _)

theorem KeepsOut.aluCX8 (op sf du rd rs imm cc) (s : State) : KeepsOut s (aluCX8 op sf du rd rs imm cc s) :=
  .finish_ok (.ite ((Kept.refl s).endData _ _ _ _ _ _) (Kept.refl s).advance)

theorem Kept.endAddr {s t : State} (h : Kept s t) (u rd v) : Kept s (endAddr u rd v t) := h.advance.writeReg _ _ _

theorem KeepsOut.auRR (op au rd pc1 rs1 pc2 rs2) (s : State) : KeepsOut s (auRR op au rd pc1 rs1 pc2 rs2 s) :=
  .finish_ok ((Kept.refl s).endAddr _ _ _)

theorem KeepsOut.auRX (op au rd pc1 rs1 osel oreg) (s : State) : KeepsOut s (auRX op au rd pc1 rs1 osel oreg s) :=
  .finish_res (.readO2R_ok fun _ _ ht => ht.endAddr _ _ _)

theorem KeepsOut.auR1 (op au rd pc2 rs2) (s : State) : KeepsOut s (auR1 op au rd pc2 rs2 s) :=
  .finish_ok ((Kept.refl s).endAddr _ _ _)

theorem KeepsOut.auX1 (op au rd osel oreg) (s : State) : KeepsOut s (auX1 op au rd osel oreg s) :=
  .finish_res (.readO2R_ok fun _ _ ht => ht.endAddr _ _ _)

theorem KeepsOut.auI16 (op au pcb rd b) (s : State) : KeepsOut s (auI16 op au pcb rd b s) :=
  .finish_ok ((Kept.refl s).endAddr _ _ _)

theorem KeepsOut.auCR (op au rd pc1 rs1 pc2 rs2 ud cc) (s : State) :
    KeepsOut s (auCR op au rd pc1 rs1 pc2 rs2 ud cc s) :=
  .finish_res (.writeUnitIf (.refl s) _ _ _ _)

theorem KeepsOut.auCX (op au rd pc1 rs1 osel oreg ud cc) (s : State) :
    KeepsOut s (auCX op au rd pc1 rs1 osel oreg ud cc s) :=
  .finish_res (.bind (.readO2R (.refl s) _ _ _ _) fun _ _ ht => .writeUnitIf ht _ _ _ _)

theorem KeepsOut.auUX8 (op au rd pc1 rs imm ud) (s : State) : KeepsOut s (auUX8 op au rd pc1 rs imm ud s) :=
  .finish_res (.writeUnit (Kept.refl s).advance _ _ _)

theorem KeepsOut.auCX8 (op au rd pc1 rs imm cc) (s : State) : KeepsOut s (auCX8 op au rd pc1 rs imm cc s) :=
  .finish_ok (.ite ((Kept.refl s).endAddr _ _ _) (Kept.refl s).advance)

/-! Shifts and multiplies. -/

theorem Kept.endShift {s t : State} (h : Kept s t) (op sf u rd a n) : Kept s (endShift op sf u rd a n t) :=
  (h.advance.setFlagsIf _ _).writeReg _ _ _

theorem KeepsOut.shiftIn (op sf du rd rs1 n) (s : State) : KeepsOut s (shiftIn op sf du rd rs1 n s) :=
  .finish_ok ((Kept.refl s).endShift _ _ _ _ _ _)

theorem KeepsOut.shiftOut (op sf du rd rs1 n ud) (s : State) : KeepsOut s (shiftOut op sf du rd rs1 n ud s) :=
  .finish_res (.writeUnit ((Kept.refl s).advance.setFlagsIf _ _) _ _ _)

theorem KeepsOut.shiftCond (op sf du rd rs1 n cc) (s : State) : KeepsOut s (shiftCond op sf du rd rs1 n cc s) :=
  .finish_ok (.ite ((Kept.refl s).endShift _ _ _ _ _ _) (Kept.refl s).advance)

theorem Kept.endMul {s t : State} (h : Kept s t) (u rd v) : Kept s (endMul u rd v t) := h.advance.writeReg _ _ _

theorem KeepsOut.mulRR (op du rd rs1 rs2) (s : State) : KeepsOut s (mulRR op du rd rs1 rs2 s) :=
  .finish_ok ((Kept.refl s).endMul _ _ _)

theorem KeepsOut.mulRX (op du rd rs1 osel oreg) (s : State) : KeepsOut s (mulRX op du rd rs1 osel oreg s) :=
  .finish_res (.readO2R_ok fun _ _ ht => ht.endMul _ _ _)

theorem KeepsOut.mulI16 (op du rd b) (s : State) : KeepsOut s (mulI16 op du rd b s) :=
  .finish_ok ((Kept.refl s).endMul _ _ _)

theorem KeepsOut.mulUR (op du rd rs1 rs2 ud) (s : State) : KeepsOut s (mulUR op du rd rs1 rs2 ud s) :=
  .finish_res (.endMulOut (.refl s) _ _ _)

theorem KeepsOut.mulUX (op du rd rs1 osel oreg ud) (s : State) : KeepsOut s (mulUX op du rd rs1 osel oreg ud s) :=
  .finish_res (.bind (.readO2R (.refl s) _ _ _ _) fun _ _ ht => .endMulOut ht _ _ _)

theorem KeepsOut.mulUX8 (op du rd rs imm ud) (s : State) : KeepsOut s (mulUX8 op du rd rs imm ud s) :=
  .finish_res (.endMulOut (.refl s) _ _ _)

theorem KeepsOut.mulCR (op du rd rs1 rs2 cc) (s : State) : KeepsOut s (mulCR op du rd rs1 rs2 cc s) :=
  .finish_ok (.ite ((Kept.refl s).endMul _ _ _) (Kept.refl s).advance)

theorem KeepsOut.mulCX (op du rd rs1 osel oreg cc) (s : State) : KeepsOut s (mulCX op du rd rs1 osel oreg cc s) :=
  .finish_res (.readO2R_ok fun _ _ ht => .ite (ht.endMul _ _ _) ht.advance)

theorem KeepsOut.mulCX8 (op du rd rs imm cc) (s : State) : KeepsOut s (mulCX8 op du rd rs imm cc s) :=
  .finish_ok (.ite ((Kept.refl s).endMul _ _ _) (Kept.refl s).advance)

/-! The extended operations, the comparisons and the exchanges of bytes. -/

theorem Kept.endExt {s t : State} (h : Kept s t) (u rd r x y) : Kept s (endExt u rd r x y t) :=
  (h.advance.setFlags _).writeReg _ _ _

theorem KeepsOut.ext1 (f y du rd rs) (s : State) : KeepsOut s (ext1 f y du rd rs s) :=
  .finish_ok ((Kept.refl s).endExt _ _ _ _ _)

theorem KeepsOut.nminRR (du rd rs1 rs2) (s : State) : KeepsOut s (execNminRR du rd rs1 rs2 s) := .ext1 _ _ _ _ _ s

theorem KeepsOut.ext2 (f du rd rs1 rs2) (s : State) : KeepsOut s (ext2 f du rd rs1 rs2 s) :=
  .finish_ok ((Kept.refl s).endExt _ _ _ _ _)

theorem KeepsOut.pack2 (f i du rd rs1 rs2) (s : State) : KeepsOut s (pack2 f i du rd rs1 rs2 s) :=
  .ite (.ext2 _ _ _ _ _ s) .finish_exc

theorem KeepsOut.packX (f i du rd rs1 osel oreg) (s : State) : KeepsOut s (packX f i du rd rs1 osel oreg s) :=
  .ite (.finish_res (.readO2R_ok fun _ _ ht => ht.endExt _ _ _ _ _)) .finish_exc

theorem KeepsOut.cmpReg (tst du rs1 rs2) (s : State) : KeepsOut s (cmpReg tst du rs1 rs2 s) :=
  .finish_ok ((Kept.refl s).advance.setFlags _)

theorem KeepsOut.cmpRep (tst du rs1 osel oreg) (s : State) : KeepsOut s (cmpRep tst du rs1 osel oreg s) :=
  .finish_res (.readO2R_ok fun _ _ ht => ht.advance.setFlags _)

theorem KeepsOut.cmpImm (tst du rs b) (s : State) : KeepsOut s (cmpImm tst du rs b s) :=
  .finish_ok ((Kept.refl s).advance.setFlags _)

theorem KeepsOut.cmpRegC (tst du rs1 rs2 cc) (s : State) : KeepsOut s (cmpRegC tst du rs1 rs2 cc s) :=
  .finish_ok ((Kept.refl s).advance.setFlagsIf _ _)

theorem KeepsOut.cmpRepC (tst du rs1 osel oreg cc) (s : State) : KeepsOut s (cmpRepC tst du rs1 osel oreg cc s) :=
  .finish_res (.readO2R_ok fun _ _ ht => ht.advance.setFlagsIf _ _)

theorem KeepsOut.cmpImmC (tst du rs imm cc) (s : State) : KeepsOut s (cmpImmC tst du rs imm cc s) :=
  .finish_ok ((Kept.refl s).advance.setFlagsIf _ _)

theorem KeepsOut.shuffle (f sf du rd rs) (s : State) : KeepsOut s (shuffle f sf du rd rs s) :=
  .finish_ok (((Kept.refl s).advance.setFlagsIf _ _).writeReg _ _ _)

theorem KeepsOut.bexl (rd rs sf du) (s : State) : KeepsOut s (execBexl rd rs sf du s) :=
  .finish_ok ((((Kept.refl s).advance.setFlagsIf _ _).writeReg _ _ _).writeReg _ _ _)

end DataUnit

section Control
/-! ## Branches, moves, locks and caches -/

theorem KeepsOut.nop (s : State) : KeepsOut s (execNop s) := .finish_ok (Kept.refl s).advance

theorem KeepsOut.branchTo (rep c off) (s : State) : KeepsOut s (branchTo rep c off s) := by
  have hs : Kept s (if rep then countDown s else s) := .ite (Kept.refl s).countDown (.refl s)
  exact .finish_ok (.ite (hs.setPc _) hs.advance)

theorem KeepsOut.callr (off bu rr) (s : State) : KeepsOut s (execCallr off bu rr s) :=
  .finish_ok (((Kept.refl s).writeReg _ _ _).setPc _)

theorem KeepsOut.jump (rs imm bu) (s : State) : KeepsOut s (execJump rs imm bu s) := .finish_ok ((Kept.refl s).setPc _)

theorem KeepsOut.call (rs imm bu) (s : State) : KeepsOut s (execCall rs imm bu s) :=
  .finish_ok (((Kept.refl s).writeReg _ _ _).setPc _)

theorem KeepsOut.moveUnit (c us rs ud rd) (s : State) : KeepsOut s (moveUnit c us rs ud rd s) :=
  .finish_res (.bind (.readUnit (.refl s) _ _ _) fun _ _ ht => .writeUnitIf ht _ _ _ _)

theorem KeepsOut.swapUnits (c us rs ud rd) (s : State) : KeepsOut s (swapUnits c us rs ud rd s) := by
  have hs := Kept.refl s
  refine .ite (.finish hs.fresh (.ite ?forbidden (.ok hs.advance _))) (.finish_res ?allowed)
  case forbidden => exact .bind (.writeFree hs.advance _ _ _) fun _ _ h1 => .writeFree h1.fresh _ _ _
  case allowed =>
    refine .bind (.readUnit hs _ _ _) fun _ _ h1 => .bind (.readUnit h1 _ _ _) fun _ _ h2 => .ite ?_ (.ok h2.advance _)
    exact .bind (.writeUnit h2.advance _ _ _) fun _ _ h3 => .writeUnit h3 _ _ _

theorem KeepsOut.moveRd (sz ud rd cc) (s : State) : KeepsOut s (moveRd sz ud rd cc s) :=
  .finish_res (.bind (.rdPop (.refl s)) fun _ _ ht => .writeUnitIf ht _ _ _ _)

theorem KeepsOut.movlTtrec (rs1 rs2 bu cc) (s : State) : KeepsOut s (execMovlTtrec rs1 rs2 bu cc s) :=
  .finish_ok (.ite ((Kept.refl s).advance.traceRecord _ _) (Kept.refl s).advance)

theorem KeepsOut.movlRd (rd1 rd2 bu cc) (s : State) : KeepsOut s (execMovlRd rd1 rd2 bu cc s) :=
  .finish_res (.bind (.rdPop (.refl s)) fun _ _ ht => .ok (.ite (ht.advance.writePair _ _ _ _) ht.advance) _)

theorem KeepsOut.ttmov (rd rs us ud cc) (s : State) : KeepsOut s (execTtmov rd rs us ud cc s) := by
  refine .finish_res (.bind (.readUnit (.refl s) _ _ _) fun _ _ h1 => .ite ?_ (.ok h1.advance _))
  exact .bind (.writeUnit h1.advance _ _ _) fun _ _ h2 => .ok (h2.traceRecord _ _) _

theorem KeepsOut.kick (rd rs ud cc) (s : State) : KeepsOut s (execKick rd rs ud cc s) := by
  have hk := (Kept.refl s).advance.setKick (s.th.kickCount - 1)
  exact .ite (.finish_res .block) (.finish_res (.ite (.writeUnit hk _ _ _) (.ok hk _)))

theorem KeepsOut.defr (rd rs ud cc) (s : State) : KeepsOut s (execDefr rd rs ud cc s) := by
  have hc := (Kept.refl s).advance.clearDeferred rs
  exact .finish_res (.ite (.writeUnit hc _ _ _) (.ok hc _))

theorem KeepsOut.movCt (rd imm se h) (s : State) : KeepsOut s (execMovCt rd imm se h s) :=
  .finish_ok ((Kept.refl s).advance.writeCt _ _)

theorem KeepsOut.movTt (rd imm se h) (s : State) : KeepsOut s (execMovTt rd imm se h s) :=
  .finish_ok ((Kept.refl s).advance.writeTt _ _)

theorem KeepsOut.rti (s : State) : KeepsOut s (execRti s) := .drained (.ok (Kept.refl s).returnFromInterrupt _)

theorem KeepsOut.rth (s : State) : KeepsOut s (execRth s) :=
  .drained (.ok ((Kept.refl s).advance.setIstat _).clearLink _)

theorem KeepsOut.switch (v) (s : State) : KeepsOut s (execSwitch v s) := .finish_exc

/-- A lock that is held after its release is held by another thread, which held it before. -/
theorem released_eq_some {s : State} {o : Option Nat} {t : Nat} :
    released s o = some t ↔ o = some t ∧ t ≠ s.th.tid := by
  unfold released
  split
  · simp_all
  · rename_i hne
    exact ⟨fun h => ⟨h, fun he => hne (he ▸ h)⟩, And.left⟩

theorem mayHold_eq_true {s : State} {o : Option Nat} : mayHold s o = true ↔ o = none ∨ o = some s.th.tid := by
  simp [mayHold]

/-- A change of the locks that keeps their order. -/
theorem Kept.setLocks {s t : State} (h : Kept s t) {vol glob : Option Nat}
    (hl : s.lockOrder → ∀ n, glob = some n → vol = some n) :
    Kept s { t with volOwner := vol, globOwner := glob } :=
  ⟨h.others, h.tid, h.ex, h.cfg, h.env, h.tick, h.mem, h.fits, hl⟩

theorem KeepsOut.lock0 (s : State) : KeepsOut s (execLock0 s) := by
  refine .drained (.ok ((Kept.refl s).advance.setLocks fun ho n hn => ?_) _)
  obtain ⟨hg, hne⟩ := released_eq_some.1 hn
  exact released_eq_some.2 ⟨ho n hg, hne⟩

theorem KeepsOut.lock1 (s : State) : KeepsOut s (execLock1 s) := by
  refine .drained ?_
  split
  · rename_i hm
    refine .ok ((Kept.refl s).advance.setLocks fun ho n hn => ?_) _
    obtain ⟨hg, hne⟩ := released_eq_some.1 hn
    rw [mayHold_eq_true, ho n hg] at hm
    simp_all
  · exact .block

theorem KeepsOut.lock2 (s : State) : KeepsOut s (execLock2 s) :=
  .drained (.ite (.ok ((Kept.refl s).advance.setLocks fun _ _ hn => hn) _) .block)

theorem KeepsOut.cacherl (rd rb imm bua bur) (s : State) : KeepsOut s (execCacherl rd rb imm bua bur s) :=
  .finish_ok ((Kept.refl s).advance.writePair _ _ _ _)

theorem KeepsOut.cacherd (rd rb imm bua bur) (s : State) : KeepsOut s (execCacherd rd rb imm bua bur s) :=
  .finish_ok ((Kept.refl s).advance.writeReg _ _ _)

theorem KeepsOut.cachewl (rs rb imm bua bur) (s : State) : KeepsOut s (execCachewl rs rb imm bua bur s) :=
  .finish_ok ((Kept.refl s).advance.cacheCommand _ _ _)

theorem KeepsOut.cachewd (rs rb imm bua bur) (s : State) : KeepsOut s (execCachewd rs rb imm bua bur s) :=
  .finish_ok ((Kept.refl s).advance.cacheCommand _ _ _)

theorem KeepsOut.dcache (rs rb imm bua bur) (s : State) : KeepsOut s (execDcache rs rb imm bua bur s) :=
  .finish_ok ((Kept.refl s).advance.lineCommand _ _)

theorem KeepsOut.icacheExit (pri) (s : State) : KeepsOut s (execIcacheExit pri s) :=
  .finish_ok (((Kept.refl s).advance.emit _).setPrefetch _)

theorem KeepsOut.icache (off count pri) (s : State) : KeepsOut s (execIcache off count pri s) :=
  .finish_ok (((Kept.refl s).advance.emit _).setPrefetch _)

end Control

section MemoryAccess
/-! ## Loads, stores, issues and coprocessor transfers -/

theorem KeepsOut.getOne (sz e ud rd) (s : State) : KeepsOut s (getOne sz e ud rd s) :=
  .finish_res (.bind (.memRead (.refl s) _ _ _) fun _ _ ht => .endGet (ht.advance.exprUpdate _) _ _ _ _)

theorem KeepsOut.getPair (e ud rd) (s : State) : KeepsOut s (getPair e ud rd s) :=
  .finish_res (.bind (.locate (.refl s) _ _ _) fun _ _ ht => .endGetPair (ht.advance.exprUpdate _) _ _ _)

theorem KeepsOut.issueOne (sz e port) (s : State) : KeepsOut s (issueOne sz e port s) :=
  .finish_res (.bind (.raIssue (.refl s) _ _ _) fun _ _ ht => .ok (ht.advance.exprUpdate _) _)

theorem KeepsOut.storeOne (sz e) {data : Res DWord} {s : State} (hd : KeepsRes s data) :
    KeepsOut s (storeOne sz e data s) :=
  .finish_res (.bind hd fun _ _ h1 => .bind (.memWrite h1 _ _ _ _) fun _ _ h2 => .ok (h2.advance.exprUpdate _) _)

theorem KeepsOut.storeIf (c sz a) {data : Res DWord} {s : State} (hd : KeepsRes s data) :
    KeepsOut s (storeIf c sz a data s) :=
  .finish_res (.bind hd fun _ _ h1 =>
    .ite (.bind (.memWrite h1 _ _ _ _) fun _ _ h2 => .ok h2.advance _) (.ok h1.advance _))

theorem KeepsOut.setIf (sz i rs rb us bu cc) (s : State) : KeepsOut s (setIf sz i rs rb us bu cc s) :=
  .ite .finish_exc (.storeIf _ _ _ (.setData (.refl s) _ _ _ _))

theorem KeepsOut.setdCc (rs rb us bu cc) (s : State) : KeepsOut s (execSetdCc rs rb us bu cc s) :=
  .setIf _ _ _ _ _ _ _ s

/-- A store of the data of a register. -/
theorem KeepsOut.storeReg (sz e us rs free) (s : State) :
    KeepsOut s (Machine.storeOne sz e (Machine.setData s sz us rs free) s) :=
  .storeOne _ _ (.setData (.refl s) _ _ _ _)

/-- A store of a value that reads no more than registers. -/
theorem KeepsOut.storeValue (sz e v) (s : State) : KeepsOut s (Machine.storeOne sz e (Res.ok v s) s) :=
  .storeOne _ _ (.ok (.refl s) _)

/-- A store of what a port of the ports unit delivers. -/
theorem KeepsOut.storePort (sz e cp) (s : State) : KeepsOut s (Machine.storeOne sz e (Machine.portData s cp sz) s) :=
  .storeOne _ _ (.portData (.refl s) _ _)

theorem KeepsOut.storePortIf (c sz a cp) (s : State) :
    KeepsOut s (Machine.storeIf c sz a (Machine.portData s cp sz) s) :=
  .storeIf _ _ _ (.portData (.refl s) _ _)

theorem KeepsOut.storeValueIf (c sz a v) (s : State) : KeepsOut s (Machine.storeIf c sz a (Res.ok v s) s) :=
  .storeIf _ _ _ (.ok (.refl s) _)

theorem KeepsOut.linkedLoad (sz a lo hi) (s : State) : KeepsOut s (linkedLoad sz a lo hi s) :=
  .finish_res (.bind (.locate (.refl s) _ _ _) fun _ _ ht =>
    .ok (ht.advance.loads _ _ _ _ _ fun _ hu => hu.setLink _ _) _)

theorem KeepsOut.linkedSet (sz a cc) {data : Res DWord} {s : State} (hd : KeepsRes s data) :
    KeepsOut s (linkedSet sz a data cc s) :=
  .finish_res (.bind hd fun _ _ ht => .ok (Kept.advance (.ite (ht.linkedStore _ _ _) ht)).clearLink _)

theorem KeepsOut.linkedSetOne (sz rs rb us bu cc) (s : State) : KeepsOut s (linkedSetOne sz rs rb us bu cc s) :=
  .linkedSet _ _ _ (.bind (.readUnit (.refl s) _ _ _) fun _ _ ht => .ok ht _)

theorem KeepsOut.lnksetl (rs rb us bu cc) (s : State) : KeepsOut s (execLnksetl rs rb us bu cc s) :=
  .linkedSet _ _ _ (.ok (.refl s) _)

/-! Register lists: one element keeps what `Kept` says. -/

theorem KeepsRes.mgetElement {s t : State} (h : Kept s t) (pair u b rb bad base e) :
    KeepsRes s (mgetElement pair u b rb bad base e t) := by
  refine .bind (.locate h _ _ _) fun p t1 h1 => ?_
  have hl := h1.loads p (elementSize pair) (elementDest u (badElement u b rb e.1) e.1)
    (if pair then elementDest u.opp (badElement u.opp b rb e.1) e.1 else none) id fun _ hu => hu
  have hlo := hl.freeElement u (badElement u b rb e.1) 32 e.1
  exact .ok (.writeReg (.ite (hlo.freeElement _ _ _ _) hlo) _ _ _) _

theorem KeepsRes.msetElement {s t : State} (h : Kept s t) (pair u b rb s0 n) :
    KeepsRes s (msetElement pair u b rb s0 n t) :=
  .bind (.memWrite h _ _ _ _) fun _ _ h1 => .ok (h1.writeReg _ _ _) _

theorem KeepsRes.mmovRaElement {s t : State} (h : Kept s t) (pair port b rb n) :
    KeepsRes s (mmovRaElement pair port b rb n t) :=
  .bind (.raIssue h _ _ _) fun _ _ h1 => .ok (h1.writeReg _ _ _) _

theorem KeepsRes.mmovRdElement {s t : State} (h : Kept s t) (pair u n) : KeepsRes s (mmovRdElement pair u n t) := by
  refine .bind (.rdPop h) fun v t1 h1 => ?_
  have hlo := h1.writeElement u (!listable u n) 32 n (lowWord v)
  exact .ok (.ite (hlo.writeElement _ _ _ _ _) hlo) _

theorem KeepsOut.mget (pair rd rb rmask bua bud) (s : State) : KeepsOut s (mget pair rd rb rmask bua bud s) :=
  .runElements (fun _ _ ht => .mgetElement ht _ _ _ _ _ _ _) _ (.refl s) (.refl s)

theorem KeepsOut.mset (pair rs rb rmask bua bus) (s : State) : KeepsOut s (mset pair rs rb rmask bua bus s) :=
  .runElements (fun _ _ ht => .msetElement ht _ _ _ _ _ _) _ (.refl s) (.refl s)

theorem KeepsOut.mmovRa (pair port rb rmask bua) (s : State) : KeepsOut s (mmovRa pair port rb rmask bua s) :=
  .runElements (fun _ _ ht => .mmovRaElement ht _ _ _ _ _) _ (.refl s) (.refl s)

theorem KeepsOut.mmovRd (pair rd rmask bur) (s : State) : KeepsOut s (mmovRd pair rd rmask bur s) :=
  .runElements (fun _ _ ht => .mmovRdElement ht _ _ _) _ (.refl s) (.refl s)

theorem KeepsOut.mdrd (rmask) (s : State) : KeepsOut s (execMdrd rmask s) :=
  .runElements (fun _ _ ht => .bind (.rdPop ht) fun _ _ h1 => .ok h1 _) _ (.refl s) (.refl s)

/-! Coprocessor ports and repeating transfers. -/

theorem KeepsOut.cprUnit (sz i rd cp ud cc) (s : State) : KeepsOut s (cprUnit sz i rd cp ud cc s) :=
  .ite .finish_exc (.finish_res (.writeUnitIf ((Kept.refl s).cpRead cp sz) _ _ _ _))

theorem KeepsOut.cprdUnit (rd cp ud cc) (s : State) : KeepsOut s (execCprdUnit rd cp ud cc s) := .cprUnit _ _ _ _ _ _ s

theorem KeepsOut.cprlPair (rd1 cp rd2 bu cc) (s : State) : KeepsOut s (execCprlPair rd1 cp rd2 bu cc s) := by
  have hr := ((Kept.refl s).cpRead cp .l).advance
  exact .finish_ok (.ite (hr.writePair _ _ _ _) hr)

theorem KeepsOut.cprRepeat (sz bud updD pp rdb rdo cp) (s : State) :
    KeepsOut s (cprRepeat sz bud updD pp rdb rdo cp s) := by
  have hr := ((Kept.refl s).exprUpdate (exprR s bud rdb rdo updD pp)).cpRead cp sz
  exact .finish_res (.bind (.memWrite hr _ _ _ _) fun _ _ ht => .ok ht.repeatOrAdvance _)

theorem KeepsOut.cpwlMem (rep cp e) (s : State) : KeepsOut s (cpwlMem rep cp e s) := by
  refine .finish_res (.bind (.rdPop (.refl s)) fun d _ h1 => ?_)
  have hw := (h1.exprUpdate e).cpWrite cp d
  exact .bind (.raIssue hw _ _ _) fun _ _ h2 => .ok (.ite h2.repeatOrAdvance h2.advance) _

theorem KeepsOut.xfr (sz bud bus updD updS pp rdb rdo rsb rso) (s : State) :
    KeepsOut s (xfr sz bud bus updD updS pp rdb rdo rsb rso s) := by
  refine .finish_res (.bind (.rdPop (.refl s)) fun _ _ h1 => ?_)
  refine .bind (.memWrite ((h1.exprUpdate _).exprUpdate _) _ _ _ _) fun _ _ h2 => ?_
  exact .bind (.raIssue h2 _ _ _) fun _ _ h3 => .ok h3.repeatOrAdvance _

theorem KeepsOut.cpxl (cpd cps rep) (s : State) : KeepsOut s (execCpxl cpd cps rep s) := by
  have hw := ((Kept.refl s).cpRead cps .l).cpWrite cpd (cpRead s cps .l).1
  exact .finish_ok (.ite hw.repeatOrAdvance hw.advance)

theorem KeepsOut.cpwlRR (bu cp rs1 rs2) (s : State) : KeepsOut s (execCpwlRR bu cp rs1 rs2 s) :=
  .finish_ok ((Kept.refl s).cpWrite _ _).advance

theorem KeepsOut.cpwlRI (bu cp rs1 imm) (s : State) : KeepsOut s (execCpwlRI bu cp rs1 imm s) :=
  .finish_ok ((Kept.refl s).cpWrite _ _).advance

end MemoryAccess

section Exec
/-! ## Every instruction, and the turn of a thread -/

/-- Every instruction keeps what `Kept` says: each constructor runs one of the meanings above. -/
theorem exec_keeps (i : Instr) (s : State) : KeepsOut s (exec i s) := by
  cases i
  case addRR | subRR | andRR | orRR | xorRR => apply KeepsOut.aluRR
  case addRX | subRX | andRX | orRX | xorRX => apply KeepsOut.aluRX
  case movRR | negRR => apply KeepsOut.aluR1
  case movRX | negRX => apply KeepsOut.aluX1
  case addI16 | movI16 | subI16 | negI16 | andI16 | orI16 | xorI16 => apply KeepsOut.aluI16
  case addCR | subCR | andCR | orCR | xorCR => apply KeepsOut.aluCR
  case addCX | subCX | andCX | orCX | xorCX => apply KeepsOut.aluCX
  case addUX8 | subUX8 | andUX8 | orUX8 | xorUX8 => apply KeepsOut.aluUX8
  case addCX8 | subCX8 | andCX8 | orCX8 | xorCX8 => apply KeepsOut.aluCX8
  case addARR | subARR => apply KeepsOut.auRR
  case addARX | subARX => apply KeepsOut.auRX
  case movARR | negARR => apply KeepsOut.auR1
  case movARX | negARX => apply KeepsOut.auX1
  case addAI16 | movAI16 | subAI16 | negAI16 => apply KeepsOut.auI16
  case addACR | subACR => apply KeepsOut.auCR
  case addACX | subACX => apply KeepsOut.auCX
  case addAUX8 | subAUX8 => apply KeepsOut.auUX8
  case addACX8 | subACX8 => apply KeepsOut.auCX8
  case lslRR | lslI5 | lsrRR | lsrI5 | aslRR | aslI5 | asrRR | asrI5 => apply KeepsOut.shiftIn
  case lslUR | lslUI5 | lsrUR | lsrUI5 | aslUR | aslUI5 | asrUR | asrUI5 => apply KeepsOut.shiftOut
  case lslCR | lslCI5 | lsrCR | lsrCI5 | aslCR | aslCI5 | asrCR | asrCI5 => apply KeepsOut.shiftCond
  case mulwRR | muldRR => apply KeepsOut.mulRR
  case mulwRX | muldRX => apply KeepsOut.mulRX
  case mulwI16 | muldI16 => apply KeepsOut.mulI16
  case mulwUR | muldUR => apply KeepsOut.mulUR
  case mulwUX | muldUX => apply KeepsOut.mulUX
  case mulwUX8 | muldUX8 => apply KeepsOut.mulUX8
  case mulwCR | muldCR => apply KeepsOut.mulCR
  case mulwCX | muldCX => apply KeepsOut.mulCX
  case mulwCX8 | muldCX8 => apply KeepsOut.mulCX8
  case absRR | ffbRR | normRR => apply KeepsOut.ext1
  case nminRR => apply KeepsOut.nminRR
  case maxRR | minRR => apply KeepsOut.ext2
  case mortRR | vpackRR => apply KeepsOut.pack2
  case mortRX | vpackRX => apply KeepsOut.packX
  case cmpRR | tstRR => apply KeepsOut.cmpReg
  case cmpRX | tstRX => apply KeepsOut.cmpRep
  case cmpI16 | tstI16 => apply KeepsOut.cmpImm
  case cmpCR | tstCR => apply KeepsOut.cmpRegC
  case cmpCX | tstCX => apply KeepsOut.cmpRepC
  case cmpCX8 | tstCX8 => apply KeepsOut.cmpImmC
  case nop => apply KeepsOut.nop
  case branch | branchCc => apply KeepsOut.branchTo
  case movbRd | movwRd | movdRd => apply KeepsOut.moveRd
  case cprbUnit | cprwUnit => apply KeepsOut.cprUnit
  case cprdUnit => apply KeepsOut.cprdUnit
  case movlTtrec => apply KeepsOut.movlTtrec
  case movlRd => apply KeepsOut.movlRd
  case cprlPair => apply KeepsOut.cprlPair
  case rti => apply KeepsOut.rti
  case rth => apply KeepsOut.rth
  case ttmov => apply KeepsOut.ttmov
  case kick => apply KeepsOut.kick
  case defr => apply KeepsOut.defr
  case swap | swapCc => apply KeepsOut.swapUnits
  case movUnit | movUnitCc => apply KeepsOut.moveUnit
  case cprbMemCc | cprwMemCc | cprdMemCc | cprlMemCc => apply KeepsOut.storePortIf
  case setbCc | setwCc => apply KeepsOut.setIf
  case setdCc => apply KeepsOut.setdCc
  case setlCc => apply KeepsOut.storeValueIf
  case lnksetb | lnksetw | lnksetd => apply KeepsOut.linkedSetOne
  case lnksetl => apply KeepsOut.lnksetl
  case setbS12 | setwS12 | setdS12 | setdShort | setbR | setbI6 | setwR | setwI6 | setdR | setdI6 =>
    apply KeepsOut.storeReg
  case setlS12 | setlR | setlI6 => apply KeepsOut.storeValue
  case movbRaS12 | movwRaS12 | movdRaS12 | movlRaS12 | movbRaR | movbRaI6 | movwRaR | movwRaI6 | movdRaR | movdRaI6
      | movlRaR | movlRaI6 =>
    apply KeepsOut.issueOne
  case getbS12 | getwS12 | getdS12 | getdShort | getbR | getbI6 | getwR | getwI6 | getdR | getdI6 =>
    apply KeepsOut.getOne
  case getlS12 | getlR | getlI6 => apply KeepsOut.getPair
  case lock0 => apply KeepsOut.lock0
  case lock1 => apply KeepsOut.lock1
  case lock2 => apply KeepsOut.lock2
  case movCt => apply KeepsOut.movCt
  case movTt => apply KeepsOut.movTt
  case xsdb | xsdw | bexd | rtdw => apply KeepsOut.shuffle
  case bexl => apply KeepsOut.bexl
  case callr => apply KeepsOut.callr
  case jump => apply KeepsOut.jump
  case call => apply KeepsOut.call
  case lnkgetb | lnkgetw | lnkgetd | lnkgetl => apply KeepsOut.linkedLoad
  case cacherl => apply KeepsOut.cacherl
  case cacherd => apply KeepsOut.cacherd
  case cachewl => apply KeepsOut.cachewl
  case cachewd => apply KeepsOut.cachewd
  case dcache => apply KeepsOut.dcache
  case icacheExit => apply KeepsOut.icacheExit
  case icache => apply KeepsOut.icache
  case switch => apply KeepsOut.switch
  case cprbMemR | cprbMemI6 | cprwMemR | cprwMemI6 | cprdMemR | cprdMemI6 | cprlMemR | cprlMemI6 =>
    apply KeepsOut.storePort
  case msetd | msetl => apply KeepsOut.mset
  case mgetd | mgetl => apply KeepsOut.mget
  case mmovdRa | mmovlRa => apply KeepsOut.mmovRa
  case mdrd => apply KeepsOut.mdrd
  case mmovdRd | mmovlRd => apply KeepsOut.mmovRd
  case cprdr0 | cprdr1 | cprdr2 | cprdr3 | cprlr0 | cprlr1 | cprlr2 | cprlr3 => apply KeepsOut.cprRepeat
  case xfrd01 | xfrd02 | xfrd03 | xfrd10 | xfrd12 | xfrd13 | xfrd20 | xfrd21 | xfrd23 | xfrd30 | xfrd31 | xfrd32
      | xfrl01 | xfrl02 | xfrl03 | xfrl10 | xfrl12 | xfrl13 | xfrl20 | xfrl21 | xfrl23 | xfrl30 | xfrl31 | xfrl32 =>
    apply KeepsOut.xfr
  case cpxl => apply KeepsOut.cpxl
  case cpwlRR => apply KeepsOut.cpwlRR
  case cpwlRI => apply KeepsOut.cpwlRI
  case cpwlMemR | cpwlMemI8 => apply KeepsOut.cpwlMem
  case movr | swapr => apply KeepsOut.refused

theorem SameThread.pipelineUse {t u : Thread} (h : SameThread t u) (p : Params) :
    u.pipelineUse p = t.pipelineUse p := by
  rw [h.1]; rfl

theorem exists_sameThread {l m : List Thread} (h : List.Forall₂ SameThread l m) {u : Thread} (hu : u ∈ m) :
    ∃ t ∈ l, SameThread t u := by
  induction h with
  | nil => cases hu
  | @cons t v l m htv _ ih =>
    obtain rfl | hu := List.mem_cons.1 hu
    · exact ⟨t, List.mem_cons_self, htv⟩
    · obtain ⟨w, hw, hwu⟩ := ih hu
      exact ⟨w, List.mem_cons_of_mem _ hw, hwu⟩

/-- What `Kept` says is enough for the invariant. -/
theorem Kept.inv {s t : State} (h : Kept s t) (hi : s.Inv) : t.Inv where
  mem := h.mem hi.mem
  turn := by unfold Thread.pipelineFits; rw [h.cfg]; exact h.fits hi.turn
  rest := by
    intro u hu
    obtain ⟨v, hv, hvu⟩ := exists_sameThread h.others hu
    unfold Thread.pipelineFits
    rw [h.cfg, SameThread.pipelineUse hvu]
    exact hi.rest v hv
  locks := h.locks hi.locks

/-! The turn of a thread. -/

theorem KeepsRes.fetchWord (s : State) : KeepsRes s (fetchWord s) := by
  unfold Machine.fetchWord
  refine .ite ?_ .exc
  split
  · exact .exc
  · exact .ok (.refl s) _
  · exact .ok ((Kept.refl s).emit _) _

theorem KeepsOut.after {s t : State} {o : Out} (h : Kept s t) (ho : KeepsOut t o) : KeepsOut s o :=
  fun u hu => h.trans (ho u hu)

theorem KeepsOut.next {s t : State} (h : Kept s t) : KeepsOut s (.next t) := by intro u hu; cases hu; exact h

theorem KeepsOut.runWord {s : State} {r : Res Word} (hr : KeepsRes s r) : KeepsOut s (runWord r s) := by
  unfold Machine.runWord
  split
  · exact .next ((Kept.refl s).raise _)
  · exact .next ((Kept.refl s).blockOn _)
  · rename_i w s1
    have h1 : Kept s s1 := hr _ _ rfl
    split
    · exact .next (h1.raise _)
    · exact .after (h1.setRun _) (exec_keeps _ _)

theorem KeepsOut.runTurn {s : State} (hi : s.Inv) : KeepsOut s (runTurn s) :=
  .ite (.next (.refl s)) (.ite (.next (.refl s)) (.ite (.runWord (.fetchWord s)) (.next (resume_kept hi.turn))))

end Exec

end Sys2Proof.Claims
end

section
/-! SUPPORT. The invariant: what keeps it, from the turn of a thread to the events of the environment, and that every
step does. -/

namespace Sys2Proof.Machine
open Sys2Proof.Claims

section Invariant

/-- The script, the points of this turn and the counter are no part of the invariant. -/
theorem State.Inv.setScript {s : State} (h : s.Inv) (env mid tick) :
    State.Inv { s with env := env, mid := mid, tick := tick } :=
  ⟨h.mem, h.turn, h.rest, h.locks⟩

theorem State.Inv.close {s : State} (h : s.Inv) : s.close.Inv := h.setScript _ _ _

theorem closeOut_eq_next {o : Out} {t : State} (h : closeOut o = .next t) : ∃ u, o = .next u ∧ t = u.close := by
  cases o with
  | next u => cases h; exact ⟨u, rfl, rfl⟩
  | fault f => cases h
  | refused r => cases h

/-- The turn of a thread in a state that meets the invariant leads to such a state. -/
theorem State.Inv.closeOut_runTurn {s t : State} (hi : s.Inv) (h : closeOut (runTurn s) = .next t) : t.Inv := by
  obtain ⟨u, hu, rfl⟩ := closeOut_eq_next h
  exact State.Inv.close ((KeepsOut.runTurn hi u hu).inv hi)

/-! The events of the environment: none of them changes a read pipeline. -/

/-- The change leaves the read pipeline alone, and what is still to come. -/
def KeepsPipe (f : Thread → Thread) : Prop := ∀ t, (f t).rdq = t.rdq ∧ (f t).todo = t.todo

theorem KeepsPipe.fits {f : Thread → Thread} (hf : KeepsPipe f) {p : Params} {t : Thread} (h : t.pipelineFits p) :
    (f t).pipelineFits p := by
  unfold Thread.pipelineFits Thread.pipelineUse
  rw [(hf t).1, (hf t).2]; exact h

theorem KeepsPipe.raiseTrigger (l b) : KeepsPipe fun t => t.raiseTrigger l b := by
  intro t; cases l <;> exact ⟨rfl, rfl⟩

theorem KeepsPipe.kick : KeepsPipe fun t => { t with kickCount := t.kickCount + 1 } := fun _ => ⟨rfl, rfl⟩

theorem KeepsPipe.interrupt (k) : KeepsPipe (Thread.interrupt k) := by
  intro t; unfold Thread.interrupt; split <;> exact ⟨rfl, rfl⟩

theorem KeepsPipe.restart (pc) : KeepsPipe (Thread.restart pc) := by
  intro t; unfold Thread.restart; split <;> exact ⟨rfl, rfl⟩

theorem KeepsPipe.setCell (r v) : KeepsPipe (Thread.setCell r v) := fun _ => ⟨rfl, rfl⟩

theorem KeepsPipe.report (b l v) : KeepsPipe (Thread.report b l v) := by
  intro t; unfold Thread.report
  split
  · cases l <;> exact ⟨rfl, rfl⟩
  · exact ⟨rfl, rfl⟩

theorem KeepsPipe.hook (r v h) : KeepsPipe (Thread.hook r v h) := by
  intro t; cases h <;> exact ⟨rfl, rfl⟩

theorem State.Inv.onThread {s : State} (hi : s.Inv) (n : Nat) {f : Thread → Thread} (hf : KeepsPipe f) :
    (s.onThread n f).Inv := by
  unfold State.onThread
  split
  · exact ⟨hi.mem, hf.fits hi.turn, hi.rest, hi.locks⟩
  · refine ⟨hi.mem, hi.turn, fun u hu => ?_, hi.locks⟩
    obtain ⟨t, ht, rfl⟩ := List.mem_map.1 hu
    split
    · exact hf.fits (hi.rest t ht)
    · exact hi.rest t ht

theorem State.Inv.select {s : State} (hi : s.Inv) (n : Nat) : (s.select n).Inv := by
  unfold State.select
  split
  · exact hi
  · split
    · exact hi
    · rename_i t ht
      refine ⟨hi.mem, hi.rest t (List.mem_of_find?_eq_some ht), fun u hu => ?_, hi.locks⟩
      obtain rfl | hu := List.mem_cons.1 hu
      · exact hi.turn
      · exact hi.rest u (List.mem_of_mem_eraseP hu)

theorem State.Inv.ite {s t : State} {c : Prop} [Decidable c] (h : s.Inv) (h2 : t.Inv) :
    State.Inv (if c then s else t) := by
  split <;> assumption

theorem State.Inv.deliver {s : State} (hi : s.Inv) (e : EnvEvent) : (deliver e s).Inv := by
  cases e with
  | trigger n l b => exact hi.onThread n (.raiseTrigger l b)
  | kick n => exact hi.onThread n .kick
  | interrupt n => exact .ite hi (hi.onThread n (.interrupt _))
  | restart n pc => exact hi.onThread n (.restart pc)
  | timerTick n r v => exact .ite (hi.onThread n (.setCell r v)) hi
  | extWrite a v => exact ((Kept.refl s).foreignByte (a, v)).inv hi
  | deferredReport n l v =>
    cases hm : s.cfg.memErrorMode with
    | sync => simpa only [Machine.deliver, hm] using hi
    | deferred => simpa only [Machine.deliver, hm] using hi.onThread n (.report _ l v)
  | retranslate table => exact ⟨hi.mem, hi.turn, hi.rest, hi.locks⟩
  | ctHook n r v h => exact hi.onThread n (.hook r v h)
  | select n => exact hi.select n
  | during points => exact hi

/-- Settles O54: every instruction keeps what `Kept` says, which holds more. -/
theorem otherThreadsKept : Obligations.OtherThreadsKept := by
  intro i s t h
  have hk := exec_keeps i s t h
  exact ⟨hk.others, hk.tid, hk.ex, hk.cfg, hk.env, hk.tick⟩

/-- Settles O56, by the cases of the script: a turn keeps the invariant since every instruction and every access still
to come does, and an event since it changes neither a pipeline nor a lock. -/
theorem stepKeepsInvariant : Obligations.StepKeepsInvariant := by
  intro s t hi h
  unfold step runScript at h
  split at h
  · exact hi.closeOut_runTurn h
  · rename_i rest _
    exact (hi.setScript rest s.mid s.tick).closeOut_runTurn h
  · rename_i ws rest _
    exact (hi.setScript rest (opening ws) s.tick).closeOut_runTurn h
  · rename_i e rest _ _
    cases h
    exact ((hi.setScript rest s.mid s.tick).deliver e).close

end Invariant

end Sys2Proof.Machine
end

section
/-! SUPPORT. The memory instructions of one shape have one meaning, and everything that this meaning can do is said once
in the vocabulary of the statements: loads, issues, linked loads and stores; with them the misaligned accesses. -/

namespace Sys2Proof.Claims
open Sys2Proof.Machine

section Expressions
/-! ## Address expressions -/

/-- The address expression of a memory operand, with its registers read. -/
def AddrForm.expr (e : AddrForm) (s : State) : AddrExpr :=
  { unit := e.unit, reg := e.rb, base := e.base s, offset := e.offset, update := e.ua, post := e.pp }

@[simp] theorem AddrForm.exprAddr_expr (e : AddrForm) (s : State) : exprAddr (e.expr s) = e.addr s := rfl

theorem scaled_eq {n : Nat} (k : BitVec n) (sz : Size) : scaled k sz = BitVec.ofInt 32 (k.toInt * sz.bytes) := by
  rw [scaled, BitVec.signExtend, BitVec.ofInt_mul, BitVec.ofInt_natCast]

theorem exprI_eq {n : Nat} (s : State) (u : BUnit) (rb : BitVec 5) (k : BitVec n) (sz : Size) (ua pp : Bool) :
    exprI s u rb (scaled k sz) ua pp = (immOff u rb k sz ua pp).expr s := by
  rw [scaled_eq]; rfl

theorem exprS_eq (s : State) (bua : BitVec 2) (rb : BitVec 1) (imm : BitVec 12) (sz : Size) :
    exprS s bua rb imm sz = (s12Off bua rb imm sz).expr s := exprI_eq s _ _ imm sz false false

/-- After the access the pc has advanced and the base is updated, whatever the access has changed. -/
theorem exprUpdate_baseStep (e : AddrForm) (s t : State) :
    BaseStep t (exprUpdate (e.expr s) (advance t)) e.ua e.unit e.rb (e.base s + e.offset) := by
  unfold BaseStep exprUpdate AddrForm.expr
  dsimp only
  split
  · exact writeReg_gprWrite (atNext t) _ _ _
  · rfl

@[simp] theorem exprUpdate_mem (e : AddrExpr) (s : State) : (exprUpdate e s).mem = s.mem := by
  unfold exprUpdate; split <;> simp

@[simp] theorem exprUpdate_mid (e : AddrExpr) (s : State) : (exprUpdate e s).mid = s.mid := by
  unfold exprUpdate; split <;> simp

@[simp] theorem exprUpdate_tick (e : AddrExpr) (s : State) : (exprUpdate e s).tick = s.tick := by
  unfold exprUpdate; split <;> simp

@[simp] theorem exprUpdate_others (e : AddrExpr) (s : State) : (exprUpdate e s).others = s.others := by
  unfold exprUpdate; split <;> simp

@[simp] theorem exprUpdate_dcOld (e : AddrExpr) (s : State) : (exprUpdate e s).dcOld = s.dcOld := by
  unfold exprUpdate; split <;> simp

@[simp] theorem exprUpdate_th_todo (e : AddrExpr) (s : State) : (exprUpdate e s).th.todo = s.th.todo := by
  unfold exprUpdate; split <;> simp

theorem quiet_exprUpdate {s : State} (hq : Quiet s) (e : AddrExpr) : Quiet (exprUpdate e s) :=
  Quiet.congr (exprUpdate_mid e s) (exprUpdate_th_todo e s) hq

end Expressions

section Meanings
/-! ## The meaning of each form -/

theorem GetForm.exec_eq {s : State} {i : Instr} {p : AccessOp} (h : GetForm s i p) :
    p.size ≠ .l ∧ exec i s = getOne p.size (p.mem.expr s) p.unit p.reg s := by
  cases h
  case getbR | getwR | getdR => exact ⟨nofun, rfl⟩
  case getbS12 | getwS12 | getdS12 => exact ⟨nofun, by rw [← exprS_eq]; rfl⟩
  case getdShort | getbI6 | getwI6 | getdI6 => exact ⟨nofun, by rw [← exprI_eq]; rfl⟩

theorem GetPairForm.exec_eq {s : State} {i : Instr} {p : AccessOp} (h : GetPairForm s i p) :
    p.size = .l ∧ exec i s = getPair (p.mem.expr s) p.unit p.reg s := by
  cases h
  case getlR => exact ⟨rfl, rfl⟩
  case getlS12 => exact ⟨rfl, by rw [← exprS_eq]; rfl⟩
  case getlI6 => exact ⟨rfl, by rw [← exprI_eq]; rfl⟩

theorem sameUnit_iff {bu : BitVec 2} {us : BitVec 4} : sameUnit bu us = true ↔ us = (baseUnit bu).code := by
  rw [sameUnit, beq_iff_eq, eq_comm]

/-- A store of up to 32 bits; `free` says whether the data is unspecified. -/
theorem SetForm.exec_eq {s : State} {i : Instr} {p : AccessOp} {unsaid : Prop} (h : SetForm s i p unsaid) :
    ∃ free : Bool, (free = true ↔ unsaid) ∧
      exec i s = storeOne p.size (p.mem.expr s) (setData s p.size p.unit p.reg free) s := by
  cases h
  case setbR | setwR | setdR => exact ⟨_, sameUnit_iff, rfl⟩
  case setbS12 | setwS12 | setdS12 => exact ⟨false, Bool.false_eq_true.to_iff, by rw [← exprS_eq]; rfl⟩
  case setdShort | setbI6 | setwI6 | setdI6 => exact ⟨false, Bool.false_eq_true.to_iff, by rw [← exprI_eq]; rfl⟩

@[simp] theorem BUnit.ofCode_code (u : BUnit) : BUnit.ofCode u.code = some u := by cases u <;> rfl

theorem BUnit.code_of_ofCode {c : BitVec 4} {u : BUnit} (h : BUnit.ofCode c = some u) : c = u.code := by
  revert c; cases u <;> decide

theorem sameKind_iff {bu : BitVec 2} {us : BitVec 4} :
    sameKind bu us = true ↔ ∃ v : BUnit, us = v.code ∧ v.isData = (baseUnit bu).isData := by
  unfold sameKind
  constructor
  · intro h
    split at h
    · rename_i u hu; exact ⟨u, BUnit.code_of_ofCode hu, beq_iff_eq.1 h⟩
    · cases h
  · rintro ⟨v, rfl, h⟩
    simp [h]

/-- A 64-bit store; `free` says whether the data is unspecified. -/
theorem SetPairForm.exec_eq {s : State} {i : Instr} {p : AccessOp} {unsaid : Prop} (h : SetPairForm s i p unsaid) :
    p.size = .l ∧ ∃ free : Bool, (free = true ↔ unsaid) ∧
      exec i s = storeOne .l (p.mem.expr s) (.ok (setPairData s p.unit p.reg free) s) s := by
  cases h
  case setlR => exact ⟨rfl, _, sameKind_iff, rfl⟩
  case setlS12 => exact ⟨rfl, false, Bool.false_eq_true.to_iff, by rw [← exprS_eq]; rfl⟩
  case setlI6 => exact ⟨rfl, false, Bool.false_eq_true.to_iff, by rw [← exprI_eq]; rfl⟩

theorem CprMemForm.exec_eq {s : State} {i : Instr} {p : AccessOp} (h : CprMemForm s i p) :
    exec i s = storeOne p.size (p.mem.expr s) (portData s p.reg p.size) s := by
  cases h
  case cprbMemR | cprwMemR | cprdMemR | cprlMemR => rfl
  case cprbMemI6 | cprwMemI6 | cprdMemI6 | cprlMemI6 => rw [← exprI_eq]; rfl

theorem IssueForm.exec_eq {s : State} {i : Instr} {p : AccessOp} (h : IssueForm s i p) :
    exec i s = issueOne p.size (p.mem.expr s) p.reg s := by
  cases h
  case movbRaR | movwRaR | movdRaR | movlRaR => rfl
  case movbRaS12 | movwRaS12 | movdRaS12 | movlRaS12 => rw [← exprS_eq]; rfl
  case movbRaI6 | movwRaI6 | movdRaI6 | movlRaI6 => rw [← exprI_eq]; rfl

theorem SetCcForm.exec_eq {i : Instr} {p : CcStoreOp} (h : SetCcForm i p) (s : State) :
    exec i s = if wideOnly p.size p.us then finish s (.exc (.unknownInstruction (BitVec.ofNat 32 (encode i)))) else
      storeIf (s.passes p.cc) p.size (readReg s p.baseUnit p.rb 2) (setData s p.size p.us p.rs false) s := by
  cases h <;> rfl

theorem exec_setlCc (s : State) (rs rb : BitVec 5) (us : BitVec 4) (bu : BitVec 2) (cc : BitVec 4) :
    exec (.setlCc rs rb us bu cc) s = storeIf (s.passes cc) .l (readReg s (baseUnit bu) rb 2)
      (.ok (setPairData s us rs false) s) s := rfl

theorem CprMemCcForm.exec_eq {i : Instr} {p : CcStoreOp} (h : CprMemCcForm i p) (s : State) :
    exec i s = storeIf (s.passes p.cc) p.size (readReg s p.baseUnit p.rb 2) (portData s p.rs p.size) s := by
  cases h <;> rfl

theorem LnkGetForm.exec_eq {s : State} {i : Instr} {sz : Size} {a : Word} {u : BUnit} {rd : BitVec 5}
    (h : LnkGetForm s i sz a u rd) : sz ≠ .l ∧ exec i s = linkedLoad sz a (some (u, rd)) none s := by
  cases h <;> exact ⟨nofun, rfl⟩

theorem exec_lnkgetl (s : State) (rd rb : BitVec 5) (bua bur : BitVec 2) :
    exec (.lnkgetl rd rb bua bur) s = linkedLoad .l (readReg s (baseUnit bua) rb 2) (some (baseUnit bur, rd))
      (some ((baseUnit bur).opp, rd)) s := rfl

end Meanings

section Data
/-! ## The data of a store -/

/-- Nothing has changed but what a read of the data of a store may take: triggers, a kick, an entry of the pipeline. -/
def ReadOnly (s t : State) : Prop :=
  t = { s with
    th := { s.th with trig0 := t.th.trig0, trig1 := t.th.trig1, kickCount := t.th.kickCount, rdq := t.th.rdq }
    emitted := t.emitted }

theorem ReadOnly.refl (s : State) : ReadOnly s s := rfl

theorem ReadOnly.quiet {s t : State} (h : ReadOnly s t) (hq : Quiet s) : Quiet t := by rw [h]; exact hq

theorem ReadOnly.cfg {s t : State} (h : ReadOnly s t) : t.cfg = s.cfg := by rw [h]

theorem ReadOnly.mem {s t : State} (h : ReadOnly s t) : t.mem = s.mem := by rw [h]

theorem CoproRead.readOnly {s t : State} {port : BitVec 3} {sz : Size} {d : DWord} (h : CoproRead s t port sz d) :
    ReadOnly s t := by
  obtain ⟨_, h⟩ := h
  split at h <;> subst h <;> rfl

theorem Popped.readOnly {s t : State} {e : DWord} (h : Popped s t e) : ReadOnly s t := by
  unfold ReadOnly; rw [h.2]

theorem StatusRead.readOnly {s t : State} {level : Bool} {v : Word} (h : StatusRead s t level v) : ReadOnly s t := by
  unfold ReadOnly; rw [h.rest]

theorem PortRead.readOnly {s t : State} {n : BitVec 5} {v : Word} (h : PortRead s t n v) : ReadOnly s t := by
  unfold PortRead at h
  split at h
  · obtain ⟨d, hd, _⟩ := h; exact hd.readOnly
  · split at h
    · obtain ⟨e, he, _⟩ := h; exact he.readOnly
    · subst h; exact .refl t

theorem TrRead.readOnly {s t : State} {n : BitVec 5} {v : Word} (h : TrRead s t n v) : ReadOnly s t := by
  unfold TrRead at h
  split at h
  case h_1 | h_2 => exact h.readOnly
  case h_3 | h_4 | h_5 | h_6 => obtain ⟨rfl, _⟩ := h; exact .refl t
  case h_7 => subst h; exact .refl t

theorem UnitRead.readOnly {s t : State} {u : BitVec 4} {n : BitVec 5} {k : Nat} {v : Word}
    (h : UnitRead s t u n k v) : ReadOnly s t := by
  unfold UnitRead at h
  split at h
  case h_7 => exact h.readOnly
  case h_8 => exact h.readOnly
  case h_10 => subst h; exact .refl t
  all_goals obtain ⟨rfl, _⟩ := h; exact .refl t

theorem PortData.readOnly {s t : State} {n : BitVec 5} {sz : Size} {d : DWord} (h : PortData s t n sz d) :
    ReadOnly s t := by
  unfold PortData at h
  split at h
  · exact h.readOnly
  · split at h
    · exact h.readOnly
    · subst h; exact .refl t

theorem wideOnly_iff {sz : Size} {u : BitVec 4} : wideOnly sz u = true ↔ SmallSpecial sz u := by
  simp only [wideOnly, controlUnit, SmallSpecial, Bool.and_eq_true, bne_iff_ne, Bool.or_eq_true, beq_iff_eq, or_assoc]

theorem canRead_of_not_port {s : State} {u : BitVec 4} {n : BitVec 5} (hu : u ≠ 6#4) (hw : ¬ ReadWaits s u n) :
    CanRead s u n := ⟨hw, fun h => hu h.1⟩

/-- The data of a store of up to 32 bits from a register that can be read. -/
theorem setData_ok {s : State} {u : BitVec 4} {n : BitVec 5} (h : CanRead s u n) (sz : Size) (free : Bool) :
    ∃ v s1 d, setData s sz u n free = .ok d s1 ∧ UnitRead s s1 u n 0 v ∧
      (free = false → ¬ SmallSpecial sz u → d = v.setWidth 64) := by
  obtain ⟨v, s1, hr, hv⟩ := readUnit_ok 0 h
  refine ⟨v, s1, _, by rw [setData, hr]; rfl, hv, fun hf hs => ?_⟩
  have hw : wideOnly sz u = false := Bool.eq_false_iff.2 (mt wideOnly_iff.1 hs)
  simp [hf, hw]

/-- The data of a store from the ports unit, with an entry in the pipeline if it is RD. -/
theorem portData_ok {s : State} {n : BitVec 5} (h : ¬ (n = 16#5 ∧ s.th.rdq = [])) (sz : Size) :
    ∃ s1 d, portData s n sz = .ok d s1 ∧ PortData s s1 n sz d := by
  unfold portData PortData
  split
  · exact ⟨_, _, rfl, cpRead_coproRead s _ sz⟩
  · split
    · rename_i hn
      cases hq : s.th.rdq with
      | nil => exact absurd ⟨hn, hq⟩ h
      | cons e q => exact ⟨_, e, by rw [rdPop, hq], setRdq_popped hq⟩
    · exact ⟨_, _, rfl, rfl⟩

/-- The data of a 64-bit store, as far as the statements say it. -/
theorem setPairData_eq {s : State} {c : BitVec 4} {n : BitVec 5} {free : Bool} {u : BUnit} (hc : c = u.code)
    (hf : free = false) : setPairData s c n free = readReg s u.opp n 1 ++ readReg s u n 0 := by
  subst hc hf; simp [setPairData, readPair]

end Data

section Loads
/-! ## Loads and issues -/

theorem lowWord_eq_setWidth (v : DWord) : lowWord v = v.setWidth 32 := by
  apply BitVec.eq_of_toNat_eq; simp [lowWord]

/-- The end of a load of up to 32 bits. -/
theorem endGet_ok (p : AccessOp) (v : DWord) (s : State) (hu : p.unit ≠ 6#4) :
    ∃ t, endGet p.size p.unit p.reg v s = .ok () t ∧ GetDest p v s t ∧ t.mem = s.mem := by
  unfold endGet
  by_cases hw : wideOnly p.size p.unit = true
  · obtain ⟨t, ht, hf, hm⟩ := writeFree_ok (s := s) p.reg 0 hu
    rw [if_pos hw]
    exact ⟨t, ht, ⟨fun hs => absurd (wideOnly_iff.1 hw) hs, fun _ => hf⟩, hm⟩
  · obtain ⟨t, ht, hf, hm⟩ := writeUnit_ok (s := s) (n := p.reg) (v := lowWord v) fun e => absurd e hu
    rw [if_neg hw]
    rw [lowWord_eq_setWidth] at hf ht
    exact ⟨t, by rw [lowWord_eq_setWidth, ht], ⟨fun _ => hf, fun hs => absurd (wideOnly_iff.2 hs) hw⟩, hm⟩

/-- Everything that a load of up to 32 bits can do. -/
theorem getOne_ends {i : Instr} {s : State} {p : AccessOp}
    (he : exec i s = getOne p.size (p.mem.expr s) p.unit p.reg s) (hl : p.size ≠ .l) (hu : p.unit ≠ 6#4)
    (hq : Quiet s) : RaisesFault i s (p.mem.addr s) .read ∨ LoadEnds i s p.size p.mem (GetDest p) := by
  unfold getOne at he
  rw [AddrForm.exprAddr_expr] at he
  rcases memRead_cases hq 0 (p.mem.addr s) hl with ⟨v, s1, hr, hv⟩ | ⟨hr, hs, _⟩
  · obtain ⟨t, ht, hd, hm⟩ := endGet_ok p v (exprUpdate (p.mem.expr s) (advance s1)) hu
    refine .inr ⟨v, s1, _, t, ?_, hv, exprUpdate_baseStep p.mem s s1, hd, fun a => ?_⟩
    · rw [he, hr, Res.bind, ht]; rfl
    · rw [hm, exprUpdate_mem]; exact congrArg (·.get a) hv.mem_eq
  · exact .inl ⟨hs, by rw [he, hr]; rfl⟩

/-- Both accesses of a load of a pair, from a quiet state, write the pair. -/
theorem loads_pairWrite {s : State} (hq : Quiet s) (p : Source × Option Source) (u : BUnit) (n : BitVec 5) :
    PairWrite (readLocated p .l s).2 (s.loads p .l (some (u, n)) (some (u.opp, n)) id) u n n
      (readLocated p .l s).1 := by
  rw [loads_located (f := id) hq p _ _ (fun _ => rfl) (fun _ _ _ => rfl) (fun _ h => h) fun _ _ _ => rfl]
  exact writePair_pairWrite _ u n n _

/-- A load that delivers nothing only reads. -/
theorem loads_none {s : State} (hq : Quiet s) (p : Source × Option Source) :
    s.loads p .l none none id = (readLocated p .l s).2 :=
  loads_located hq p none none (fun _ => rfl) (fun _ _ _ => rfl) (fun _ h => h) fun _ _ _ => rfl

theorem ofCode_none_ne {u : BitVec 4} (h : BUnit.ofCode u = none) (v : BUnit) : u ≠ v.code := by
  rintro rfl; rw [BUnit.ofCode_code] at h; cases h

/-- The end of a 64-bit load: both accesses, and the registers. -/
theorem endGetPair_ok (p : AccessOp) {s : State} (l : Source × Option Source) (hu : p.unit ≠ 6#4) (hq : Quiet s) :
    ∃ t, endGetPair l p.unit p.reg s = .ok () t ∧ GetPairDest p (readLocated l .l s).1 (readLocated l .l s).2 t ∧
      SameBytes (readLocated l .l s).2 t := by
  unfold endGetPair
  cases hc : BUnit.ofCode p.unit with
  | some u =>
    have hw := loads_pairWrite hq l u p.reg
    have hp := BUnit.code_of_ofCode hc
    refine ⟨_, rfl, ⟨fun u' hu' => ?_, fun h => absurd hp (h u)⟩, hw.bytes⟩
    have huu : u = u' := Option.some.inj (hc.symm.trans (by rw [hu', BUnit.ofCode_code]))
    exact huu ▸ hw
  | none =>
    simp only [loads_none hq]
    obtain ⟨t, ht, hf, hm⟩ := writeFree_ok (s := (readLocated l .l s).2) p.reg 0 hu
    exact ⟨t, ht, ⟨fun u h => absurd h (ofCode_none_ne hc u), fun _ => hf⟩, fun a => by rw [hm]⟩

/-- Everything that a 64-bit load can do. -/
theorem getPair_ends {i : Instr} {s : State} {p : AccessOp} (hl : p.size = .l)
    (he : exec i s = getPair (p.mem.expr s) p.unit p.reg s) (hu : p.unit ≠ 6#4) (hq : Quiet s) :
    RaisesFault i s (p.mem.addr s) .read ∨ LoadEnds i s p.size p.mem (GetPairDest p) := by
  unfold getPair at he
  rw [AddrForm.exprAddr_expr] at he
  rw [hl]
  rcases locate_cases s 0 (p.mem.addr s) .l with ⟨l, s1, hr, hs, _, _, hv⟩ | ⟨hr, hs, _⟩
  · have hq1 : Quiet (exprUpdate (p.mem.expr s) (advance s1)) := quiet_exprUpdate (s := advance s1) (hs.quiet hq) _
    obtain ⟨t, ht, hd, hm⟩ := endGetPair_ok p l hu hq1
    rw [readLocated_through (readsThrough_exprUpdate _), readLocated_through readsThrough_advance] at hd hm
    refine .inr ⟨_, _, _, t, ?_, hv, exprUpdate_baseStep p.mem s _, hd, fun a => ?_⟩
    · rw [he, hr, Res.bind, ht]; rfl
    · rw [hm]; simp [hv.mem_eq, advance]
  · exact .inl ⟨hs, by rw [he, hr]; rfl⟩

/-- Everything that an issue of an address to a port with room can do. -/
theorem issueOne_ends {i : Instr} {s : State} {p : AccessOp} (he : exec i s = issueOne p.size (p.mem.expr s) p.reg s)
    (hp : isReadPort p.reg = true) (hw : ¬ WriteWaits s 6#4 p.reg) (hq : Quiet s) :
    RaisesFault i s (p.mem.addr s) .read ∨ IssueEnds i s p := by
  unfold issueOne at he
  rw [AddrForm.exprAddr_expr] at he
  have hroom : s.th.rdq.length < Params.rdFifoDepth s.cfg := Nat.lt_of_not_le fun h => hw ⟨rfl, hp, h⟩
  rcases raIssue_cases (sz := p.size) (p.mem.addr s) hq hp hroom with ⟨t, ht, hi, hm⟩ | ⟨ht, hs, _⟩
  · refine .inr ⟨t, _, by rw [he, ht]; rfl, hi, exprUpdate_baseStep p.mem s t, fun a => ?_⟩
    rw [exprUpdate_mem]; exact congrArg (·.get a) hm
  · exact .inl ⟨hs, by rw [he, ht]; rfl⟩

end Loads

section LinkedLoads
/-! ## Linked loads -/

/-- A linked load records its access, which neither a read of the data nor a write of a register sees. -/
theorem readsThrough_setLink (a : Word) (sz : Size) : ReadsThrough fun t => setLink t a sz :=
  readsThrough_of (fun _ => rfl) (fun _ => rfl) (fun _ => rfl) (fun _ => rfl) (fun _ => rfl) fun _ _ => rfl

theorem setLink_writeReg (t : State) (u : BUnit) (n : BitVec 5) (v a : Word) (sz : Size) :
    setLink (writeReg t u n v) a sz = writeReg (setLink t a sz) u n v := by
  unfold writeReg setLink
  cases u <;> dsimp only <;> (repeat' split) <;> rfl

theorem setLink_deliverTo (t : State) (d : Dest) (v a : Word) (sz : Size) :
    setLink (t.deliverTo d v) a sz = (setLink t a sz).deliverTo d v := by
  cases d with
  | none => rfl
  | some p => exact setLink_writeReg t _ _ v a sz

@[simp] theorem deliverTo_mem (s : State) (d : Dest) (v : Word) : (s.deliverTo d v).mem = s.mem := by
  cases d with
  | none => rfl
  | some p => exact writeReg_mem _ _ _ _

theorem setLink_recorded (s : State) (a : Word) (sz : Size) : LinkRecorded s (setLink s a sz) 0 a sz := by
  refine ⟨_, fun pa h => ?_, rfl⟩
  unfold State.target at h
  cases ht : s.translate 0 a with
  | none => rw [ht] at h; cases h
  | some q =>
    simp only [ht] at h
    split at h <;> cases h
    rfl

/-- Everything that a linked load can do: `dest` is what holds once the registers of its destinations are written. -/
theorem linkedLoad_ends {i : Instr} {s : State} {sz : Size} {a : Word} {lo hi : Dest}
    {dest : DWord → State → State → Prop} (he : exec i s = linkedLoad sz a lo hi s) (hq : Quiet s)
    (hd : ∀ v t, dest v t ((t.deliverTo lo (lowWord v)).deliverTo hi (highWord v))) :
    RaisesFault i s a .read ∨ LinkedLoadEnds i s sz a dest := by
  unfold linkedLoad at he
  rcases locate_cases s 0 a sz with ⟨l, s1, hr, hs, hl, _, hv⟩ | ⟨hr, hs, _⟩
  · have hq1 : Quiet (advance s1) := hs.quiet hq
    have hload := loads_located hq1 l lo hi hl (readsThrough_setLink a sz) (fun _ h => h)
      fun t d v => setLink_deliverTo t d v a sz
    rw [readLocated_through readsThrough_advance] at hload
    refine .inr ⟨_, _, _, _, ?_, hv, setLink_recorded _ a sz, hd _ _, fun b => ?_⟩
    · rw [he, hr, Res.bind, hload]; rfl
    · rw [deliverTo_mem, deliverTo_mem]; exact congrArg (·.get b) hv.mem_eq
  · exact .inl ⟨hs, by rw [he, hr]; rfl⟩

end LinkedLoads

section Stores
/-! ## Stores -/

/-- A write of one access to a quiet machine makes it. -/
theorem memWrite_one {s : State} (hq : Quiet s) {slot : Nat} {a : Word} {sz : Size} {v : DWord} {e : Todo}
    (h : locateWrite s.noteStore slot a sz v = .ok [e] s.noteStore) :
    memWrite s slot a sz v = .ok () (e.act s.noteStore) := by
  rw [memWrite, h]
  exact congrArg (Res.ok ()) (State.event_of_quiet (s := s.noteStore) hq.1 hq.2 e)

/-- Everything that a misaligned write can do: the bytes it leaves are unspecified, in whatever form the memory is. -/
theorem memWrite_misaligned {s : State} (v : DWord) (hq : Quiet s) (slot : Nat) {a : Word} {sz : Size}
    (ha : aligned a sz = false) :
    (∃ t, memWrite s slot a sz v = .ok () t ∧ Writes s slot a v sz t) ∨
    (memWrite s slot a sz v = .exc (.memoryFault a .write) ∧ s.cfg.memErrorMode = .sync) := by
  have hfail : locateWrite s.noteStore slot a sz v = failedWrite s.noteStore a →
      (∃ t, memWrite s slot a sz v = .ok () t ∧ Writes s slot a v sz t) ∨
      (memWrite s slot a sz v = .exc (.memoryFault a .write) ∧ s.cfg.memErrorMode = .sync) := by
    intro h
    cases hm : s.cfg.memErrorMode with
    | sync => exact .inr ⟨by simp [memWrite, h, failedWrite, hm, Res.bind], rfl⟩
    | deferred => exact .inl ⟨_, by simp [memWrite, h, failedWrite, hm, Res.bind], .failed (.inr ha) hm⟩
  cases hf : Config.freeBit s.tick (.misaligned slot a) with
  | true => exact hfail (by simp [locateWrite, ha, hf])
  | false =>
    have ht' : s.noteStore.target slot a = s.target slot a := rfl
    cases ht : s.target slot a with
    | none => exact hfail (by simp [locateWrite, ha, hf, ht', ht])
    | some x =>
      left
      cases x with
      | ram pa =>
        have hl : locateWrite s.noteStore slot a sz v =
            .ok [.storeFree (cellOf pa a sz) (2 * sz.bytes)] s.noteStore := by
          simp [locateWrite, ha, hf, ht', ht, cellOf]
        exact ⟨_, memWrite_one hq hl, .stray ha ht (fun b hb => storeFree_get_of_ne s.noteStore _ _ b hb)
          (noteStore_storeFree s _ _)⟩
      | device d pa =>
        have hl : locateWrite s.noteStore slot a sz v =
            .ok [.storeDevice d pa sz (Config.freeDWord s.tick (.data slot a)) (cellOf pa a sz) (2 * sz.bytes)]
              s.noteStore := by
          simp [locateWrite, ha, hf, ht', ht, cellOf]
        exact ⟨_, memWrite_one hq hl, by rw [Todo.act, deviceWrite_eq]; exact .strayDevice ha ht⟩

/-- Everything that a write can do, to a memory in canonical form if it is aligned. -/
theorem memWrite_quiet {s : State} (v : DWord) (hq : Quiet s) (slot : Nat) {a : Word} {sz : Size}
    (hw : aligned a sz = true → s.mem.wf = true) :
    (∃ t, memWrite s slot a sz v = .ok () t ∧ Writes s slot a v sz t) ∨
    (memWrite s slot a sz v = .exc (.memoryFault a .write) ∧ s.cfg.memErrorMode = .sync) := by
  cases ha : aligned a sz with
  | true => exact (memWrite_cases v (hw ha) hq slot a sz).imp_right fun ⟨h, hs, _⟩ => ⟨h, hs⟩
  | false => exact memWrite_misaligned v hq slot ha

/-- Everything that a store of data that has been read can do. -/
theorem storeOne_ends {i : Instr} {s s1 : State} {sz : Size} {e : AddrForm} {data : Res DWord} {d : DWord}
    (he : exec i s = storeOne sz (e.expr s) data s) (hd : data = .ok d s1) (hr : ReadOnly s s1) (hq : Quiet s)
    (hw : aligned (e.addr s) sz = true → s.mem.wf = true) :
    RaisesFault i s (e.addr s) .write ∨ StoreDone i s s1 sz e d := by
  unfold storeOne at he
  rw [AddrForm.exprAddr_expr, hd, Res.bind] at he
  rcases memWrite_quiet d (hr.quiet hq) 1 (hr.mem ▸ hw) with ⟨t, ht, hwr⟩ | ⟨ht, hs⟩
  · exact .inr ⟨t, _, by rw [he, ht]; rfl, hwr, exprUpdate_baseStep e s t⟩
  · exact .inl ⟨hr.cfg ▸ hs, by rw [he, ht]; rfl⟩

/-- Everything that a conditional store whose condition holds can do. -/
theorem storeIf_ends {i : Instr} {s s1 : State} {p : CcStoreOp} {data : Res DWord} {d : DWord}
    (he : exec i s = storeIf (s.passes p.cc) p.size (readReg s p.baseUnit p.rb 2) data s) (hd : data = .ok d s1)
    (hr : ReadOnly s s1) (hc : cond s.th.flags p.cc = true) (hq : Quiet s)
    (hw : aligned (readReg s p.baseUnit p.rb 2) p.size = true → s.mem.wf = true) :
    RaisesFault i s (readReg s p.baseUnit p.rb 2) .write ∨ CcStoreDone i s s1 p d := by
  have hp : s.passes p.cc = true := hc
  unfold storeIf at he
  rw [hd, Res.bind, if_pos hp] at he
  rcases memWrite_quiet d (hr.quiet hq) 1 (hr.mem ▸ hw) with ⟨t, ht, hwr⟩ | ⟨ht, hs⟩
  · exact .inr ⟨t, by rw [he, ht]; rfl, hwr⟩
  · exact .inl ⟨hr.cfg ▸ hs, by rw [he, ht]; rfl⟩

theorem Misaligned.not_aligned {s : State} {a : Word} {sz : Size} (h : Misaligned s a sz) : ¬ aligned a sz = true :=
  Bool.eq_false_iff.1 h.2

end Stores

section Misaligned
/-! ## Misaligned accesses -/

/-- Settles O28: each shape of instruction has one meaning, and everything that meaning can do at a quiet address is a
fault or what the statement says. -/
theorem misalignedAccesses : Obligations.MisalignedAccesses := by
  refine ⟨?get, ?getl, ?lnkget, ?lnkgetl, ?set, ?setl, ?cprMem, ?issue, ?setCc, ?setlCc, ?cprCc⟩
  case get =>
    intro s i p hf hu hm
    obtain ⟨hl, he⟩ := hf.exec_eq
    exact getOne_ends he hl hu hm.1
  case getl =>
    intro s i p hf hu hm
    obtain ⟨hl, he⟩ := hf.exec_eq
    exact getPair_ends hl he hu hm.1
  case lnkget =>
    intro s i sz a u rd hf hm
    exact linkedLoad_ends hf.exec_eq.2 hm.1 fun v t => lowWord_eq_setWidth v ▸ writeReg_gprWrite t u rd (lowWord v)
  case lnkgetl =>
    intro s rd rb bua bur a hm
    exact linkedLoad_ends (exec_lnkgetl s rd rb bua bur) hm.1 fun v t => writePair_pairWrite t _ rd rd v
  case set =>
    intro s i p unsaid hf hu hwait hm
    obtain ⟨free, _, he⟩ := hf.exec_eq
    obtain ⟨v, s1, d, hd, hr, _⟩ := setData_ok (canRead_of_not_port hu hwait) p.size free
    have hends := storeOne_ends he hd hr.readOnly hm.1 fun ha => absurd ha hm.not_aligned
    exact hends.imp_right fun h => ⟨v, s1, d, hr, h⟩
  case setl =>
    intro s i p unsaid hf hm
    obtain ⟨hl, free, _, he⟩ := hf.exec_eq
    rw [hl] at hm ⊢
    have hends := storeOne_ends he rfl (.refl s) hm.1 fun ha => absurd ha hm.not_aligned
    exact hends.imp_right fun h => ⟨_, h⟩
  case cprMem =>
    intro s i p hf hn hm
    obtain ⟨s1, d, hd, hr⟩ := portData_ok hn p.size
    have hends := storeOne_ends hf.exec_eq hd hr.readOnly hm.1 fun ha => absurd ha hm.not_aligned
    exact hends.imp_right fun h => ⟨s1, d, hr, h⟩
  case issue =>
    intro s i p hf hp hw hm
    exact issueOne_ends hf.exec_eq hp hw hm.1
  case setCc =>
    intro s i p hf hu hsm hwait hc hm
    obtain ⟨v, s1, d, hd, hr, _⟩ := setData_ok (canRead_of_not_port hu hwait) p.size false
    have he := (hf.exec_eq s).trans (if_neg (mt wideOnly_iff.1 hsm))
    have hends := storeIf_ends he hd hr.readOnly hc hm.1 fun ha => absurd ha hm.not_aligned
    exact hends.imp_right fun h => ⟨v, s1, d, hr, h⟩
  case setlCc =>
    intro s rs rb us bu cc a hc hm
    have hends := storeIf_ends (p := ⟨.l, baseUnit bu, rb, us, rs, cc⟩) (exec_setlCc s rs rb us bu cc) rfl (.refl s) hc
      hm.1 fun ha => absurd ha hm.not_aligned
    exact hends.imp_right fun h => ⟨_, h⟩
  case cprCc =>
    intro s i p hf hn hc hm
    obtain ⟨s1, d, hd, hr⟩ := portData_ok hn p.size
    have hends := storeIf_ends (hf.exec_eq s) hd hr.readOnly hc hm.1 fun ha => absurd ha hm.not_aligned
    exact hends.imp_right fun h => ⟨s1, d, hr, h⟩

end Misaligned

end Sys2Proof.Claims
end

section
/-! SUPPORT. A 64-bit store that gives way between its two accesses. -/

namespace Sys2Proof.Claims
open Sys2Proof.Machine

section GivesWay

/-- What the statements say of stored bytes depends on the memory, the old bytes and the counter only. -/
theorem StoredBytes.congr {s t s' t' : State} {pa : Word} {sz : Size} {v : DWord} (h : StoredBytes s t pa sz v)
    (hs : s'.mem = s.mem) (ht : t'.mem = t.mem) (hd : t'.dcOld = t.dcOld) (hk : t'.tick = t.tick) :
    StoredBytes s' t' pa sz v where
  stored k hk' := by rw [ht]; exact h.stored k hk'
  seen k hk' := by
    rw [← h.seen k hk']; simp only [State.dataByte, ht, hd, hk]
  kept a ha := by rw [ht, hs]; exact h.kept a ha

/-- A store does not look at the counter of the free values. -/
theorem storeBytes_fresh (s : State) (pa : Word) (n v : Nat) :
    (s.storeBytes pa n v).fresh = s.fresh.storeBytes pa n v := by
  induction n generalizing s pa v with
  | zero => rfl
  | succ n ih => exact ih (s.storeByte pa (BitVec.ofNat 8 v)) _ _

/-- An access comes at once after a point with no writes from outside. -/
theorem event_of_no_writes {s : State} {rest : List Point} (hm : s.mid = .writes [] :: rest) (ht : s.th.todo = [])
    (e : Todo) : s.event e = e.act { s with mid := rest } := by
  simp [State.event, State.defer, State.givesWay, interleave, hm, ht]

/-- The state in which an aligned 64-bit store gives way: its low half is stored. -/
def halfStored (s : State) (pa : Word) (v : DWord) : State :=
  { s.noteStore with mid := [.giveWay] }.storeBytes pa 4 v.toNat

theorem halfStored_others (s : State) (pa : Word) (v : DWord) :
    (halfStored s pa v).others = s.others.map (monitored pa 4) := storeBytes_others _ _ _ _

theorem halfStored_givesWay (s : State) (pa : Word) (v : DWord) : (halfStored s pa v).givesWay = true := by
  rw [halfStored, storeBytes_shape]; rfl

theorem halfStored_todo (s : State) (pa : Word) (v : DWord) : (halfStored s pa v).th.todo = s.th.todo := by
  rw [halfStored, storeBytes_shape]; rfl

theorem halfStored_stored {s : State} (hw : s.mem.wf = true) (pa : Word) (v : DWord) :
    StoredBytes s (halfStored s pa v) pa .d v :=
  (storeBytes_stored { s.noteStore with mid := [.giveWay] } hw pa .d v).congr rfl rfl rfl rfl

/-- Of an aligned 64-bit store to memory that gives way before its second access the first is made, and the second is
still to come. -/
theorem memWrite_givesWay {s : State} {slot : Nat} {a pa : Word} (v : DWord) (hm : s.mid = [.writes [], .giveWay])
    (ht : s.th.todo = []) (ha : aligned a .l = true) (hp : s.target slot a = some (.ram pa)) :
    memWrite s slot a .l v =
      .ok () ((halfStored s pa v).push (.store (pa + 4#32) .d ((highWord v).setWidth 64))) := by
  have hp' : s.noteStore.target slot a = some (.ram pa) := hp
  have hfirst : s.noteStore.event (.store pa .d v) = halfStored s pa v :=
    event_of_no_writes (s := s.noteStore) hm ht _
  simp only [memWrite, locateWrite, ha, hp', if_true, Res.bind, List.foldl, hfirst]
  exact congrArg (Res.ok ()) (State.defer_of_givesWay (halfStored_givesWay s pa v) _ _)

/-- The first turn of an aligned SETL that gives way: its low half is stored, its high half is still to come. -/
theorem setPair_givesWay {s : State} {i : Instr} {p : AccessOp} {unsaid : Prop} {pa : Word}
    (hf : SetPairForm s i p unsaid) (hw : s.mem.wf = true) (hm : s.mid = [.writes [], .giveWay]) (ht : s.th.todo = [])
    (ha : aligned (p.mem.addr s) .l = true) (hp : s.target 1 (p.mem.addr s) = some (.ram pa)) :
    ∃ (d : DWord) (t : State), exec i s = .next t ∧
      (∀ u : BUnit, p.unit = u.code → ¬ unsaid → d = readReg s u.opp p.reg 1 ++ readReg s u p.reg 0) ∧
      StoredBytes s t pa .d d ∧ t.others = s.others.map (monitored pa 4) ∧
      t.th.todo = [.store (pa + 4#32) .d ((d.extractLsb' 32 32).setWidth 64)] := by
  obtain ⟨_, free, hfree, he⟩ := hf.exec_eq
  rw [storeOne, AddrForm.exprAddr_expr, Res.bind, memWrite_givesWay _ hm ht ha hp] at he
  refine ⟨_, _, he, fun u hu hs => setPairData_eq hu (Bool.eq_false_iff.2 (mt hfree.1 hs)), ?_, ?_, ?_⟩
  · exact (halfStored_stored hw pa _).congr rfl (by simp [advance]) (by simp [advance]) (by simp [advance])
  · simp [advance, halfStored_others]
  · simp [advance, halfStored_todo, ht, highWord]

/-- A thread that may run and has accesses still to make goes on with them, without a fetch. -/
theorem step_resumes {s : State} (he : s.env = []) (hr : s.th.runState ≠ .halted)
    (hg : ∀ t, s.globOwner = some t → t = s.th.tid) (ht : s.th.todo ≠ []) :
    step s = .next (afterStep s.resume) := by
  have hl : s.lockedOut = false := by
    unfold State.lockedOut
    split
    · rfl
    · rename_i t h; simp [hg t h]
  simp only [step, runScript, he, runTurn, if_neg hr, hl, Bool.false_eq_true, if_false, if_neg ht]
  rfl

/-- The thread with its accesses taken out, which the turn that resumes them starts from. -/
def taken (s : State) : State := { s with th := { s.th with todo := [] } }

/-- With nothing from outside a store that is still to come is made. -/
theorem resume_store {s : State} {pa : Word} {sz : Size} {v : DWord} (hm : s.mid = [])
    (ht : s.th.todo = [.store pa sz v]) : s.resume = (taken s).fresh.storeBytes pa sz.bytes v.toNat :=
  calc s.resume
      = ((taken s).event (.store pa sz v)).fresh := by rw [State.resume, ht]; rfl
    _ = ((taken s).storeBytes pa sz.bytes v.toNat).fresh :=
        congrArg State.fresh (State.event_of_quiet (s := taken s) hm rfl _)
    _ = (taken s).fresh.storeBytes pa sz.bytes v.toNat := storeBytes_fresh _ _ _ _

/-- Settles O49: the first turn leaves the second access to be made, and the next turn makes it. -/
theorem wideAccessesGiveWay : Obligations.WideAccessesGiveWay := by
  refine ⟨fun s i p unsaid pa hf hw hm ht ha hp => setPair_givesWay hf hw hm ht ha hp, ?_⟩
  intro s pa v he hm hw hr hg ht
  refine ⟨_, step_resumes he hr hg (by rw [ht]; nofun), ?_⟩
  rw [resume_store hm ht]
  refine ⟨(storeBytes_stored (taken s).fresh hw pa .d v).congr rfl rfl rfl rfl, ?_⟩
  conv => lhs; rw [storeBytes_shape, storeBytes_others]
  rfl

end GivesWay

end Sys2Proof.Claims
end

section
/-! SUPPORT. Words and their fields: `place` puts fields into the free bits of a constant, and a read of one field finds
the value that was put there. -/

namespace Sys2Proof.Laws

section Fields

theorem bits_eq_shiftRight_mod (w l n : Nat) : bits w l n = (w >>> l) % 2 ^ n := by
  rw [bits, Nat.shiftRight_eq_div_pow]

theorem testBit_bits (w l n i : Nat) : (bits w l n).testBit i = (decide (i < n) && w.testBit (l + i)) := by
  rw [bits_eq_shiftRight_mod, Nat.testBit_mod_two_pow, Nat.testBit_shiftRight]

/-- A value is added to bits that are zero by putting it there: nothing is carried. -/
theorem add_mul_two_pow_eq_or {c v lo m : Nat} (hv : v < 2 ^ m) (hc : bits c lo m = 0) :
    c + v * 2 ^ lo = c ||| v <<< lo := by
  have hlow : c % 2 ^ lo < 2 ^ lo := Nat.mod_lt _ (Nat.two_pow_pos lo)
  have hmid : 2 ^ lo * v + c % 2 ^ lo < 2 ^ (lo + m) :=
    calc 2 ^ lo * v + c % 2 ^ lo < 2 ^ lo * (v + 1) := by rw [Nat.mul_add]; omega
      _ ≤ 2 ^ lo * 2 ^ m := Nat.mul_le_mul_left _ hv
      _ = 2 ^ (lo + m) := (Nat.pow_add ..).symm
  have hsplit : c = 2 ^ (lo + m) * (c / 2 ^ (lo + m)) + c % 2 ^ lo := by
    have hmod := Nat.div_add_mod c (2 ^ lo)
    have hdiv := Nat.div_add_mod (c / 2 ^ lo) (2 ^ m)
    rw [bits] at hc
    rw [hc, Nat.add_zero, Nat.div_div_eq_div_mul, ← Nat.pow_add] at hdiv
    rw [← hdiv, ← Nat.mul_assoc, ← Nat.pow_add] at hmod
    exact hmod.symm
  calc c + v * 2 ^ lo
      = 2 ^ (lo + m) * (c / 2 ^ (lo + m)) + (2 ^ lo * v + c % 2 ^ lo) := by rw [Nat.mul_comm v]; omega
    _ = 2 ^ (lo + m) * (c / 2 ^ (lo + m)) ||| (2 ^ lo * v ||| c % 2 ^ lo) := by
        rw [Nat.two_pow_add_eq_or_of_lt hmid, Nat.two_pow_add_eq_or_of_lt hlow]
    _ = c ||| v <<< lo := by
        conv => rhs; rw [hsplit, Nat.two_pow_add_eq_or_of_lt (by omega)]
        rw [Nat.or_assoc, Nat.or_comm (c % _), Nat.shiftLeft_eq, Nat.mul_comm v]

theorem place_field {m c lo : Nat} (v : BitVec m) (fields : List (Nat × Nat)) (h : bits c lo m = 0) :
    place c ((v.toNat, lo) :: fields) = place (c ||| v.toNat <<< lo) fields := by
  rw [place_cons, add_mul_two_pow_eq_or v.isLt h]

theorem place_flag {c lo : Nat} (b : Bool) (fields : List (Nat × Nat)) (h : bits c lo 1 = 0) :
    place c ((b.toNat, lo) :: fields) = place (c ||| b.toNat <<< lo) fields := by
  rw [place_cons, add_mul_two_pow_eq_or (bool_lt b) h]

@[simp] theorem bits_or (a b l n : Nat) : bits (a ||| b) l n = bits a l n ||| bits b l n := by
  simp only [bits_eq_shiftRight_mod, Nat.shiftRight_or_distrib, Nat.or_mod_two_pow]

/-- A field of a field. -/
@[simp] theorem bits_bits {w l n d m : Nat} (h : d + m ≤ n) : bits (bits w l n) d m = bits w (l + d) m := by
  refine Nat.eq_of_testBit_eq fun i => ?_
  rw [testBit_bits, testBit_bits, testBit_bits, Nat.add_assoc]
  by_cases hi : i < m
  · simp [hi, show d + i < n by omega]
  · simp [hi]

/-- The constants of the rows are numerals, of which a field is computed. -/
@[simp] theorem bits_numeral (c l n : Nat) : bits (no_index (OfNat.ofNat c)) l n = c / 2 ^ l % 2 ^ n := by
  rw [bits]; rfl

@[simp] theorem bits_below {v lo l n : Nat} (h : l + n ≤ lo) : bits (v <<< lo) l n = 0 := by
  refine Nat.eq_of_testBit_eq fun i => ?_
  rw [testBit_bits, Nat.testBit_shiftLeft, Nat.zero_testBit]
  by_cases hi : i < n
  · simp [show ¬ lo ≤ l + i by omega]
  · simp [hi]

theorem bits_above {v m lo l n : Nat} (hv : v < 2 ^ m) (h : lo + m ≤ l) : bits (v <<< lo) l n = 0 := by
  have hlt : v <<< lo < 2 ^ l :=
    calc v <<< lo < 2 ^ (m + lo) := Nat.shiftLeft_lt hv
      _ ≤ 2 ^ l := Nat.pow_le_pow_right Nat.two_pos (by omega)
  rw [bits, Nat.div_eq_of_lt hlt, Nat.zero_mod]

theorem bits_own {v m lo : Nat} (hv : v < 2 ^ m) : bits (v <<< lo) lo m = v := by
  rw [bits_eq_shiftRight_mod, Nat.shiftLeft_shiftRight, Nat.mod_eq_of_lt hv]

@[simp] theorem bits_field_above {m lo l n : Nat} (v : BitVec m) (h : lo + m ≤ l) : bits (v.toNat <<< lo) l n = 0 :=
  bits_above v.isLt h

@[simp] theorem bits_flag_above {lo l n : Nat} (b : Bool) (h : lo + 1 ≤ l) : bits (b.toNat <<< lo) l n = 0 :=
  bits_above (bool_lt b) h

@[simp] theorem bits_field {m lo : Nat} (v : BitVec m) : bits (v.toNat <<< lo) lo m = v.toNat := bits_own v.isLt

@[simp] theorem bits_flag {lo : Nat} (b : Bool) : bits (b.toNat <<< lo) lo 1 = b.toNat := bits_own (bool_lt b)

theorem fld_eq_ofNat (w l n : Nat) : fld w l n = BitVec.ofNat n (bits w l n) := by rw [fld]

theorem bit_eq_beq (w l : Nat) : bit w l = (bits w l 1 == 1) := by rw [bit]

theorem toNat_beq_one (b : Bool) : (b.toNat == 1) = b := by cases b <;> rfl

theorem ne_of_bits_ne {a k : Nat} (l n : Nat) (h : bits a l n ≠ bits k l n) : a ≠ k := by
  rintro rfl; exact h rfl

/-- A read is not the constant it is compared with when a smaller read inside it is not that part of the constant. The
first hypothesis keeps the rule from rewriting the smaller read in turn. -/
theorem bits_ne_of_part {w l n k : Nat} (d m : Nat) (_hm : m + 1 ≤ n) (hd : d + m ≤ n)
    (h : ¬ bits w (l + d) m = bits k d m) : bits w l n ≠ k :=
  ne_of_bits_ne d m (by rwa [bits_bits hd])

theorem toNat_ne_of_bne {n k : Nat} {v : BitVec n} (h : (v != BitVec.ofNat n k) = true) (hk : k < 2 ^ n) :
    v.toNat ≠ k := by
  rintro rfl
  simp at h

end Fields

end Sys2Proof.Laws
end

section
/-! SUPPORT. Decode undoes encode (30_encoding.md R218). Most rows are told apart by their constants; what is left are
the terms whose word a narrower row takes for some values of the fields, which `Instr.wellFormed` excludes. -/

namespace Sys2Proof.Laws

section RoundTrip

/-- How the statements on the round trip divide the rows of the table by primary opcode; the shadow register moves have
no row (49_trace_ops.md R553, R554). -/
inductive Family
  | arithmetic
  | control
  | memory
  | shadow

def family : Instr → Family
  | .addRR .. | .addRX .. | .movRR .. | .movRX .. | .addI16 .. | .movI16 .. | .addCR .. | .addCX .. | .addUX8 ..
  | .addCX8 .. | .subRR .. | .subRX .. | .negRR .. | .negRX .. | .subI16 .. | .negI16 .. | .subCR .. | .subCX ..
  | .subUX8 .. | .subCX8 .. | .andRR .. | .andRX .. | .andI16 .. | .andCR .. | .andCX .. | .andUX8 .. | .andCX8 ..
  | .orRR .. | .orRX .. | .orI16 .. | .orCR .. | .orCX .. | .orUX8 .. | .orCX8 .. | .xorRR .. | .xorRX ..
  | .xorI16 .. | .xorCR .. | .xorCX .. | .xorUX8 .. | .xorCX8 .. | .lslRR .. | .lslI5 .. | .lslUR .. | .lslUI5 ..
  | .lslCR .. | .lslCI5 .. | .lsrRR .. | .lsrI5 .. | .lsrUR .. | .lsrUI5 .. | .lsrCR .. | .lsrCI5 .. | .aslRR ..
  | .aslI5 .. | .aslUR .. | .aslUI5 .. | .aslCR .. | .aslCI5 .. | .asrRR .. | .asrI5 .. | .asrUR .. | .asrUI5 ..
  | .asrCR .. | .asrCI5 .. | .mulwRR .. | .mulwRX .. | .mulwI16 .. | .mulwUR .. | .mulwUX .. | .mulwUX8 ..
  | .mulwCR .. | .mulwCX .. | .mulwCX8 .. | .muldRR .. | .muldRX .. | .muldI16 .. | .muldUR .. | .muldUX ..
  | .muldUX8 .. | .muldCR .. | .muldCX .. | .muldCX8 .. | .absRR .. | .ffbRR .. | .maxRR .. | .minRR .. | .mortRR ..
  | .mortRX .. | .nminRR .. | .normRR .. | .vpackRR .. | .vpackRX .. | .cmpRR .. | .cmpRX .. | .cmpI16 .. | .cmpCR ..
  | .cmpCX .. | .cmpCX8 .. | .tstRR .. | .tstRX .. | .tstI16 .. | .tstCR .. | .tstCX .. | .tstCX8 .. | .addARR ..
  | .addARX .. | .movARR .. | .movARX .. | .addAI16 .. | .movAI16 .. | .addACR .. | .addACX .. | .addAUX8 ..
  | .addACX8 .. | .subARR .. | .subARX .. | .negARR .. | .negARX .. | .subAI16 .. | .negAI16 .. | .subACR ..
  | .subACX .. | .subAUX8 .. | .subACX8 .. => .arithmetic
  | .nop .. | .branch .. | .branchCc .. | .movbRd .. | .movwRd .. | .movdRd .. | .cprbUnit .. | .cprwUnit ..
  | .cprdUnit .. | .movlTtrec .. | .movlRd .. | .cprlPair .. | .rti .. | .rth .. | .ttmov .. | .kick .. | .defr ..
  | .swap .. | .swapCc .. | .movUnit .. | .movUnitCc .. | .cprbMemCc .. | .cprwMemCc .. | .cprdMemCc ..
  | .cprlMemCc .. | .setbCc .. | .setwCc .. | .setdCc .. | .setlCc .. | .lnksetb .. | .lnksetw .. | .lnksetd ..
  | .lnksetl .. | .setbS12 .. | .setwS12 .. | .setdS12 .. | .setlS12 .. | .movbRaS12 .. | .movwRaS12 ..
  | .movdRaS12 .. | .movlRaS12 .. | .getbS12 .. | .getwS12 .. | .getdS12 .. | .getlS12 .. | .lock0 .. | .lock1 ..
  | .lock2 .. | .movCt .. | .movTt .. | .xsdb .. | .xsdw .. | .bexd .. | .bexl .. | .rtdw .. | .callr .. | .jump ..
  | .call .. | .lnkgetb .. | .lnkgetw .. | .lnkgetd .. | .lnkgetl .. | .cacherl .. | .cacherd .. | .cachewl ..
  | .cachewd .. | .dcache .. | .icacheExit .. | .icache .. | .switch .. => .control
  | .cprbMemR .. | .cprbMemI6 .. | .cprwMemR .. | .cprwMemI6 .. | .cprdMemR .. | .cprdMemI6 .. | .cprlMemR ..
  | .cprlMemI6 .. | .setdShort .. | .setbR .. | .setbI6 .. | .setwR .. | .setwI6 .. | .setdR .. | .setdI6 ..
  | .setlR .. | .setlI6 .. | .msetd .. | .msetl .. | .movbRaR .. | .movbRaI6 .. | .movwRaR .. | .movwRaI6 ..
  | .movdRaR .. | .movdRaI6 .. | .movlRaR .. | .movlRaI6 .. | .getdShort .. | .getbR .. | .getbI6 .. | .getwR ..
  | .getwI6 .. | .getdR .. | .getdI6 .. | .getlR .. | .getlI6 .. | .mgetd .. | .mgetl .. | .mmovdRa .. | .mmovlRa ..
  | .mdrd .. | .mmovdRd .. | .mmovlRd .. | .cprdr0 .. | .cprdr1 .. | .cprdr2 .. | .cprdr3 .. | .cprlr0 ..
  | .cprlr1 .. | .cprlr2 .. | .cprlr3 .. | .xfrd01 .. | .xfrd02 .. | .xfrd03 .. | .xfrd10 .. | .xfrd12 ..
  | .xfrd13 .. | .xfrd20 .. | .xfrd21 .. | .xfrd23 .. | .xfrd30 .. | .xfrd31 .. | .xfrd32 .. | .xfrl01 ..
  | .xfrl02 .. | .xfrl03 .. | .xfrl10 .. | .xfrl12 .. | .xfrl13 .. | .xfrl20 .. | .xfrl21 .. | .xfrl23 ..
  | .xfrl30 .. | .xfrl31 .. | .xfrl32 .. | .cpxl .. | .cpwlRR .. | .cpwlRI .. | .cpwlMemR .. | .cpwlMemI8 .. => .memory
  | .movr .. | .swapr .. => .shadow

/-! What `Instr.wellFormed` excludes where the narrower row fixes more than one field. -/

theorem wellFormed_branchCc {off : BitVec 19} {cc : BitVec 4} {rep : Bool}
    (h : (Instr.branchCc off cc rep).wellFormed = true) :
    cc ≠ 0#4 ∧ ¬ (off = 0x7FFFF#19 ∧ cc = 15#4 ∧ rep = false) :=
  ⟨(by rintro rfl; cases h), (by rintro ⟨rfl, rfl, rfl⟩; cases h)⟩

theorem wellFormed_ttmov {rd rs : BitVec 5} {us ud cc : BitVec 4} (h : (Instr.ttmov rd rs us ud cc).wellFormed = true) :
    ¬ (rs = 31#5 ∧ us = 15#4 ∧ ud = 15#4 ∧ cc = 15#4 ∧ (rd = 31#5 ∨ rd = 15#5)) := by
  rintro ⟨rfl, rfl, rfl, rfl, rfl | rfl⟩ <;> cases h

theorem wellFormed_icache {off : BitVec 15} {count : BitVec 4} {pri : Bool}
    (h : (Instr.icache off count pri).wellFormed = true) : ¬ (off = 0#15 ∧ count = 0#4) := by
  rintro ⟨rfl, rfl⟩; cases h

/-- The primary opcodes 0 to 8: constants alone tell the rows apart. Of the 14 bits that ABS, FFB and NORM fix, the low
nine tell them from the other rows of the extended group. -/
theorem decode_encode_arithmetic {i : Instr} (hi : family i = .arithmetic) : decode (encode i) = some i := by
  cases i
  all_goals cases hi
  all_goals
    change decode (place _ _) = _
    simp only [decode, decodeAdd, decodeSub, decodeAnd, decodeOr, decodeXor, decodeShift, decodeMul, decodeCmp,
      decodeCmpDux, decodeTst, decodeAddr, decodeAddrAdd, decodeAddrSub, ↓bits_ne_of_part (n := 14) 0 9,
      place_field, place_flag, place_nil, bits_or, bits_numeral, bits_below, bits_field_above, bits_flag_above,
      bits_field, bits_flag, fld_eq_ofNat, bit_eq_beq, toNat_beq_one, BitVec.ofNat_toNat, BitVec.setWidth_eq,
      Nat.zero_or, Nat.or_zero, Nat.reduceAdd, Nat.reduceLeDiff, Nat.reduceDiv, Nat.reduceMod, Nat.reducePow,
      Nat.reduceEqDiff, ↓reduceIte, not_false_eq_true, and_true, and_false, and_self]

/-- The primary opcode 0xA. Left after the constants: Bcc against NOP and BR, TTMOV against RTI and RTH, SWAP and the
conditional SWAP and MOV against KICK, DEFR and the forms without a condition, the conditional SET against the ports
unit, ICACHE against its exit form. The reads that span fields are decided by a part of them where the constants can
decide them. -/
theorem decode_encode_control {i : Instr} (hi : family i = .control) (hw : i.wellFormed = true) :
    decode (encode i) = some i := by
  cases i
  all_goals cases hi
  all_goals
    change decode (place _ _) = _
    simp only [decode, decodeU2UMisc, decodeA0, decodeA1, decodeA2, decodeA3, decodeA4, decodeA5, decodeA6, decodeA7,
      decodeA8, decodeA9, decodeAA, decodeAB, decodeAC, decodeAD, decodeAE, decodeAF, ↓bits_ne_of_part (n := 24) 1 4,
      ↓bits_ne_of_part (n := 24) 9 1, ↓bits_ne_of_part (n := 10) 8 2, ↓bits_ne_of_part (l := 14) 3 2,
      ↓bits_ne_of_part (n := 7) 0 1,
      place_field, place_flag, place_nil, bits_or, bits_numeral, bits_below, bits_field_above, bits_flag_above,
      bits_field, bits_flag, fld_eq_ofNat, bit_eq_beq, toNat_beq_one, BitVec.ofNat_toNat, BitVec.setWidth_eq,
      Nat.zero_or, Nat.or_zero, Nat.reduceAdd, Nat.reduceLeDiff, Nat.reduceDiv, Nat.reduceMod, Nat.reducePow,
      Nat.reduceEqDiff, ↓reduceIte, not_false_eq_true, and_true, true_and, and_false, false_and, and_self]
  case branchCc =>
    have ⟨hbr, hnop⟩ := wellFormed_branchCc hw
    rw [if_neg, if_neg]
    · exact fun h => hbr (BitVec.eq_of_toNat_eq h)
    · intro h
      exact hnop ⟨BitVec.eq_of_toNat_eq (by simpa [-Nat.shiftLeft_zero] using congrArg (bits · 5 19) h),
        BitVec.eq_of_toNat_eq (by simpa [-Nat.shiftLeft_zero] using congrArg (bits · 1 4) h),
        by simpa [-Nat.shiftLeft_zero] using congrArg (bits · 0 1) h⟩
  case ttmov =>
    rw [if_neg, if_neg]
    all_goals
      intro h
      refine wellFormed_ttmov hw ⟨BitVec.eq_of_toNat_eq (by simpa using congrArg (bits · 14 5) h),
        BitVec.eq_of_toNat_eq (by simpa using congrArg (bits · 10 4) h),
        BitVec.eq_of_toNat_eq (by simpa using congrArg (bits · 5 4) h),
        BitVec.eq_of_toNat_eq (by simpa using congrArg (bits · 1 4) h), ?_⟩
    · exact .inr (BitVec.eq_of_toNat_eq (by simpa using congrArg (bits · 19 5) h))
    · exact .inl (BitVec.eq_of_toNat_eq (by simpa using congrArg (bits · 19 5) h))
  case swap =>
    have ⟨hct, htt⟩ := Bool.and_eq_true_iff.1 hw
    rw [if_neg, if_neg]
    · exact ne_of_bits_ne 1 4 (by simpa using toNat_ne_of_bne htt (by decide))
    · exact ne_of_bits_ne 1 4 (by simpa using toNat_ne_of_bne hct (by decide))
  case swapCc =>
    have ⟨hus, hcc⟩ := Bool.and_eq_true_iff.1 hw
    have ⟨hct, htt⟩ := Bool.and_eq_true_iff.1 hus
    rw [if_neg, if_neg, if_neg]
    · exact ne_of_bits_ne 1 4 (by simpa using toNat_ne_of_bne hcc (by decide))
    · exact ne_of_bits_ne 1 4 (by simpa using toNat_ne_of_bne htt (by decide))
    · exact ne_of_bits_ne 1 4 (by simpa using toNat_ne_of_bne hct (by decide))
  case movUnitCc =>
    rw [if_neg, if_neg]
    · exact ne_of_bits_ne 1 4 (by simpa using toNat_ne_of_bne hw (by decide))
    · exact ne_of_bits_ne 0 1 (by simp)
  case setbCc | setwCc | setdCc | setlCc =>
    have hports := toNat_ne_of_bne hw (by decide)
    rw [if_neg, if_neg, if_neg, if_neg]
    all_goals exact ne_of_bits_ne 3 4 (by simpa using hports)
  case icache =>
    refine if_neg fun h => wellFormed_icache hw ?_
    exact ⟨BitVec.eq_of_toNat_eq (by simpa using congrArg (bits · 4 15) h),
      BitVec.eq_of_toNat_eq (by simpa using congrArg (bits · 0 4) h)⟩

/-- The primary opcodes 0xB to 0xE. Left after the constants: loads and stores against those of the ports unit, GETD and
SETD also against their short forms. -/
theorem decode_encode_memory {i : Instr} (hi : family i = .memory) (hw : i.wellFormed = true) :
    decode (encode i) = some i := by
  cases i
  all_goals cases hi
  all_goals
    change decode (place _ _) = _
    simp only [decode, decodeSet, decodeB0, decodeB1, decodeB2, decodeB3, decodeB4, decodeB5, decodeB6, decodeB7,
      decodeB8, decodeB9, decodeGet, decodeC0, decodeC1, decodeC2, decodeC3, decodeC4, decodeC5, decodeC6, decodeC7,
      decodeC8, decodeC9, decodeCA, decodeCB, decodeCC, decodeCD, decodeXfr, decodeXfrD, decodeXfrL, decodeCpw,
      ↓bits_ne_of_part (n := 3) 0 1, ↓bits_ne_of_part (l := 24) 3 1, ↓bits_ne_of_part (n := 7) 0 3,
      place_field, place_flag, place_nil, bits_or, bits_numeral, bits_below, bits_field_above, bits_flag_above,
      bits_field, bits_flag, fld_eq_ofNat, bit_eq_beq, toNat_beq_one, BitVec.ofNat_toNat, BitVec.setWidth_eq,
      Nat.zero_or, Nat.or_zero, Nat.reduceAdd, Nat.reduceLeDiff, Nat.reduceDiv, Nat.reduceMod, Nat.reducePow,
      Nat.reduceEqDiff, ↓reduceIte, not_false_eq_true, and_true, and_false, false_and, and_self]
  case setdI6 | getdI6 =>
    have ⟨hshort, hports⟩ := Bool.and_eq_true_iff.1 hw
    rw [if_neg (toNat_ne_of_bne hports (by decide)), if_neg (toNat_ne_of_bne hshort (by decide))]
  case setdShort | setbR | setbI6 | setwR | setwI6 | setdR | setlR | setlI6 | getdShort | getbR | getbI6 | getwR |
      getwI6 | getdR | getlR | getlI6 =>
    exact if_neg (toNat_ne_of_bne hw (by decide))

/-- Every well-formed instruction decodes from its own word. -/
theorem decode_encode {i : Instr} (hw : i.wellFormed = true) : decode (encode i) = some i := by
  cases hi : family i with
  | arithmetic => exact decode_encode_arithmetic hi
  | control => exact decode_encode_control hi hw
  | memory => exact decode_encode_memory hi hw
  | shadow => cases i <;> cases hi <;> cases hw

end RoundTrip

section Settled

/-- Settles O57: the round trip of the primary opcodes 0 to 8. -/
theorem decodeEncodeArithmetic : Obligations.DecodeEncodeArithmetic := fun _ hw _ => decode_encode hw

/-- Settles O58: the round trip of the primary opcode 0xA. -/
theorem decodeEncodeControl : Obligations.DecodeEncodeControl := fun _ hw _ => decode_encode hw

/-- Settles O59: the round trip of the primary opcodes 0xB to 0xE. -/
theorem decodeEncodeMemory : Obligations.DecodeEncodeMemory := fun _ hw _ => decode_encode hw

end Settled

end Sys2Proof.Laws
end

section
/-! SUPPORT. The shared operands of the instructions: condition codes, 16-bit immediates and register lists. -/

namespace Sys2Proof.Claims
open Sys2Proof.Machine

section Immediates

theorem append_eq_shiftLeft_or {m n : Nat} (hi : BitVec m) (lo : BitVec n) :
    hi ++ lo = hi.setWidth (m + n) <<< n ||| lo.setWidth (m + n) := by
  rw [BitVec.append_def, BitVec.shiftLeftZeroExtend_eq, BitVec.setWidth'_eq]

end Immediates

section RegisterLists

theorem mem_maskFrom {mask : BitVec 7} {first : Nat} (k n : Nat) :
    n ∈ maskFrom mask first k ↔ ∃ i < k, mask.getLsbD i = true ∧ n = first + i + 1 := by
  induction k with
  | zero => simp [maskFrom]
  | succ k ih =>
    have hlast : n ∈ (if mask.getLsbD k then [first + k + 1] else []) ↔
        mask.getLsbD k = true ∧ n = first + k + 1 := by
      split <;> simp_all
    rw [maskFrom, List.mem_append, ih, hlast, Nat.exists_lt_succ_right]

theorem first_lt_of_mem_maskFrom {mask : BitVec 7} {first k n : Nat} (h : n ∈ maskFrom mask first k) :
    first < n := by
  obtain ⟨i, -, -, rfl⟩ := (mem_maskFrom k n).1 h
  omega

/-- The number that one more bit adds is above those of the bits below it. -/
theorem pairwise_maskFrom (mask : BitVec 7) (first k : Nat) : (maskFrom mask first k).Pairwise (· < ·) := by
  induction k with
  | zero => exact List.Pairwise.nil
  | succ k ih =>
    refine List.pairwise_append.2 ⟨ih, by split <;> simp, fun a ha b hb => ?_⟩
    obtain ⟨i, hi, -, rfl⟩ := (mem_maskFrom k a).1 ha
    have hb : b = first + k + 1 := by split at hb <;> simp_all
    omega

end RegisterLists

section Settled

/-- Settles O3, by the list of the mask one bit at a time. -/
theorem registerLists : Obligations.RegisterLists := fun first mask =>
  ⟨List.pairwise_cons.2 ⟨fun _ => first_lt_of_mem_maskFrom, pairwise_maskFrom mask first.toNat 7⟩, fun n => by
    rw [regList, List.mem_cons, mem_maskFrom]⟩

/-- Settles O1: each code selects its row of the table of R181. -/
theorem conditionCodes : Obligations.ConditionCodes := by
  intro f
  simp [Machine.cond, and_comm]

/-- Settles O2, form by form: an immediate is one half of the word, and the other half is zeros, signs or ones. -/
theorem immediateOperands : Obligations.ImmediateOperands := by
  intro s k se
  refine ⟨?zeros, ?signs, ?high, fun h => ?masked, ?onesAbove, ?onesBelow⟩
  case zeros => exact BitVec.toNat_setWidth_of_le (by decide)
  case signs => exact BitVec.toInt_signExtend_of_le (by decide)
  case high =>
    change (k ++ 0#16).toNat = _
    rw [BitVec.toNat_append, Nat.shiftLeft_eq, BitVec.toNat_ofNat, Nat.zero_mod, Nat.or_zero]
  case masked => rfl
  case onesAbove => exact append_eq_shiftLeft_or 0xFFFF#16 k
  case onesBelow => exact append_eq_shiftLeft_or k 0xFFFF#16

end Settled

end Sys2Proof.Claims
end

section
/-! SUPPORT. The arithmetic of the data and address units: each meaning reads its operands, and ends with one write of its
result. -/

namespace Sys2Proof.Claims
open Sys2Proof.Machine

section Operands
/-! ## Operands -/

theorem secondValue_only_rdq {s s1 : State} {u : BUnit} {o : Opd} {b : Word} (h : secondValue s u o = .ok b s1) :
    s1 = { s with th := { s.th with rdq := s1.th.rdq } } := by
  cases o with
  | rep sel n => exact readO2R_only_rdq h
  | _ => cases h; rfl

theorem firstValue_rdq (s : State) (q : List DWord) (u : BUnit) (o : Opd) :
    firstValue { s with th := { s.th with rdq := q } } u o = firstValue s u o := by
  cases o with
  | reg n => exact readReg_rdq s q u n 0
  | _ => rfl

/-- A result that depends on the state after the second operand only through what reading that operand leaves alone. -/
theorem bind_secondValue_congr {α : Type} {s : State} {u : BUnit} {o : Opd} {f g : Word → State → Res α}
    (h : ∀ b q, f b { s with th := { s.th with rdq := q } } = g b { s with th := { s.th with rdq := q } }) :
    (secondValue s u o).bind f = (secondValue s u o).bind g :=
  Res.bind_congr _ _ _ fun b s1 hs => by rw [secondValue_only_rdq hs]; exact h b _

@[simp] theorem firstValue_asrcOpd (s : State) (u : BUnit) (pcBit : Bool) (n : BitVec 4) :
    firstValue s u (asrcOpd pcBit n) = asrc s u pcBit n 0 := by cases pcBit <;> rfl

@[simp] theorem secondValue_asrcOpd (s : State) (u : BUnit) (pcBit : Bool) (n : BitVec 4) :
    secondValue s u (asrcOpd pcBit n) = .ok (asrc s u pcBit n 1) s := by cases pcBit <;> rfl

end Operands

section DataUnit
/-! ## The data units -/

/-- The flags of an operation whose first operand is that of `p`. -/
def aluFlags (s : State) (op : AluOp) (p : DataOp) (b : Word) : Flags :=
  op.flags s.tick (firstValue s p.unit p.first) b

theorem dataEffect_of_alu {i : Instr} {s : State} {p : DataOp} {op : AluOp}
    (h : exec i s = finish s (runDataOp s p (aluFlags s op p))) (hf : p.flags = OpFlags op) : DataEffect i s p :=
  dataEffect_of_runDataOp _ h fun b _ => hf ▸ opFlags_ok op s.tick _ b

/-- An operation with a destination in any unit, as the meanings write it. -/
theorem runDataOp_toUnit (s : State) (op : AluOp) (sf du : Bool) (ud : BitVec 4) (rd : BitVec 5) (cc : BitVec 4)
    (a o : Opd) :
    runDataOp s (toUnit op sf du ud rd cc a o) (aluFlags s op (toUnit op sf du ud rd cc a o)) =
      (secondValue s (dataUnit du) o).bind fun b s1 =>
        if s1.passes cc then endUnit op sf ud rd (firstValue s1 (dataUnit du) a) b s1 else .ok () (advance s1) := by
  refine bind_secondValue_congr fun b q => ?_
  rw [firstValue_rdq, endUnit, setFlagsIf_eq, opValue_eq]
  rfl

theorem endUnit_code (op : AluOp) (sf : Bool) (u : BUnit) (rd : BitVec 5) (a b : Word) (s : State) :
    endUnit op sf u.code rd a b s = .ok () (endData op sf u rd a b s) := writeUnit_code _ _ _ _

/-- An operation with a destination in the unit that executes, as the meanings write it. -/
theorem runDataOp_inUnit (s : State) (op : AluOp) (sf du : Bool) (rd : BitVec 5) (cc : BitVec 4) (a o : Opd) :
    runDataOp s (inUnit op sf du rd cc a o) (aluFlags s op (inUnit op sf du rd cc a o)) =
      (secondValue s (dataUnit du) o).bind fun b s1 =>
        .ok () (if s1.passes cc then endData op sf (dataUnit du) rd (firstValue s1 (dataUnit du) a) b s1
          else advance s1) := by
  refine (runDataOp_toUnit s op sf du (dataUnit du).code rd cc a o).trans (Res.bind_congr _ _ _ fun b s1 _ => ?_)
  rw [endUnit_code, apply_ite (Res.ok ())]

theorem DataForm.exec_eq {s : State} {i : Instr} {p : DataOp} (h : DataForm s i p) :
    ∃ op, p.flags = OpFlags op ∧ exec i s = finish s (runDataOp s p (aluFlags s op p)) := by
  cases h <;> exact ⟨_, rfl, by rw [runDataOp_inUnit]; rfl⟩

theorem DataUnitForm.exec_eq {i : Instr} {p : DataOp} (h : DataUnitForm i p) (s : State) :
    ∃ op, p.flags = OpFlags op ∧ exec i s = finish s (runDataOp s p (aluFlags s op p)) := by
  cases h <;> exact ⟨_, rfl, by rw [runDataOp_toUnit]; rfl⟩

end DataUnit

section AddressUnit
/-! ## The address units -/

/-- An operation of an address unit with a destination in any unit, as the meanings write it: it sets no flags. -/
theorem runDataOp_addrOp (s : State) (op : AluOp) (au : Bool) (ud : BitVec 4) (rd : BitVec 5) (cc : BitVec 4)
    (a o : Opd) (fl : Word → Flags) :
    runDataOp s (addrOp op au ud rd cc a o) fl =
      (secondValue s (addrUnit au) o).bind fun b s1 =>
        if s1.passes cc then writeUnit (advance s1) ud rd (op.result (firstValue s1 (addrUnit au) a) b)
        else .ok () (advance s1) := by
  refine bind_secondValue_congr fun b q => ?_
  rw [firstValue_rdq, opValue_eq]
  rfl

/-- The same with a destination in the unit that executes. -/
theorem runDataOp_addrOp_code (s : State) (op : AluOp) (au : Bool) (rd : BitVec 4) (cc : BitVec 4) (a o : Opd)
    (fl : Word → Flags) :
    runDataOp s (addrOp op au (addrUnit au).code (rd.setWidth 5) cc a o) fl =
      (secondValue s (addrUnit au) o).bind fun b s1 =>
        .ok () (if s1.passes cc then endAddr (addrUnit au) rd (op.result (firstValue s1 (addrUnit au) a) b) s1
          else advance s1) := by
  rw [runDataOp_addrOp]
  refine Res.bind_congr _ _ _ fun b s1 _ => ?_
  rw [writeUnit_code, apply_ite (Res.ok ())]
  rfl

theorem AddrUnitOpForm.exec_eq {s : State} {i : Instr} {p : DataOp} (h : AddrUnitOpForm s i p) (fl : Word → Flags) :
    p.sets = false ∧ exec i s = finish s (runDataOp s p fl) := by
  cases h <;> exact ⟨rfl, by simp only [runDataOp_addrOp_code, firstValue_asrcOpd, secondValue_asrcOpd]; rfl⟩

theorem AddrToUnitForm.exec_eq {i : Instr} {p : DataOp} (h : AddrToUnitForm i p) (s : State) (fl : Word → Flags) :
    p.sets = false ∧ exec i s = finish s (runDataOp s p fl) := by
  cases h <;> exact ⟨rfl, by simp only [runDataOp_addrOp, firstValue_asrcOpd, secondValue_asrcOpd]; rfl⟩

end AddressUnit

section Comparisons
/-! ## Comparisons -/

/-- A comparison in the terms of its `CmpOp`. -/
def runCmpOp (s : State) (p : CmpOp) : Res Unit :=
  (secondValue s p.unit p.second).bind fun b s1 =>
    .ok () (setFlagsIf (s1.passes p.cc) (cmpFlags p.tst s1.tick (firstValue s1 p.unit p.first) b) (advance s1))

theorem cmpFlags_ok (tst : Bool) (tick : Nat) (a b : Word) :
    if tst then LogicFlags (a &&& b) (cmpFlags tst tick a b) else SubFlags a b (cmpFlags tst tick a b) := by
  cases tst
  · exact subFlags_ok a b
  · exact logicFlags_ok tick (a &&& b)

theorem CmpForm.exec_eq {s : State} {i : Instr} {p : CmpOp} (h : CmpForm s i p) :
    exec i s = finish s (runCmpOp s p) := by
  cases h <;> rfl

theorem secondValue_underflows {s : State} (u : BUnit) (n : BitVec 3) (h : s.th.rdq = []) :
    secondValue s u (.rep 2#2 n) = .exc .readPipelineUnderflow := by
  rcases readO2R_cases s u 2#2 n with ⟨hsel, _⟩ | ⟨_, hr⟩
  · exact absurd rfl hsel
  · rw [secondValue, hr, rdPop, h]; rfl

theorem cmpEffect_of_runCmpOp {i : Instr} {s : State} {p : CmpOp} (h : exec i s = finish s (runCmpOp s p)) :
    CmpEffect i s p := by
  refine ⟨fun n hn hq => ?underflow, fun b s1 hs => ?compare⟩
  case underflow => rw [h, runCmpOp, hn, secondValue_underflows _ _ hq]; rfl
  case compare =>
    have hfirst : firstValue s1 p.unit p.first = firstValue s p.unit p.first := by
      rw [hs.only_rdq, firstValue_rdq]
    have hflags : s1.th.flags = s.th.flags := by rw [hs.only_rdq]
    rw [runCmpOp, secondValue_of_Second hs, Res.bind, setFlagsIf_eq, hfirst, State.passes, hflags] at h
    refine ⟨_, h, fun hc => ?_, fun hc => ?_⟩
    · rw [hc]; exact hflags
    · rw [hc]; exact cmpFlags_ok _ _ _ _

end Comparisons

section Settled

/-- Settles O4: every form is one of two meanings, and both are one write at the end. -/
theorem dataUnitOperations : Obligations.DataUnitOperations := by
  rintro s i p (h | h)
  · obtain ⟨op, hf, he⟩ := h.exec_eq
    exact dataEffect_of_alu he hf
  · obtain ⟨op, hf, he⟩ := h.exec_eq s
    exact dataEffect_of_alu he hf

/-- Settles O5: as O4, with no flags. -/
theorem addressUnitOperations : Obligations.AddressUnitOperations := by
  have of_no_flags {s i p} (h : p.sets = false ∧ exec i s = finish s (runDataOp s p fun _ => s.th.flags)) :
      DataEffect i s p := dataEffect_of_runDataOp _ h.2 fun _ hs => by rw [h.1] at hs; cases hs
  rintro s i p (h | h)
  · exact of_no_flags (h.exec_eq _)
  · exact of_no_flags (h.exec_eq s _)

/-- Settles O12: every form is one meaning. -/
theorem comparisons : Obligations.Comparisons := fun _ _ _ h => cmpEffect_of_runCmpOp h.exec_eq

end Settled

end Sys2Proof.Claims
end

section
/-! SUPPORT. Branches, calls, moves between units and locks: where the pc goes, what is linked, and what each waits for. -/

namespace Sys2Proof.Claims
open Sys2Proof.Machine

section Branches
/-! ## Branches, calls and jumps -/

theorem branchTarget_eq (s : State) (off : BitVec 19) :
    branchTarget s off = s.th.pc + BitVec.ofInt 32 (4 * off.toInt) := by
  rw [branchTarget, BitVec.signExtend, BitVec.ofInt_mul]; rfl

theorem branchTo_uncounted (c : Bool) (off : BitVec 19) (s : State) :
    branchTo false c off s = .next { s with th := { s.th with
      pc := if c then s.th.pc + BitVec.ofInt 32 (4 * off.toInt) else s.th.pc + 4#32 } } := by
  rw [← branchTarget_eq]; cases c <;> rfl

theorem advance_eq_atNext (s : State) : advance s = atNext s := rfl

theorem branchTo_counter_zero {s : State} (c : Bool) (off : BitVec 19) (h : s.ctCell .txrpt = 0#32) :
    branchTo true c off s = .next (atNext s) := by
  simp [branchTo, countDown, h, finish, advance_eq_atNext]

/-- The repeat counter one lower, and the pc at an address. -/
def countedTo (s : State) (pc : Word) : State := (s.setCtCell .txrpt (s.ctCell .txrpt - 1#32)).setPc pc

theorem branchTo_counts {s : State} (c : Bool) (off : BitVec 19) (h : s.ctCell .txrpt ≠ 0#32) :
    branchTo true c off s = .next (countedTo s
      (if c then s.th.pc + BitVec.ofInt 32 (4 * off.toInt) else s.th.pc + 4#32)) := by
  rw [← branchTarget_eq]
  cases c <;> simp [branchTo, countDown, h, finish, countedTo, advance]

/-- What a counted branch changes: the counter, the pc, and nothing else. -/
theorem countedTo_effect (s : State) (pc : Word) :
    (countedTo s pc).ctCell .txrpt = s.ctCell .txrpt - 1#32 ∧ (countedTo s pc).th.pc = pc ∧
      (∀ r, r ≠ .txrpt → (countedTo s pc).ctCell r = s.ctCell r) ∧
      countedTo s pc = { s with th := { s.th with pc := pc, ct := (countedTo s pc).th.ct } } := by
  have hcell : ∀ r, (countedTo s pc).ctCell r = if .txrpt = r then s.ctCell .txrpt - 1#32 else s.ctCell r :=
    fun r => ctCell_set s .txrpt r _
  exact ⟨by rw [hcell, if_pos rfl], rfl, fun r hr => by rw [hcell, if_neg (Ne.symm hr)], rfl⟩

theorem encode_branch (off : BitVec 19) (rep : Bool) :
    encode (.branch off rep) = 0xA0000000 + 32 * off.toNat + rep.toNat := by
  change Sys2Proof.place _ _ = _
  simp only [Laws.place_cons, Laws.place_nil]
  omega

theorem encode_branchCc (off : BitVec 19) (cc : BitVec 4) (rep : Bool) :
    encode (.branchCc off cc rep) = 0xA0000000 + 32 * off.toNat + 2 * cc.toNat + rep.toNat := by
  change Sys2Proof.place _ _ = _
  simp only [Laws.place_cons, Laws.place_nil]
  omega

theorem setPc_writeReg (s : State) (u : BUnit) (n : BitVec 5) (v pc : Word) :
    (writeReg s u n v).setPc pc = writeReg (s.setPc pc) u n v := by
  unfold writeReg State.setPc
  cases u <;> dsimp only <;> (repeat' split) <;> rfl

/-- A link register is written as the pc goes elsewhere. -/
theorem linked_gprWrite (s : State) (u : BUnit) (n : BitVec 5) (v pc : Word) :
    GprWrite { s with th := { s.th with pc := pc } } ((writeReg s u n v).setPc pc) u n v := by
  rw [setPc_writeReg]; exact writeReg_gprWrite (s.setPc pc) u n v

end Branches

section Moves
/-! ## Moves between units -/

/-- A move is a read whatever the condition, and then a write as its last act. -/
theorem moveEffect_of_moveUnit {i : Instr} {s : State} {us : BitVec 4} {rs : BitVec 5} {ud : BitVec 4} {rd : BitVec 5}
    {cc : BitVec 4} (h : exec i s = moveUnit (s.passes cc) us rs ud rd s) :
    MoveEffect i s us rs ud rd cc fun t _ => t := by
  unfold moveUnit at h
  refine ⟨fun hw => ?waits, fun hu => ?underflows, fun hr => ?reads⟩
  case waits => rw [h, readUnit_waits hw]; rfl
  case underflows => rw [h, readUnit_underflow hu]; rfl
  case reads =>
    obtain ⟨v, s1, he, hv⟩ := readUnit_ok 0 hr
    rw [he, Res.bind, State.passes] at h
    refine ⟨v, s1, hv, fun hc => ?_, fun hc => ?_⟩
    · rw [hc] at h; exact h
    · rw [hc] at h
      exact endsWith_of_write (s := atNext s1) h rfl rfl hv.readOnly.mem hv.readOnly.cfg

end Moves

section Locking
/-! ## Locks -/

theorem drained_of_entries {s : State} (r : Res Unit) (h : s.th.rdq ≠ []) :
    drained s r = .next (raise .outstandingReads s) := by
  rw [drained, if_neg h]; rfl

theorem drained_of_empty {s : State} (r : Res Unit) (h : s.th.rdq = []) : drained s r = finish s r := by
  rw [drained, if_pos h]

theorem mayHold_iff_free {s : State} {owner : Option Nat} : mayHold s owner = true ↔ free owner s.th.tid :=
  mayHold_eq_true

theorem lockedOut_iff {s : State} : s.lockedOut = true ↔ ∃ owner, s.globOwner = some owner ∧ owner ≠ s.th.tid := by
  unfold State.lockedOut
  split <;> simp_all

/-- A thread that another one excludes executes nothing at its turn (10_state.md R79). -/
theorem runTurn_of_lockedOut {s : State} (h : s.lockedOut = true) : runTurn s = .next s := by
  rw [runTurn, if_pos h, ite_self]

/-- A turn at which nothing is executed leaves what every step leaves, with the script at its next entry. -/
theorem step_of_idle_turn {s : State}
    (h : ∀ (env : List (Option EnvEvent)) (mid : List Point),
      runTurn { s with env := env, mid := mid } = .next { s with env := env, mid := mid }) :
    (s.env = [] → step s = .next (afterStep s)) ∧
      ∀ o rest, s.env = o :: rest → (o = none ∨ ∃ l, o = some (.during l)) →
        step s = .next (afterStep { s with env := rest }) := by
  refine ⟨fun he => ?_, fun o rest he ho => ?_⟩
  · rw [step, runScript, he]
    exact congrArg closeOut (h s.env s.mid)
  · rcases ho with rfl | ⟨l, rfl⟩
    · rw [step, runScript, he]
      exact congrArg closeOut (h rest s.mid)
    · rw [step, runScript, he]
      exact congrArg closeOut (h rest (opening l))

end Locking

section Steps
/-! ## Steps -/

/-- What a step makes of what its instruction gives. -/
theorem Ready.step_eq {s : State} {pa : Word} {i : Instr} (hr : Ready s) (ht : s.target 2 s.th.pc = some (.ram pa))
    (hd : decode (s.fetchBytes pa).toNat = some i) : step s = closeOut (exec i (s.setRun .running)) := by
  obtain ⟨henv, htodo, hhalt, hglob, hpc⟩ := hr
  have hlock : ¬ s.lockedOut = true := by
    rw [lockedOut_iff]
    rintro ⟨t, hg, hne⟩
    exact hne (hglob t hg)
  have hfetch : fetchWord s = .ok (s.fetchBytes pa) s := by rw [fetchWord, if_pos hpc, ht]
  rw [step, runScript, henv]
  change closeOut (runTurn s) = _
  rw [runTurn, if_neg hhalt, if_neg hlock, if_pos htodo, hfetch, runWord, hd]

end Steps

section Settled

/-- Settles O14, from the meaning of a branch with its condition, counted or not. -/
theorem branch : Obligations.Branch := by
  intro s off target n
  have hcounts : ∀ c : Bool, n ≠ 0#32 → branchTo true c off s =
      .next (countedTo s (if c then target else s.th.pc + 4#32)) := fun c hn => branchTo_counts c off hn
  refine ⟨?_, ?_, branchTo_uncounted true off s, fun hn => branchTo_counter_zero true off hn,
    fun hn => ⟨_, hcounts true hn, countedTo_effect s target⟩, fun cc => ⟨encode_branchCc off cc, ?_⟩⟩
  · exact encode_branch off false
  · rw [encode_branch, Nat.add_right_comm]; rfl
  · exact ⟨branchTo_uncounted _ off s, fun hn => branchTo_counter_zero _ off hn,
      fun hn => ⟨_, hcounts _ hn, countedTo_effect s _⟩⟩

/-- Settles O15: the base register is read before the link is written. -/
theorem callsAndJumps : Obligations.CallsAndJumps := by
  intro s bu u
  refine ⟨fun off rr => ⟨_, rfl, ?callr⟩, fun rs imm => ⟨_, rfl, ?call⟩, fun rs imm => ?jump⟩
  case callr => rw [branchTarget_eq]; exact linked_gprWrite _ _ _ _ _
  case call => rw [BitVec.ofNat_toNat]; exact linked_gprWrite _ _ _ _ _
  case jump => rw [BitVec.ofNat_toNat]; rfl

/-- Settles O16: both forms are one meaning. -/
theorem movesBetweenUnits : Obligations.MovesBetweenUnits := fun _ _ _ _ _ _ =>
  ⟨moveEffect_of_moveUnit rfl, moveEffect_of_moveUnit rfl⟩

/-- Settles O43: the locks by what each form asks for, and the turn of a thread that is locked out. -/
theorem locks : Obligations.Locks := by
  intro s
  refine ⟨fun hq i hi => ?entries, fun hq => ⟨?lock0, fun hv => ?take1, fun hv => ?wait1, fun hv => ?take2,
    fun hv => ?wait2⟩, fun owner hg hne => step_of_idle_turn fun env mid => ?excluded⟩
  case entries => rcases hi with rfl | rfl | rfl <;> exact drained_of_entries _ hq
  case lock0 => exact drained_of_empty _ hq
  case take1 => exact (drained_of_empty _ hq).trans (by rw [if_pos (mayHold_iff_free.2 hv)]; rfl)
  case wait1 => exact (drained_of_empty _ hq).trans (by rw [if_neg (mt mayHold_iff_free.1 hv)]; rfl)
  case take2 =>
    have hfree := Bool.and_eq_true_iff.2 (hv.imp mayHold_iff_free.2 mayHold_iff_free.2)
    exact (drained_of_empty _ hq).trans (by rw [if_pos hfree]; rfl)
  case wait2 =>
    have hheld := mt (fun h => (Bool.and_eq_true_iff.1 h).imp mayHold_iff_free.1 mayHold_iff_free.1) hv
    exact (drained_of_empty _ hq).trans (by rw [if_neg hheld]; rfl)
  case excluded => exact runTurn_of_lockedOut (lockedOut_iff.2 ⟨owner, hg, hne⟩)

/-- Settles O52: a ready thread fetches, decodes and runs, and the step closes what that gives. -/
theorem stepRunsDecoded : Obligations.StepRunsDecoded := by
  intro s pa i hr ht hd
  have hstep := hr.step_eq ht hd
  exact ⟨fun t he => by rw [hstep, State.setRun, he]; rfl, fun f he => by rw [hstep, State.setRun, he]; rfl,
    fun r he => by rw [hstep, State.setRun, he]; rfl⟩

/-- Settles O60, word by word. -/
theorem decodeWords : Obligations.DecodeWords := by unfold Obligations.DecodeWords; decide

end Settled

end Sys2Proof.Claims
end

section
/-! SUPPORT. What the reads, the writes and the exceptions of an instruction leave as it was: what later accesses go by,
the registers, and the bytes of memory. -/

namespace Sys2Proof.Claims
open Sys2Proof.Machine

section Frames
/-! ## What no element changes -/

/-- What no element of a transfer changes. -/
structure Undisturbed (s t : State) : Prop where
  tid : t.th.tid = s.th.tid
  pc : t.th.pc = s.th.pc
  todo : t.th.todo = s.th.todo
  mid : t.mid = s.mid
  cfg : t.cfg = s.cfg
  xlat : t.xlat = s.xlat
  xlatOlds : t.xlatOlds = s.xlatOlds
  tick : t.tick = s.tick

theorem Undisturbed.refl (s : State) : Undisturbed s s := ⟨rfl, rfl, rfl, rfl, rfl, rfl, rfl, rfl⟩

theorem Undisturbed.trans {s t u : State} (h : Undisturbed s t) (h' : Undisturbed t u) : Undisturbed s u :=
  ⟨h'.tid.trans h.tid, h'.pc.trans h.pc, h'.todo.trans h.todo, h'.mid.trans h.mid, h'.cfg.trans h.cfg,
    h'.xlat.trans h.xlat, h'.xlatOlds.trans h.xlatOlds, h'.tick.trans h.tick⟩

theorem Undisturbed.later {s t : State} (h : Undisturbed s t) (k : Nat) : Undisturbed (later s k) (later t k) :=
  ⟨h.tid, h.pc, h.todo, h.mid, h.cfg, h.xlat, h.xlatOlds, congrArg (· + k) h.tick⟩

theorem Undisturbed.quiet {s t : State} (h : Undisturbed s t) (hq : Quiet s) : Quiet t := hq.congr h.mid h.todo

theorem Undisturbed.target {s t : State} (h : Undisturbed s t) (slot : Nat) (a : Word) :
    t.target slot a = s.target slot a := target_congr s t h.xlatOlds h.xlat h.tick h.tid h.cfg slot a

theorem Undisturbed.regPresent {s t : State} (h : Undisturbed s t) (u : BUnit) (n : BitVec 5) :
    regPresent t u n = regPresent s u n := regPresent_congr s t h.cfg u n

theorem Reads.undisturbed {s t : State} {slot : Nat} {a : Word} {sz : Size} {v : DWord} (h : Reads s slot a sz v t) :
    Undisturbed s t := by
  obtain ⟨_, _, _, _, _, _, rfl⟩ := h.frame
  exact ⟨rfl, rfl, rfl, rfl, rfl, rfl, rfl, rfl⟩

theorem Reads.bytes {s t : State} {slot : Nat} {a : Word} {sz : Size} {v : DWord} (h : Reads s slot a sz v t) :
    SameBytes s t := fun b => by rw [h.mem_eq]

theorem SameButReport.undisturbed {s t : State} (h : SameButReport s t) : Undisturbed s t := by
  obtain ⟨_, _, _, _, _, rfl⟩ := h
  exact ⟨rfl, rfl, rfl, rfl, rfl, rfl, rfl, rfl⟩

theorem StoreOnly.undisturbed {s t : State} {pa : Word} {n : Nat} (h : StoreOnly s t pa n) : Undisturbed s t := by
  unfold StoreOnly at h
  rw [h]
  exact ⟨rfl, rfl, rfl, rfl, rfl, rfl, rfl, rfl⟩

theorem noteStore_undisturbed (s : State) : Undisturbed s s.noteStore := ⟨rfl, rfl, rfl, rfl, rfl, rfl, rfl, rfl⟩

theorem toldDevice_undisturbed (s : State) (d : Nat) (pa : Word) (sz : Size) (v : DWord) (first : Word) (n : Nat) :
    Undisturbed s (toldDevice s d pa sz v first n) := ⟨rfl, rfl, rfl, rfl, rfl, rfl, rfl, rfl⟩

theorem Writes.undisturbed {s t : State} {slot : Nat} {a : Word} {v : DWord} {sz : Size}
    (h : Writes s slot a v sz t) : Undisturbed s t := by
  cases h with
  | ram _ _ _ ho => exact ho.undisturbed
  | stray _ _ _ ho => exact ho.undisturbed
  | device _ _ _ => exact (noteStore_undisturbed s).trans (toldDevice_undisturbed ..)
  | strayDevice _ _ => exact (noteStore_undisturbed s).trans (toldDevice_undisturbed ..)
  | deviceL _ _ =>
    exact ((noteStore_undisturbed s).trans (toldDevice_undisturbed ..)).trans (toldDevice_undisturbed ..)
  | failed _ _ => exact (noteStore_undisturbed s).trans (reportFailure_same _).undisturbed

theorem OnlyRegs.undisturbed {s t : State} (h : OnlyRegs s t) (hpc : t.th.pc = s.th.pc) : Undisturbed s t := by
  unfold OnlyRegs at h
  exact ⟨by rw [h], hpc, by rw [h], by rw [h], by rw [h], by rw [h], by rw [h], by rw [h]⟩

theorem GprWrite.undisturbed {s t : State} {u : BUnit} {n : BitVec 5} {v : Word} (h : GprWrite s t u n v) :
    Undisturbed s t := h.rest.undisturbed h.pc

theorem MultiOp.loads.undisturbed {p : MultiOp} {s t : State} {n : Nat} {d : DWord} (h : p.loads s t n d) :
    Undisturbed s t := by
  unfold MultiOp.loads at h
  split at h
  · exact h.rest.undisturbed h.pc
  · exact h.undisturbed

theorem MultiOp.loads.bytes {p : MultiOp} {s t : State} {n : Nat} {d : DWord} (h : p.loads s t n d) :
    SameBytes s t := by
  unfold MultiOp.loads at h
  split at h
  · exact PairWrite.bytes h
  · exact GprWrite.bytes h

theorem SameBytes.trans {s t u : State} (h : SameBytes s t) (h' : SameBytes t u) : SameBytes s u :=
  fun a => (h' a).trans (h a)

/-- The data and address registers, and which of them are there, are as before. -/
structure SameRegs (s t : State) : Prop where
  d0 : t.th.d0 = s.th.d0
  d1 : t.th.d1 = s.th.d1
  a0 : t.th.a0 = s.th.a0
  a1 : t.th.a1 = s.th.a1
  gd0 : t.gd0 = s.gd0
  gd1 : t.gd1 = s.gd1
  ga0 : t.ga0 = s.ga0
  ga1 : t.ga1 = s.ga1
  cfg : t.cfg = s.cfg

theorem SameRegs.refl (s : State) : SameRegs s s := ⟨rfl, rfl, rfl, rfl, rfl, rfl, rfl, rfl, rfl⟩

theorem SameRegs.later (s : State) (k : Nat) : SameRegs s (later s k) := ⟨rfl, rfl, rfl, rfl, rfl, rfl, rfl, rfl, rfl⟩

theorem SameRegs.advance (s : State) : SameRegs s (advance s) := ⟨rfl, rfl, rfl, rfl, rfl, rfl, rfl, rfl, rfl⟩

/-- An exception changes the pc, the level and the run state of the thread, clears its link, and may emit an event. -/
theorem raise_shape (k : ExcKind) (s : State) :
    raise k s = { s with
      th := { s.th with
        pc := (raise k s).th.pc, pcx := (raise k s).th.pcx, istat := (raise k s).th.istat, linkFlag := false
        runState := (raise k s).th.runState, lastException := some k }
      emitted := (raise k s).emitted } := by
  unfold Machine.raise Thread.enterInterrupt
  dsimp only
  split <;> split <;> rfl

theorem SameRegs.raise (k : ExcKind) (s : State) : SameRegs s (raise k s) := by
  rw [raise_shape]
  exact ⟨rfl, rfl, rfl, rfl, rfl, rfl, rfl, rfl, rfl⟩

theorem raise_flags (k : ExcKind) (s : State) : (raise k s).th.flags = s.th.flags := by rw [raise_shape]

theorem raise_bytes (k : ExcKind) (s : State) : SameBytes s (raise k s) := fun a => by rw [raise_shape]

theorem Reads.sameRegs {s t : State} {slot : Nat} {a : Word} {sz : Size} {v : DWord} (h : Reads s slot a sz v t) :
    SameRegs s t := by
  obtain ⟨_, _, _, _, _, _, rfl⟩ := h.frame
  exact ⟨rfl, rfl, rfl, rfl, rfl, rfl, rfl, rfl, rfl⟩

/-- A register that is there reads as its cell, whatever else the state holds and whichever operand it is. -/
theorem SameRegs.readReg {s t : State} (h : SameRegs s t) {u : BUnit} {n : BitVec 5} (hp : regPresent s u n = true)
    (k k' : Nat) : readReg t u n k' = readReg s u n k := by
  have hn := n.isLt
  cases u
  all_goals
    simp only [Machine.regPresent, BUnit.isData, Bool.false_eq_true, if_true, if_false, Bool.or_eq_true,
      Bool.and_eq_true, decide_eq_true_eq] at hp
    simp only [Machine.readReg, readData, readAddr, h.d0, h.d1, h.a0, h.a1, h.gd0, h.gd1, h.ga0, h.ga1, h.cfg,
      Bool.or_eq_true, decide_eq_true_eq]
  case d0 | d1 =>
    by_cases hlow : n.toNat < 16
    · have hd : n.toNat < 8 ∨ s.cfg.dspRegs = true := by grind
      rw [if_pos hlow, if_pos hd, if_pos hlow, if_pos hd]
    · rw [if_neg hlow, if_neg hlow]
  case a0 | a1 =>
    by_cases hlow : n.toNat < 8
    · have hd : n.toNat < 4 ∨ s.cfg.dspRegs = true := by grind
      rw [if_pos hlow, if_pos hd, if_pos hlow, if_pos hd]
    · have hglobal : n.toNat < 16 := by omega
      rw [if_neg hlow, if_pos hglobal, if_neg hlow, if_pos hglobal]

/-- A register that is not there reads as the pc, or as an unspecified value of the same draw. -/
theorem Undisturbed.readReg_absent {s t : State} (h : Undisturbed s t) {u : BUnit} {n : BitVec 5}
    (hp : Machine.regPresent s u n = false) (k : Nat) : readReg t u n k = readReg s u n k := by
  have hn := n.isLt
  cases u
  all_goals
    simp only [Machine.regPresent, BUnit.isData, Bool.false_eq_true, if_true, if_false, Bool.or_eq_false_iff,
      Bool.and_eq_false_iff, decide_eq_false_iff_not] at hp
    simp only [readReg, readData, readAddr, h.cfg, h.tick, h.pc, Bool.or_eq_true, decide_eq_true_eq]
  case d0 | d1 =>
    have hlow : n.toNat < 16 := by omega
    have hd : ¬ (n.toNat < 8 ∨ s.cfg.dspRegs = true) := by simp [hp]
    rw [if_pos hlow, if_neg hd, if_pos hlow, if_neg hd]
  case a0 | a1 =>
    by_cases hlow : n.toNat < 8
    · have hd : ¬ (n.toNat < 4 ∨ s.cfg.dspRegs = true) := by
        simp_all
      rw [if_pos hlow, if_neg hd, if_pos hlow, if_neg hd]
    · have hglobal : ¬ n.toNat < 16 := by omega
      rw [if_neg hlow, if_neg hglobal, if_neg hlow, if_neg hglobal]

end Frames

end Sys2Proof.Claims
end

section
/-! SUPPORT. Loads and stores of several registers: everything that one element can do, what it leaves for the next one,
and the runs of elements. -/

namespace Sys2Proof.Claims
open Sys2Proof.Machine

section Addresses
/-! ## The addresses of the elements -/

theorem MultiOp.size_bytes (p : MultiOp) : p.size.bytes = if p.pair then 8 else 4 := by
  unfold MultiOp.size; split <;> rfl

theorem MultiOp.nextAddr_eq (p : MultiOp) (a : Word) : nextAddr p.pair a = a + BitVec.ofNat 32 p.size.bytes := by
  rw [nextAddr, p.size_bytes]; split <;> rfl

theorem later_later (s : State) (j k : Nat) : later (later s j) k = later s (j + k) := by
  simp only [later, Nat.add_assoc]

/-- One element has stepped the base, if it can be written, and what the other elements go by is as it was. -/
structure MultiOp.Stepped (p : MultiOp) (s t : State) : Prop where
  same : Undisturbed s t
  base : regPresent s p.base p.rb = true → p.addr t = p.addr s + BitVec.ofNat 32 p.size.bytes

theorem MultiOp.Stepped.of_gprWrite {p : MultiOp} {s s1 t : State} (h : Undisturbed s s1)
    (hw : GprWrite s1 t p.base p.rb (p.addr s + BitVec.ofNat 32 p.size.bytes)) : p.Stepped s t :=
  ⟨h.trans hw.undisturbed, fun hp => hw.value ((h.regPresent _ _).trans hp) 2⟩

theorem MultiOp.addrOf_zero (p : MultiOp) (s : State) : p.addrOf s 0 = p.addr s := by
  have hz : later s 0 = s := rfl
  rw [MultiOp.addrOf, hz, Nat.zero_mul, ite_self, BitVec.add_zero]

/-- The elements after the first are at the addresses they have from the start. -/
theorem MultiOp.Stepped.addrOf {p : MultiOp} {s t : State} (h : p.Stepped s t) (k : Nat) :
    p.addrOf (later t 1) k = p.addrOf s (k + 1) := by
  have hsame : Undisturbed (later s (k + 1)) (later (later t 1) k) := by
    rw [later_later, Nat.add_comm 1 k]; exact h.same.later (k + 1)
  have hpresent : regPresent (later t 1) p.base p.rb = regPresent s p.base p.rb := h.same.regPresent _ _
  rw [MultiOp.addrOf, MultiOp.addrOf, hpresent]
  cases hp : regPresent s p.base p.rb with
  | true =>
    have ht : p.addr (later (later t 1) k) = p.addr s + BitVec.ofNat 32 p.size.bytes := by
      rw [later_later, ← h.base hp]; exact (SameRegs.later t _).readReg (hpresent.trans hp) 2 2
    have hs : p.addr (later s (k + 1)) = p.addr s := (SameRegs.later s _).readReg hp 2 2
    rw [if_pos rfl, if_pos rfl, ht, hs, BitVec.add_assoc, ← BitVec.ofNat_add, Nat.add_one_mul, Nat.add_comm]
  | false =>
    have ha : p.addr (later (later t 1) k) = p.addr (later s (k + 1)) := hsame.readReg_absent hp 2
    rw [if_neg Bool.false_ne_true, if_neg Bool.false_ne_true, ha]

theorem MultiOp.Stepped.target {p : MultiOp} {s t : State} (h : p.Stepped s t) (slot k : Nat) (a : Word) :
    (later (later t 1) k).target slot a = (later s (k + 1)).target slot a := by
  rw [later_later, Nat.add_comm 1 k]; exact (h.same.later (k + 1)).target slot a

theorem MultiOp.Stepped.reaches {p : MultiOp} {s t : State} (h : p.Stepped s t) {slot k : Nat}
    (hr : p.reaches s slot (k + 1)) : p.reaches (later t 1) slot k := by
  have hcfg : (later t 1).cfg = s.cfg := h.same.cfg
  rw [MultiOp.reaches, h.addrOf, h.target, hcfg]
  exact hr

/-- An element that goes ahead is not stopped. -/
theorem MultiOp.reaches.not_stops {p : MultiOp} {s : State} {slot : Nat} (hr : p.reaches s slot 0) :
    ¬ p.stops s slot := by
  obtain ⟨ha, ht⟩ := hr
  have hz : later s 0 = s := rfl
  rw [p.addrOf_zero] at ha ht
  rw [hz] at ht
  rintro ⟨hsync, hnone | hmis⟩
  · exact ht.elim (fun h => h hnone) fun hdef => by rw [hsync] at hdef; cases hdef
  · rw [ha] at hmis; cases hmis

end Addresses

section AllowedLoads
/-! ## Loads of a list that the instruction may hold -/

theorem raiseLast_of_quiet {s : State} (hq : Quiet s) (k : ExcKind) : raiseLast k s = raise k s := if_pos hq.2

theorem listable_opp (u : BUnit) (n : Nat) : listable u.opp n = listable u n := by cases u <;> rfl

theorem listable_iff {u : BUnit} {n : Nat} : listable u n = true ↔ if u.isData then n < 16 else n < 8 := by
  unfold listable; split <;> simp

theorem badElement_eq_false {u b : BUnit} {rb : BitVec 5} {n : Nat} :
    badElement u b rb n = false ↔ listable u n = true ∧ ¬ (u = b ∧ n = rb.toNat) := by
  simp [badElement]

/-- A register may be transferred when it is not a bad element, and with pairs its partner is not. -/
theorem MultiOp.allows_iff {p : MultiOp} {n : Nat} :
    p.allows n ↔ (badElement p.unit p.base p.rb n || (p.pair && badElement p.unit.opp p.base p.rb n)) = false := by
  rw [MultiOp.allows, ← listable_iff, Bool.or_eq_false_iff, badElement_eq_false]
  cases p.pair with
  | false => simp
  | true => simp only [Bool.true_and, badElement_eq_false, listable_opp]; tauto

theorem MultiOp.badList_eq_false {p : MultiOp} {l : List Nat} :
    badList p.pair p.unit p.base p.rb l = false ↔ ∀ n ∈ l, p.allows n := by
  simp only [badList, List.any_eq_false, MultiOp.allows_iff, Bool.not_eq_true]

theorem MGetForm.exec_eq {i : Instr} {p : MultiOp} (h : MGetForm i p) (s : State) :
    exec i s = runElements s (mgetElement p.pair p.unit p.base p.rb (badList p.pair p.unit p.base p.rb p.list)
      (p.addr s)) p.list.zipIdx s := by
  cases h <;> rfl

theorem elementDest_eq_some {u b : BUnit} {rb : BitVec 5} {n : Nat} (h : badElement u b rb n = false) :
    elementDest u (badElement u b rb n) n = some (u, BitVec.ofNat 5 n) := by
  have hn : n < 32 := by
    have hl := listable_iff.1 (badElement_eq_false.1 h).1
    split at hl <;> omega
  rw [h, elementDest, if_pos (by simpa using hn)]

theorem freeElement_of_good {bad : Bool} (h : bad = false) (s : State) (u : BUnit) (slot n : Nat) :
    freeElement s u bad slot n = s := by rw [h]; rfl

theorem freePartner_of_good {pair bad : Bool} (h : (pair && bad) = false) (s : State) (u : BUnit) (slot n : Nat) :
    (if pair then freeElement s u bad slot n else s) = s := by
  split
  · rename_i hp; exact freeElement_of_good (by simpa [hp] using h) s u slot n
  · rfl

/-- The registers of an element that a list may hold get the data that was read. -/
theorem MultiOp.allows.loads {p : MultiOp} {s : State} {n : Nat} (ha : p.allows n) (hq : Quiet s)
    (l : Source × Option Source) (hl : l.2 ≠ none → p.size = .l) :
    p.loads (readLocated l p.size s).2
      (s.loads l p.size (elementDest p.unit (badElement p.unit p.base p.rb n) n)
        (if p.pair then elementDest p.unit.opp (badElement p.unit.opp p.base p.rb n) n else none) id)
      n (readLocated l p.size s).1 := by
  obtain ⟨hlo, hhi⟩ := Bool.or_eq_false_iff.1 (p.allows_iff.1 ha)
  rw [elementDest_eq_some hlo, MultiOp.loads]
  cases hp : p.pair with
  | true =>
    rw [hp, Bool.true_and] at hhi
    have hsize : p.size = .l := by rw [MultiOp.size, hp]; rfl
    rw [hsize, if_pos rfl, if_pos rfl, elementDest_eq_some hhi]
    exact loads_pairWrite hq l p.unit _
  | false =>
    have hload := loads_located (f := id) hq l (some (p.unit, BitVec.ofNat 5 n)) none hl (fun _ _ _ => rfl)
      (fun _ h => h) fun _ _ _ => rfl
    rw [if_neg Bool.false_ne_true, if_neg Bool.false_ne_true, hload, ← lowWord_eq_setWidth]
    exact writeReg_gprWrite _ _ _ _

/-- Everything that an element of MGET can do when the list is allowed. -/
theorem mgetElement_cases {p : MultiOp} {s : State} (hq : Quiet s) (base : Word) {n : Nat} (k : Nat)
    (ha : p.allows n) :
    (∃ s1 s2 t d, mgetElement p.pair p.unit p.base p.rb false base (n, k) s = .ok () t ∧
      Reads s 0 (p.addr s) p.size d s1 ∧ p.loads s1 s2 n d ∧
      GprWrite s2 t p.base p.rb (p.addr s + BitVec.ofNat 32 p.size.bytes)) ∨
    (mgetElement p.pair p.unit p.base p.rb false base (n, k) s = .exc (.memoryFault (p.addr s) .read) ∧
      p.stops s 0) := by
  obtain ⟨hlo, hhi⟩ := Bool.or_eq_false_iff.1 (p.allows_iff.1 ha)
  have he : mgetElement p.pair p.unit p.base p.rb false base (n, k) s =
      (locate s 0 (p.addr s) p.size).bind fun l s1 => .ok () (writeReg
        (s1.loads l p.size (elementDest p.unit (badElement p.unit p.base p.rb n) n)
          (if p.pair then elementDest p.unit.opp (badElement p.unit.opp p.base p.rb n) n else none) id)
        p.base p.rb (p.addr s + BitVec.ofNat 32 p.size.bytes)) := by
    rw [← p.nextAddr_eq]
    refine Res.bind_congr _ _ _ fun l s1 _ => ?_
    dsimp only
    rw [freeElement_of_good hlo, freePartner_of_good hhi]
    rfl
  rcases locate_cases s 0 (p.addr s) p.size with ⟨l, s1, hr, hs, hl, _, hv⟩ | ⟨hr, hsync, hbad⟩
  · exact .inl ⟨_, _, _, _, by rw [he, hr]; rfl, hv, ha.loads (hs.quiet hq) l hl, writeReg_gprWrite _ _ _ _⟩
  · exact .inr ⟨by rw [he, hr]; rfl, hsync, hbad⟩

/-- MGET of registers that the list may hold, from the element it has come to. -/
theorem mget_runs {p : MultiOp} (s0 : State) (base : Word) {l : List Nat} (hl : ∀ n ∈ l, p.allows n) (i : Nat)
    {s : State} (hq : Quiet s) :
    ∃ f t, runElements s0 (mgetElement p.pair p.unit p.base p.rb false base) (l.zipIdx i) s = .next t ∧
      MGetRun p f l s t ∧ SameBytes s t ∧ ((∀ k < l.length, p.reaches s 0 k) → f = true) := by
  induction l generalizing s i with
  | nil => exact ⟨true, _, rfl, .done, fun _ => rfl, fun _ => rfl⟩
  | cons n l ih =>
    obtain ⟨hn, hrest⟩ := List.forall_mem_cons.1 hl
    rw [List.zipIdx_cons, runElements]
    rcases mgetElement_cases hq base i hn with ⟨s1, s2, s3, d, he, hr, hd, hb⟩ | ⟨he, hstop⟩
    · have hsame := hr.undisturbed.trans hd.undisturbed
      have hstep : p.Stepped s s3 := .of_gprWrite hsame hb
      have hbytes : SameBytes s s3 := hr.bytes.trans (hd.bytes.trans hb.bytes)
      obtain ⟨f, t, ht, hrun, htb, hf⟩ := ih hrest (i + 1) (s := s3.fresh) (hstep.same.quiet hq)
      refine ⟨f, t, by rw [he]; exact ht, .load hr hd hb hrun, hbytes.trans htb, fun hk => hf fun k hkl => ?_⟩
      exact hstep.reaches (hk (k + 1) (Nat.succ_lt_succ hkl))
    · refine ⟨false, _, by rw [he], ?_, ?_, fun hk => absurd hstop (hk 0 (Nat.succ_pos _)).not_stops⟩
      · rw [raiseLast_of_quiet hq]; exact .fault hstop
      · rw [raiseLast_of_quiet hq]; exact raise_bytes _ _

end AllowedLoads

section OtherLoads
/-! ## Loads of other lists -/

/-- Register `n` of unit `u` is one of the list, or with pairs the partner of one. -/
def MultiOp.names (p : MultiOp) (u : BUnit) (n : Nat) : Prop :=
  n ∈ p.list ∧ (u = p.unit ∨ p.pair = true ∧ u = p.unit.opp)

/-- A register that the instruction does not write: it is neither named nor the base. -/
def MultiOp.leaves (p : MultiOp) (u : BUnit) (r : BitVec 5) : Prop :=
  ¬ p.names u r.toNat ∧ ¬ (u = p.base ∧ r = p.rb)

/-- Nothing that an instruction must leave has changed, whatever its list. -/
structure MultiOp.Spares (p : MultiOp) (s t : State) : Prop where
  regs : ∀ u r k, regPresent s u r = true → p.leaves u r → readReg t u r k = readReg s u r k
  cfg : t.cfg = s.cfg
  flags : t.th.flags = s.th.flags
  bytes : SameBytes s t

theorem MultiOp.Spares.of_sameRegs {p : MultiOp} {s t : State} (h : SameRegs s t) (hf : t.th.flags = s.th.flags)
    (hb : SameBytes s t) : p.Spares s t := ⟨fun _ _ k hp _ => h.readReg hp k k, h.cfg, hf, hb⟩

theorem MultiOp.Spares.trans {p : MultiOp} {s t v : State} (h : p.Spares s t) (h' : p.Spares t v) : p.Spares s v where
  regs u r k hp hl := (h'.regs u r k ((regPresent_congr s t h.cfg u r).trans hp) hl).trans (h.regs u r k hp hl)
  cfg := h'.cfg.trans h.cfg
  flags := h'.flags.trans h.flags
  bytes := h.bytes.trans h'.bytes

theorem MultiOp.Spares.later (p : MultiOp) (s : State) (k : Nat) : p.Spares s (later s k) :=
  .of_sameRegs (.later s k) rfl fun _ => rfl

theorem MultiOp.Spares.advance (p : MultiOp) (s : State) : p.Spares s (advance s) :=
  .of_sameRegs (.advance s) rfl fun _ => rfl

theorem MultiOp.Spares.raise (p : MultiOp) (k : ExcKind) (s : State) : p.Spares s (raise k s) :=
  .of_sameRegs (.raise k s) (raise_flags k s) (raise_bytes k s)

/-- A part of an element: what must be left is left, and the other elements go by what they went by. -/
structure MultiOp.Passes (p : MultiOp) (s t : State) : Prop where
  spares : p.Spares s t
  same : Undisturbed s t

theorem MultiOp.Passes.refl (p : MultiOp) (s : State) : p.Passes s s :=
  ⟨.of_sameRegs (.refl s) rfl fun _ => rfl, .refl s⟩

theorem MultiOp.Passes.trans {p : MultiOp} {s t v : State} (h : p.Passes s t) (h' : p.Passes t v) : p.Passes s v :=
  ⟨h.spares.trans h'.spares, h.same.trans h'.same⟩

theorem Reads.passes {s t : State} {slot : Nat} {a : Word} {sz : Size} {v : DWord} (h : Reads s slot a sz v t)
    (p : MultiOp) : p.Passes s t := by
  have hf : t.th.flags = s.th.flags := by obtain ⟨_, _, _, _, _, _, rfl⟩ := h.frame; rfl
  exact ⟨.of_sameRegs h.sameRegs hf h.bytes, h.undisturbed⟩

theorem writeReg_passes {p : MultiOp} (s : State) {u : BUnit} {n : BitVec 5} (v : Word) (h : ¬ p.leaves u n) :
    p.Passes s (writeReg s u n v) where
  spares := by
    refine ⟨fun u' r k _ hl => ?_, by simp, by simp, fun a => by simp⟩
    rw [readReg_writeReg, if_neg]
    rintro ⟨rfl, rfl, _⟩
    exact h hl
  same := (writeReg_gprWrite s u n v).undisturbed

theorem MultiOp.names.not_leaves {p : MultiOp} {u : BUnit} {n : Nat} (h : p.names u n) (hn : n < 32) :
    ¬ p.leaves u (BitVec.ofNat 5 n) := by
  have he : (BitVec.ofNat 5 n).toNat = n := by simpa using hn
  exact fun hl => hl.1 (he.symm ▸ h)

theorem deliverTo_passes {p : MultiOp} {u : BUnit} {n : Nat} (h : p.names u n) (s : State) (bad : Bool) (v : Word) :
    p.Passes s (s.deliverTo (elementDest u bad n) v) := by
  unfold elementDest
  split
  · rename_i hn
    exact writeReg_passes s v (h.not_leaves (of_decide_eq_true (Bool.and_eq_true_iff.1 hn).1))
  · exact .refl p s

theorem freeElement_passes {p : MultiOp} {u : BUnit} {n : Nat} (h : p.names u n) (s : State) (bad : Bool)
    (slot : Nat) : p.Passes s (freeElement s u bad slot n) := by
  unfold freeElement writeElement
  split
  · split
    · rename_i hn; exact writeReg_passes s _ (h.not_leaves hn)
    · exact .refl p s
  · exact .refl p s

theorem deliverTo_partner_passes {p : MultiOp} {n : Nat} (hn : n ∈ p.list) (s : State) (bad : Bool) (v : Word) :
    p.Passes s (s.deliverTo (if p.pair then elementDest p.unit.opp bad n else none) v) := by
  split
  · rename_i hp; exact deliverTo_passes ⟨hn, .inr ⟨hp, rfl⟩⟩ s bad v
  · exact .refl p s

theorem freeElement_partner_passes {p : MultiOp} {n : Nat} (hn : n ∈ p.list) (s : State) (bad : Bool) (slot : Nat) :
    p.Passes s (if p.pair then freeElement s p.unit.opp bad slot n else s) := by
  split
  · rename_i hp; exact freeElement_passes ⟨hn, .inr ⟨hp, rfl⟩⟩ s bad slot
  · exact .refl p s

/-- The address of element `k` of a bad list. -/
def MultiOp.strideAddr (p : MultiOp) (base : Word) (k : Nat) : Word := base + BitVec.ofNat 32 (k * p.size.bytes)

/-- Everything that an element of MGET can do when the list is bad. -/
theorem mgetElement_bad_cases {p : MultiOp} {s : State} (hq : Quiet s) (base : Word) {n : Nat} (k : Nat)
    (hn : n ∈ p.list) :
    (∃ t, mgetElement p.pair p.unit p.base p.rb true base (n, k) s = .ok () t ∧ p.Passes s t) ∨
    (mgetElement p.pair p.unit p.base p.rb true base (n, k) s = .exc (.memoryFault (p.strideAddr base k) .read) ∧
      s.cfg.memErrorMode = .sync ∧
      (s.target 0 (p.strideAddr base k) = none ∨ aligned (p.strideAddr base k) p.size = false)) := by
  have haddr : base + BitVec.ofNat 32 ((if p.pair then 8 else 4) * k) = p.strideAddr base k := by
    rw [MultiOp.strideAddr, p.size_bytes, Nat.mul_comm]
  have hsize : elementSize p.pair = p.size := rfl
  unfold mgetElement
  dsimp only
  rw [if_pos rfl, haddr, hsize]
  rcases locate_cases s 0 (p.strideAddr base k) p.size with ⟨l, s1, hr, hs, hl, _, hv⟩ | ⟨hr, hsync, hbad⟩
  · refine .inl ⟨_, by rw [hr]; rfl, ?_⟩
    refine .trans ?_ (writeReg_passes _ _ fun h => h.2 ⟨rfl, rfl⟩)
    refine .trans ?_ (freeElement_partner_passes hn _ _ _)
    refine .trans ?_ (freeElement_passes ⟨hn, .inl rfl⟩ _ _ _)
    rw [loads_located (f := id) (hs.quiet hq) l _ _ hl (fun _ _ _ => rfl) (fun _ h => h) fun _ _ _ => rfl]
    refine .trans ?_ (deliverTo_partner_passes hn _ _ _)
    exact (hv.passes p).trans (deliverTo_passes ⟨hn, .inl rfl⟩ _ _ _)
  · exact .inr ⟨by rw [hr]; rfl, hsync, hbad⟩

/-- Element `k` of a bad list, from the state before the elements from `i` on, goes ahead. -/
def MultiOp.strides (p : MultiOp) (base : Word) (s : State) (i k : Nat) : Prop :=
  aligned (p.strideAddr base (i + k)) p.size = true ∧
    ((later s k).target 0 (p.strideAddr base (i + k)) ≠ none ∨ s.cfg.memErrorMode = .deferred)

theorem MultiOp.strides.after {p : MultiOp} {base : Word} {s t : State} {i k : Nat} (h : Undisturbed s t)
    (hk : p.strides base s i (k + 1)) : p.strides base (later t 1) (i + 1) k := by
  have hcfg : (Claims.later t 1).cfg = s.cfg := h.cfg
  rw [MultiOp.strides, later_later, Nat.add_right_comm i 1 k, Nat.add_comm 1 k, (h.later (k + 1)).target, hcfg]
  exact hk

/-- MGET of a bad list, from the element it has come to. -/
theorem mget_bad_runs {p : MultiOp} (s0 : State) (base : Word) {l : List Nat} (hl : ∀ n ∈ l, n ∈ p.list) (i : Nat)
    {s : State} (hq : Quiet s) :
    ∃ t, runElements s0 (mgetElement p.pair p.unit p.base p.rb true base) (l.zipIdx i) s = .next t ∧
      p.Spares s t ∧ ((∀ k < l.length, p.strides base s i k) → t.th.pc = s.th.pc + 4#32) := by
  induction l generalizing s i with
  | nil => exact ⟨_, rfl, .advance p s, fun _ => rfl⟩
  | cons n l ih =>
    obtain ⟨hn, hrest⟩ := List.forall_mem_cons.1 hl
    rw [List.zipIdx_cons, runElements]
    rcases mgetElement_bad_cases hq base i hn with ⟨s1, he, hpass⟩ | ⟨he, hsync, hbad⟩
    · obtain ⟨t, ht, hspares, hpc⟩ := ih hrest (i + 1) (s := s1.fresh) (hpass.same.quiet hq)
      refine ⟨t, by rw [he]; exact ht, (hpass.spares.trans (.later p s1 1)).trans hspares, fun hk => ?_⟩
      exact (hpc fun k hkl => (hk (k + 1) (Nat.succ_lt_succ hkl)).after hpass.same).trans
        (congrArg (· + 4#32) hpass.same.pc)
    · refine ⟨_, by rw [he], by rw [raiseLast_of_quiet hq]; exact .raise p _ s, fun hk => ?_⟩
      obtain ⟨ha, ht⟩ := hk 0 (Nat.succ_pos _)
      rcases hbad with hnone | hmis
      · exact ht.elim (fun h => absurd hnone h) fun h => by rw [hsync] at h; cases h
      · exact absurd ha (Bool.eq_false_iff.1 hmis)

/-- The elements of an aligned base are aligned: the address space is a multiple of every size. -/
theorem MultiOp.aligned_strideAddr {p : MultiOp} {base : Word} (h : aligned base p.size = true) (k : Nat) :
    aligned (p.strideAddr base k) p.size = true := by
  rw [aligned, beq_iff_eq, MultiOp.strideAddr] at *
  rw [BitVec.toNat_add, BitVec.toNat_ofNat]
  rw [p.size_bytes] at *
  split at h <;> split <;> first | omega | contradiction

end OtherLoads

section Stores
/-! ## Stores -/

theorem MSetForm.exec_eq {i : Instr} {p : MultiOp} (h : MSetForm i p) (s : State) :
    exec i s = runElements s (msetElement p.pair p.unit p.base p.rb s) p.list s := by
  cases h <;> rfl

theorem regPresent_opp (s : State) (u : BUnit) (n : BitVec 5) : regPresent s u.opp n = regPresent s u n := by
  cases u <;> rfl

theorem setWidth_eq_zero_append (w : Word) : w.setWidth 64 = 0#32 ++ w := by
  rw [BitVec.append_def]; simp

/-- An element that the list may hold is stored as its register was. -/
theorem readElement_of_good {s : State} {u : BUnit} {bad : Bool} {n : Nat} (h : bad = false)
    (hp : regPresent s u (BitVec.ofNat 5 n) = true) (slot : Nat) :
    readElement s u bad slot n = readReg s u (BitVec.ofNat 5 n) 0 := by
  rw [h]; exact (SameRegs.refl s).readReg hp 0 (slot + n)

theorem MultiOp.allows.msetData {p : MultiOp} {s0 : State} {n : Nat} (ha : p.allows n)
    (hp : regPresent s0 p.unit (BitVec.ofNat 5 n) = true) :
    msetData p.pair p.unit p.base p.rb s0 n =
      (if p.pair then readReg s0 p.unit.opp (BitVec.ofNat 5 n) 0 else 0#32) ++
        readReg s0 p.unit (BitVec.ofNat 5 n) 0 := by
  obtain ⟨hlo, hhi⟩ := Bool.or_eq_false_iff.1 (p.allows_iff.1 ha)
  rw [Machine.msetData, readElement_of_good hlo hp]
  cases hpair : p.pair with
  | true =>
    rw [hpair, Bool.true_and] at hhi
    rw [if_pos rfl, if_pos rfl, readElement_of_good hhi ((regPresent_opp s0 p.unit _).trans hp)]
  | false => exact setWidth_eq_zero_append _

/-- Everything that an element of MSET can do. -/
theorem msetElement_cases {p : MultiOp} {s : State} (hw : s.mem.wf = true) (hq : Quiet s) (s0 : State) (n : Nat) :
    (∃ s1 t, msetElement p.pair p.unit p.base p.rb s0 n s = .ok () t ∧ t.mem.wf = true ∧
      Writes s 1 (p.addr s) (msetData p.pair p.unit p.base p.rb s0 n) p.size s1 ∧
      GprWrite s1 t p.base p.rb (p.addr s + BitVec.ofNat 32 p.size.bytes)) ∨
    (msetElement p.pair p.unit p.base p.rb s0 n s = .exc (.memoryFault (p.addr s) .write) ∧ p.stops s 1) := by
  have he : msetElement p.pair p.unit p.base p.rb s0 n s =
      (memWrite s 1 (p.addr s) p.size (msetData p.pair p.unit p.base p.rb s0 n)).bind fun _ s1 =>
        .ok () (writeReg s1 p.base p.rb (p.addr s + BitVec.ofNat 32 p.size.bytes)) := by
    rw [← p.nextAddr_eq]; rfl
  rcases memWrite_cases (msetData p.pair p.unit p.base p.rb s0 n) hw hq 1 (p.addr s) p.size with
    ⟨s1, hr, hwr⟩ | ⟨hr, hsync, hbad⟩
  · rw [hr] at he
    exact .inl ⟨s1, _, he, (KeepsRes.msetElement (.refl s) _ _ _ _ s0 n _ _ he).mem hw, hwr, writeReg_gprWrite _ _ _ _⟩
  · exact .inr ⟨by rw [he, hr]; rfl, hsync, hbad⟩

/-- Address `a` is none of the bytes of element `k`. -/
def MultiOp.apart (p : MultiOp) (s : State) (a k : Nat) : Prop :=
  ∀ pa, (later s k).target 1 (p.addrOf s k) = some (.ram pa) → ∀ j < p.size.bytes, a ≠ (pa + BitVec.ofNat 32 j).toNat

theorem MultiOp.Stepped.apart {p : MultiOp} {s t : State} (h : p.Stepped s t) {a k : Nat}
    (ha : p.apart s a (k + 1)) : p.apart (later t 1) a k := by
  rw [MultiOp.apart, h.addrOf, h.target]; exact ha

@[simp] theorem reportFailure_mem (s : State) : s.reportFailure.mem = s.mem := by
  obtain ⟨_, _, _, _, _, h⟩ := reportFailure_same s
  rw [h]

/-- An aligned write changes no byte but its own, and none where it goes to a device or fails. -/
theorem Writes.kept {s t : State} {slot : Nat} {a : Word} {v : DWord} {sz : Size} (h : Writes s slot a v sz t)
    (ha : aligned a sz = true) {b : Nat}
    (hb : ∀ pa, s.target slot a = some (.ram pa) → ∀ j < sz.bytes, b ≠ (pa + BitVec.ofNat 32 j).toNat) :
    t.mem.get b = s.mem.get b := by
  cases h with
  | ram _ ht hs _ => exact hs.kept b (hb _ ht)
  | stray hmis _ _ _ => rw [ha] at hmis; cases hmis
  | device _ _ _ => rfl
  | strayDevice hmis _ => rw [ha] at hmis; cases hmis
  | deviceL _ _ => rfl
  | failed _ _ => rw [reportFailure_mem]; rfl

/-- MSET of registers as they were in `s0`, from the element it has come to. -/
theorem mset_runs {p : MultiOp} (s0 s1 : State) (l : List Nat) {s : State} (hw : s.mem.wf = true) (hq : Quiet s) :
    ∃ f t, runElements s1 (msetElement p.pair p.unit p.base p.rb s0) l s = .next t ∧ MSetRun p s0 f l s t ∧
      ((∀ k < l.length, p.reaches s 1 k) → f = true) ∧
      ((∀ k < l.length, aligned (p.addrOf s k) p.size = true) →
        ∀ a, (∀ k < l.length, p.apart s a k) → t.mem.get a = s.mem.get a) := by
  induction l generalizing s with
  | nil => exact ⟨true, _, rfl, .done, fun _ => rfl, fun _ _ _ => rfl⟩
  | cons n l ih =>
    rw [runElements]
    rcases msetElement_cases hw hq s0 n with ⟨s2, s3, he, hw3, hwr, hb⟩ | ⟨he, hstop⟩
    · have hstep : p.Stepped s s3 := .of_gprWrite hwr.undisturbed hb
      obtain ⟨f, t, ht, hrun, hf, hkept⟩ := ih (s := s3.fresh) hw3 (hstep.same.quiet hq)
      refine ⟨f, t, by rw [he]; exact ht, .store (fun ha hp => ha.msetData hp) hwr hb hrun,
        fun hk => hf fun k hkl => hstep.reaches (hk (k + 1) (Nat.succ_lt_succ hkl)), fun hal a hap => ?_⟩
      have hfirst : t.mem.get a = s3.mem.get a :=
        hkept (fun k hkl => hstep.addrOf k ▸ hal (k + 1) (Nat.succ_lt_succ hkl)) a
          fun k hkl => hstep.apart (hap (k + 1) (Nat.succ_lt_succ hkl))
      have hal0 := hal 0 (Nat.succ_pos _)
      have hap0 := hap 0 (Nat.succ_pos _)
      rw [MultiOp.apart, p.addrOf_zero] at hap0
      rw [p.addrOf_zero] at hal0
      exact hfirst.trans ((hb.bytes a).trans (hwr.kept hal0 hap0))
    · rw [he]
      dsimp only
      rw [raiseLast_of_quiet hq]
      exact ⟨false, _, rfl, .fault hstop, fun hk => absurd hstop (hk 0 (Nat.succ_pos _)).not_stops,
        fun _ a _ => raise_bytes _ s a⟩

end Stores

section Settled

/-- Settles O30: a list that the instruction may hold runs element by element, and any other list writes no more than
the registers it names and the base. -/
theorem multipleLoads : Obligations.MultipleLoads := by
  intro s i p hf hq
  refine ⟨fun ha => ?allowed, fun hb => ?bad⟩
  case allowed =>
    rw [hf.exec_eq, p.badList_eq_false.2 ha]
    exact mget_runs s (p.addr s) ha 0 hq
  case bad =>
    have hbad : badList p.pair p.unit p.base p.rb p.list = true := by
      obtain ⟨n, hn, hna⟩ := hb
      exact Bool.of_not_eq_false fun h => hna (p.badList_eq_false.1 h n hn)
    obtain ⟨t, ht, hspares, hpc⟩ := mget_bad_runs s (p.addr s) (fun _ h => h) 0 hq
    refine ⟨t, by rw [hf.exec_eq, hbad]; exact ht, hspares.bytes, hspares.flags,
      fun u r k hp hn hb => hspares.regs u r k hp ⟨hn, hb⟩, fun ha hreach => hpc fun k hk => ?_⟩
    rw [MultiOp.strides, Nat.zero_add]
    exact ⟨p.aligned_strideAddr ha k, hreach k hk⟩

/-- Settles O31: MSET runs element by element, and an aligned write keeps every byte but its own. -/
theorem multipleStores : Obligations.MultipleStores := by
  intro s i p hf hw hq
  rw [hf.exec_eq]
  exact mset_runs s s p.list hw hq

end Settled

end Sys2Proof.Claims
end

section
/-! SUPPORT. Multiplies, swaps, and the instructions that change the level or trap: what each meaning does, in the
vocabulary of the statements. -/

namespace Sys2Proof.Claims
open Sys2Proof.Machine

section Multiplies
/-! ## Multiplies -/

/-- A multiply with a condition, as the meanings write it: it sets no flags. -/
theorem runDataOp_mulOp (s : State) (op : MulOp) (du : Bool) (ud : BitVec 4) (rd : BitVec 5) (cc : BitVec 4)
    (a o : Opd) (fl : Word → Flags) :
    runDataOp s (mulOp op du ud rd cc a o) fl =
      (secondValue s (dataUnit du) o).bind fun b s1 =>
        if s1.passes cc then writeUnit (advance s1) ud rd (op.result (firstValue s1 (dataUnit du) a) b)
        else .ok () (advance s1) := by
  refine bind_secondValue_congr fun b q => ?_
  rw [firstValue_rdq, mulValue_eq]
  rfl

/-- The same with a destination in the unit that executes. -/
theorem runDataOp_mulOp_code (s : State) (op : MulOp) (du : Bool) (rd : BitVec 5) (cc : BitVec 4) (a o : Opd)
    (fl : Word → Flags) :
    runDataOp s (mulOp op du (dataUnit du).code rd cc a o) fl =
      (secondValue s (dataUnit du) o).bind fun b s1 =>
        .ok () (if s1.passes cc then endMul (dataUnit du) rd (op.result (firstValue s1 (dataUnit du) a) b) s1
          else advance s1) := by
  rw [runDataOp_mulOp]
  refine Res.bind_congr _ _ _ fun b s1 _ => ?_
  rw [writeUnit_code, apply_ite (Res.ok ())]
  rfl

theorem MulForm.exec_eq {s : State} {i : Instr} {p : DataOp} (h : MulForm s i p) (fl : Word → Flags) :
    p.sets = false ∧ exec i s = finish s (runDataOp s p fl) := by
  cases h <;> exact ⟨rfl, by rw [runDataOp_mulOp_code]; rfl⟩

theorem dataEffect_of_no_flags {i : Instr} {s : State} {p : DataOp} {fl : Word → Flags} (hs : p.sets = false)
    (h : exec i s = finish s (runDataOp s p fl)) : DataEffect i s p :=
  dataEffect_of_runDataOp fl h fun _ ht => absurd (hs.symm.trans ht) Bool.false_ne_true

/-- A multiply with a unit field, in the terms of its `DataOp`. -/
def runMulOut (s : State) (p : DataOp) : Res Unit :=
  (secondValue s p.unit p.second).bind fun b s1 =>
    endMulOut p.ud p.rd (p.result (firstValue s1 p.unit p.first) b) s1

theorem runMulOut_mulOp (s : State) (op : MulOp) (du : Bool) (ud : BitVec 4) (rd : BitVec 5) (cc : BitVec 4)
    (a o : Opd) :
    runMulOut s (mulOp op du ud rd cc a o) =
      (secondValue s (dataUnit du) o).bind fun b s1 =>
        endMulOut ud rd (op.result (firstValue s1 (dataUnit du) a) b) s1 :=
  Res.bind_congr _ _ _ fun b s1 _ => by rw [mulValue_eq]; rfl

theorem MulUnitForm.exec_eq {i : Instr} {p : DataOp} (h : MulUnitForm i p) (s : State) :
    p.sets = false ∧ p.cc = 0#4 ∧ exec i s = finish s (runMulOut s p) := by
  cases h <;> exact ⟨rfl, rfl, by rw [runMulOut_mulOp]; rfl⟩

theorem ofCode_eq_none_iff {u : BitVec 4} : BUnit.ofCode u = none ↔ ¬ (1 ≤ u.toNat ∧ u.toNat ≤ 4) := by
  revert u; decide

theorem endMulOut_named {ud : BitVec 4} (h : 1 ≤ ud.toNat ∧ ud.toNat ≤ 4) (rd : BitVec 5) (v : Word) (s : State) :
    endMulOut ud rd v s = writeUnit (advance s) ud rd v := by
  obtain ⟨u, hu⟩ := Option.ne_none_iff_exists'.1 (mt ofCode_eq_none_iff.1 (not_not_intro h))
  rw [endMulOut, hu, BUnit.code_of_ofCode hu, writeUnit_code]

theorem endMulOut_unnamed {ud : BitVec 4} (h : ¬ (1 ≤ ud.toNat ∧ ud.toNat ≤ 4)) (rd : BitVec 5) (v : Word)
    (s : State) : endMulOut ud rd v s = writeFree (advance s) ud rd 0 := by
  rw [endMulOut, ofCode_eq_none_iff.2 h]

/-- Into a unit that its field names a multiply is an operation like any other. -/
theorem runMulOut_named {s : State} {p : DataOp} (hs : p.sets = false) (hc : p.cc = 0#4)
    (h : 1 ≤ p.ud.toNat ∧ p.ud.toNat ≤ 4) (fl : Word → Flags) : runMulOut s p = runDataOp s p fl := by
  refine bind_secondValue_congr fun b q => ?_
  rw [endMulOut_named h, firstValue_rdq, hs, hc]
  rfl

/-- Into any other unit it reads its operands, and its last act is an unspecified write. -/
theorem freeEffect_of_runMulOut {i : Instr} {s : State} {p : DataOp} (h : exec i s = finish s (runMulOut s p))
    (hu : ¬ (1 ≤ p.ud.toNat ∧ p.ud.toNat ≤ 4)) : FreeEffect i s p := by
  refine ⟨fun n hn hq => ?underflow, fun b s1 hs => ?writes⟩
  case underflow => rw [h, runMulOut, hn, secondValue_underflows _ _ hq]; rfl
  case writes =>
    have hmem : (atNext s1).mem = s.mem := by rw [hs.only_rdq]; rfl
    have hcfg : (atNext s1).cfg = s.cfg := by rw [hs.only_rdq]; rfl
    rw [runMulOut, secondValue_of_Second hs, Res.bind, endMulOut_unnamed hu, advance_eq_atNext] at h
    refine ⟨fun h6 => ?register, fun h6 => ?port⟩
    case register =>
      obtain ⟨t, ht, hfree, hm⟩ := writeFree_ok (s := atNext s1) p.rd 0 h6
      exact ⟨t, by rw [h, ht]; rfl, hfree, fun a => by rw [hm, hmem]⟩
    case port =>
      rw [h6] at h ⊢
      rcases writeFree_port (atNext s1) p.rd 0 with hnone | ⟨a, hissue⟩
      · exact .inl (by rw [h, hnone]; rfl)
      · exact .inr ⟨a, endsWith_of_write (h.trans (congrArg (finish s) hissue)) rfl rfl hmem hcfg⟩

end Multiplies

section Swaps
/-! ## Swaps -/

theorem swapForbidden_iff {us ud : BitVec 4} : swapForbidden us ud = true ↔ SwapForbidden us ud := by
  simp only [swapForbidden, controlUnit, SwapForbidden, SpecialUnit, Bool.or_eq_true, Bool.and_eq_true, beq_iff_eq,
    or_assoc]

/-- A read of a unit that is neither the triggers nor the ports takes nothing. -/
theorem UnitRead.state_eq {s t : State} {u : BitVec 4} {n : BitVec 5} {k : Nat} {v : Word}
    (h : UnitRead s t u n k v) (h6 : u ≠ 6#4) (h7 : u ≠ 7#4) : t = s := by
  unfold UnitRead at h
  split at h
  case h_7 _ hu => exact absurd (BitVec.eq_of_toNat_eq hu) h6
  case h_8 _ hu => exact absurd (BitVec.eq_of_toNat_eq hu) h7
  case h_10 => exact h
  all_goals exact h.1

/-- The wait for a trigger of one register is not changed by a read of a register of another unit. -/
theorem UnitRead.readWaits_iff {s t : State} {u u' : BitVec 4} {n n' : BitVec 5} {k : Nat} {v : Word}
    (h : UnitRead s t u n k v) (h6 : u ≠ 6#4) (hne : u ≠ u') : ReadWaits t u' n' ↔ ReadWaits s u' n' := by
  by_cases h7 : u = 7#4
  · have hother : ∀ r, ¬ ReadWaits r u' n' := fun r hr => hne (h7.trans hr.1.symm)
    exact iff_of_false (hother t) (hother s)
  · rw [h.state_eq h6 h7]

/-- A swap that is allowed: two reads whatever the condition, and two writes that neither wait nor fault. -/
theorem swapEffect_of_swapUnits {i : Instr} {s : State} {us : BitVec 4} {rs : BitVec 5} {ud : BitVec 4} {rd : BitVec 5}
    {cc : BitVec 4} (h : exec i s = swapUnits (s.passes cc) us rs ud rd s) (hs : us ≠ 6#4) (hd : ud ≠ 6#4)
    (ha : ¬ SwapForbidden us ud) : SwapEffect i s us rs ud rd cc := by
  have hne : us ≠ ud := fun e => ha (.inl e)
  rw [swapUnits, if_neg (mt swapForbidden_iff.1 ha), State.passes] at h
  by_cases hws : ReadWaits s us rs
  · exact ⟨fun _ => by rw [h, readUnit_waits hws]; rfl, fun hn => absurd hws hn⟩
  obtain ⟨v, s1, hread, hv⟩ := readUnit_ok 0 (canRead_of_not_port hs hws)
  rw [hread, Res.bind] at h
  refine ⟨fun hw => ?waits, fun _ hwd => ?exchanges⟩
  case waits =>
    have hwd : ReadWaits s1 ud rd := (hv.readWaits_iff hs hne).2 (hw.resolve_left hws)
    rw [h, readUnit_waits hwd]; rfl
  case exchanges =>
    obtain ⟨w, s2, hread', hw⟩ := readUnit_ok 1 (canRead_of_not_port hd (mt (hv.readWaits_iff hs hne).1 hwd))
    rw [hread', Res.bind] at h
    refine ⟨v, s1, w, s2, hv, hw, fun hc => by rw [h, hc]; rfl, fun hc => ?_⟩
    obtain ⟨s3, hwrite, h3, hm3⟩ := writeUnit_ok (s := advance s2) (n := rd) (v := v) fun e => absurd e hd
    obtain ⟨t, hwrite', ht, hmt⟩ := writeUnit_ok (s := s3) (n := rs) (v := w) fun e => absurd e hs
    have hmem : s2.mem = s.mem := hw.readOnly.mem.trans hv.readOnly.mem
    refine ⟨s3, t, ?_, h3, ht, fun a => by rw [hmt, hm3]; exact congrArg (·.get a) hmem⟩
    rw [h, hc, if_pos rfl, hwrite, Res.bind, hwrite']; rfl

/-- A swap that is forbidden, with a false condition: neither register is read. -/
theorem swapUnits_forbidden_skips {us ud : BitVec 4} (h : SwapForbidden us ud) (rs rd : BitVec 5) (s : State) :
    swapUnits false us rs ud rd s = .next (atNext s) := by
  rw [swapUnits, if_pos (swapForbidden_iff.2 h)]; rfl

/-- A swap that is forbidden: two unspecified writes, each with a draw of its own. -/
theorem swapUnits_forbidden_frees {us ud : BitVec 4} (h : SwapForbidden us ud) (hs : us ≠ 6#4) (hd : ud ≠ 6#4)
    (rs rd : BitVec 5) (s : State) :
    ∃ s1 t, swapUnits true us rs ud rd s = .next t ∧ UnitFree (atNext s) s1 ud rd ∧
      UnitFree (later s1 1) t us rs := by
  obtain ⟨s1, hfree, h1, -⟩ := writeFree_ok (s := advance s) rd 0 hd
  obtain ⟨t, hfree', ht, -⟩ := writeFree_ok (s := s1.fresh) rs 1 hs
  refine ⟨s1, t, ?_, h1, ht⟩
  rw [swapUnits, if_pos (swapForbidden_iff.2 h), if_pos rfl, hfree, Res.bind, hfree']; rfl

end Swaps

section Levels
/-! ## Levels and traps -/

/-- An exception other than OutstandingReads halts the thread if its mode says so, or at interrupt level. -/
theorem raise_of_halts {k : ExcKind} {s : State} (hk : k ≠ .outstandingReads)
    (h : s.th.exModes.mode k = .halt ∨ s.th.istat = true) : raise k s = haltedBy s k := by
  have hhalts : (s.th.exModes.mode k == .halt || s.th.istat) = true := by simpa using h
  unfold Machine.raise
  dsimp only
  rw [if_neg hk, if_pos hhalts]
  rfl

/-- Else it enters the interrupt level. -/
theorem raise_of_handled {k : ExcKind} {s : State} (hk : k ≠ .outstandingReads)
    (hm : s.th.exModes.mode k = .handler) (hl : s.th.istat = false) : raise k s = enteredBy s (some k) := by
  have hhalts : ¬ (s.th.exModes.mode k == .halt || s.th.istat) = true := by rw [hm, hl]; decide
  unfold Machine.raise
  dsimp only
  rw [if_neg hk, if_neg hhalts]
  rfl

theorem encode_switch (v : BitVec 24) : encode (.switch v) = 0xAF000000 + v.toNat := by
  change Sys2Proof.place _ _ = _
  simp only [Laws.place_cons, Laws.place_nil]
  omega

end Levels

section Settled

/-- Settles O7: a code of 1 to 4 makes a multiply an operation like any other, and any other code makes its last act an
unspecified write. -/
theorem multiplies : Obligations.Multiplies := by
  intro s i p
  refine ⟨fun h => ?inUnit, fun h => ?toUnit⟩
  case inUnit =>
    obtain ⟨hsets, he⟩ := h.exec_eq fun _ => s.th.flags
    exact dataEffect_of_no_flags hsets he
  case toUnit =>
    obtain ⟨hsets, hcc, he⟩ := h.exec_eq s
    refine ⟨fun hu => ?named, fun hu => ⟨hcc, freeEffect_of_runMulOut he hu⟩⟩
    case named =>
      rw [runMulOut_named hsets hcc hu fun _ => s.th.flags] at he
      exact dataEffect_of_no_flags hsets he

/-- Settles O19: both forms are one meaning. -/
theorem swaps : Obligations.Swaps := by
  intro s rd rs us ud cc hs hd
  refine ⟨fun ha => ?allowed, fun hf => ?forbidden⟩
  case allowed => exact ⟨swapEffect_of_swapUnits rfl hs hd ha, swapEffect_of_swapUnits rfl hs hd ha⟩
  case forbidden =>
    have hcond : ∀ c, cond s.th.flags cc = c → exec (.swapCc rd rs us ud cc) s = swapUnits c us rs ud rd s := by
      rintro _ rfl; rfl
    refine ⟨swapUnits_forbidden_frees hf hs hd rs rd s, fun hc => ?_, fun hc => ?_⟩
    · rw [hcond _ hc]; exact swapUnits_forbidden_skips hf rs rd s
    · rw [hcond _ hc]; exact swapUnits_forbidden_frees hf hs hd rs rd s

/-- Settles O13: the word by evaluation, and the effect by the meaning of NOP. -/
theorem nopAdvancesPc : Obligations.NopAdvancesPc :=
  ⟨by decide, by decide, fun _ => rfl⟩

/-- Settles O44: both returns ask for an empty read pipeline, and then are their meanings. -/
theorem levelReturns : Obligations.LevelReturns :=
  ⟨by decide, by decide, fun _ => ⟨fun hq => ⟨drained_of_entries _ hq, drained_of_entries _ hq⟩,
    fun hq => ⟨drained_of_empty _ hq, drained_of_empty _ hq⟩⟩⟩

/-- Settles O45, from what an exception does under each mode. -/
theorem switchTraps : Obligations.SwitchTraps := by
  intro v s
  have hk : ExcKind.switchException v ≠ .outstandingReads := nofun
  have hraises : exec (.switch v) s = .next (raise (.switchException v) s) := rfl
  refine ⟨encode_switch v, hraises, fun h => ?halts, fun ⟨hm, hl⟩ => ?handled⟩
  case halts => rw [hraises, raise_of_halts hk h]
  case handled => rw [hraises, raise_of_handled hk hm hl]

end Settled

end Sys2Proof.Claims
end

section
/-! SUPPORT. Loads, stores from the ports unit and issues of one address: what the statements say of an access that is
performed, of one that fails, and of one that waits. -/

namespace Sys2Proof.Claims
open Sys2Proof.Machine

section Performed
/-! ## Accesses that are performed -/

/-- A load of up to 32 bits whose read is performed. -/
theorem loadEnds_of_memRead {i : Instr} {s s1 : State} {p : AccessOp} {v : DWord}
    (he : exec i s = getOne p.size (p.mem.expr s) p.unit p.reg s) (hu : p.unit ≠ 6#4)
    (hr : memRead s 0 (p.mem.addr s) p.size = .ok v s1) (hv : Reads s 0 (p.mem.addr s) p.size v s1) :
    LoadEnds i s p.size p.mem (GetDest p) := by
  obtain ⟨t, ht, hd, hm⟩ := endGet_ok p v (exprUpdate (p.mem.expr s) (advance s1)) hu
  have hend : exec i s = .next t := by rw [he, getOne, AddrForm.exprAddr_expr, hr, Res.bind, ht]; rfl
  refine ⟨v, s1, _, t, hend, hv, exprUpdate_baseStep p.mem s s1, hd, fun a => ?_⟩
  rw [hm, exprUpdate_mem]
  exact hv.bytes a

/-- A 64-bit load whose data is located. -/
theorem loadEnds_of_locate {i : Instr} {s s1 : State} {p : AccessOp} {l : Source × Option Source} (hl : p.size = .l)
    (he : exec i s = getPair (p.mem.expr s) p.unit p.reg s) (hu : p.unit ≠ 6#4)
    (hr : locate s 0 (p.mem.addr s) .l = .ok l s1) (hq : Quiet s1)
    (hv : Reads s 0 (p.mem.addr s) .l (readLocated l .l s1).1 (readLocated l .l s1).2) :
    LoadEnds i s p.size p.mem (GetPairDest p) := by
  have hq' : Quiet (exprUpdate (p.mem.expr s) (advance s1)) := quiet_exprUpdate (s := advance s1) hq _
  obtain ⟨t, ht, hd, hm⟩ := endGetPair_ok p l hu hq'
  rw [readLocated_through (readsThrough_exprUpdate _), readLocated_through readsThrough_advance] at hd hm
  have hend : exec i s = .next t := by rw [he, getPair, AddrForm.exprAddr_expr, hr, Res.bind, ht]; rfl
  rw [hl]
  refine ⟨_, _, _, t, hend, hv, exprUpdate_baseStep p.mem s _, hd, fun a => ?_⟩
  rw [hm, exprUpdate_mem]
  exact hv.bytes a

theorem ReadOnly.accessible {s t : State} {slot : Nat} {a : Word} {sz : Size} (h : ReadOnly s t)
    (ha : Accessible s slot a sz) : Accessible t slot a sz := by rw [h]; exact ha

theorem ReadOnly.faults {s t : State} {slot : Nat} {a : Word} {sz : Size} (h : ReadOnly s t)
    (hf : Faults s slot a sz) : Faults t slot a sz := by rw [h]; exact hf

/-- What a store does once its data is read: the access is performed, or fails, or is misaligned. -/
theorem storeEnds_of_data {i : Instr} {s s1 : State} {sz : Size} {e : AddrForm} {data : Res DWord} {d : DWord}
    (he : exec i s = storeOne sz (e.expr s) data s) (hd : data = .ok d s1) (hr : ReadOnly s s1) :
    StoreEnds i s s1 sz e d := by
  refine ⟨fun hw ha => ?performed, fun hf => ?fails, fun hm => ?misaligned⟩
  case performed =>
    obtain ⟨t, ht, hwr⟩ := memWrite_ok d (hr.mem ▸ hw) (hr.accessible ha)
    refine ⟨t, _, ?_, hwr, exprUpdate_baseStep e s t⟩
    rw [he, storeOne, AddrForm.exprAddr_expr, hd, Res.bind, ht]; rfl
  case fails => rw [he, storeOne, AddrForm.exprAddr_expr, hd, Res.bind, memWrite_fault d (hr.faults hf)]; rfl
  case misaligned => exact storeOne_ends he hd hr hm.1 fun ha => absurd ha hm.not_aligned

theorem rdPop_of_nil {s : State} (h : s.th.rdq = []) : rdPop s = .exc .readPipelineUnderflow := by rw [rdPop, h]

theorem rdPop_of_cons {s : State} {e : DWord} {q : List DWord} (h : s.th.rdq = e :: q) :
    rdPop s = .ok e (s.setRdq q) := by rw [rdPop, h]

theorem portData_underflows {s : State} (hq : s.th.rdq = []) (sz : Size) :
    portData s 16#5 sz = .exc .readPipelineUnderflow := by
  have hpop : portData s 16#5 sz = rdPop s := rfl
  rw [hpop, rdPop_of_nil hq]

/-- An issue of an address that the port accepts. -/
theorem issueEnds_of_raIssue {i : Instr} {s t : State} {p : AccessOp}
    (he : exec i s = issueOne p.size (p.mem.expr s) p.reg s)
    (hr : raIssue s p.reg (p.mem.addr s) p.size = .ok () t) (hi : Issued s t p.reg (p.mem.addr s) p.size)
    (hm : t.mem = s.mem) : IssueEnds i s p := by
  refine ⟨t, _, ?_, hi, exprUpdate_baseStep p.mem s t, fun a => ?_⟩
  · rw [he, issueOne, AddrForm.exprAddr_expr, hr]; rfl
  · rw [exprUpdate_mem]; exact congrArg (·.get a) hm

end Performed

section Settled

/-- Settles O23: an accessible address is read, and the destination is written after the base. -/
theorem loads : Obligations.Loads := by
  refine ⟨fun s i p hf hu ha => ?single, fun s i p hf hu ha => ?pair⟩
  case single =>
    obtain ⟨hl, he⟩ := hf.exec_eq
    obtain ⟨v, s1, hr, hv⟩ := memRead_ok hl ha
    exact loadEnds_of_memRead he hu hr hv
  case pair =>
    obtain ⟨hl, he⟩ := hf.exec_eq
    obtain ⟨l, s1, hr, hs, -, -, hv⟩ := locate_ok (hl ▸ ha)
    exact loadEnds_of_locate hl he hu hr (hs.quiet ha.1) hv

/-- Settles O25: the ports unit underflows or delivers its data, which is then stored. -/
theorem coprocessorToMemory : Obligations.CoprocessorToMemory := by
  intro s i p hf
  refine ⟨fun hrd hq => ?underflow, fun hn => ?stores⟩
  case underflow => rw [hf.exec_eq, storeOne, hrd, portData_underflows hq]; rfl
  case stores =>
    obtain ⟨s1, d, hd, hp⟩ := portData_ok hn p.size
    exact ⟨s1, d, hp, storeEnds_of_data hf.exec_eq hd hp.readOnly⟩

/-- Settles O29, from what an issue does with room, without room, and where its read fails. -/
theorem readIssues : Obligations.ReadIssues := by
  intro s i p hf
  have he := hf.exec_eq
  refine ⟨fun h => ?issues, fun hw => ?waits, fun hp hw h => ?faults⟩
  case issues =>
    obtain ⟨t, ht, hi, hm⟩ := raIssue_ok h
    exact issueEnds_of_raIssue he ht hi hm
  case waits => rw [he, issueOne, raIssue_waits hw]; rfl
  case faults => rw [he, issueOne, AddrForm.exprAddr_expr, raIssue_fault hp hw h]; rfl

end Settled

end Sys2Proof.Claims
end

section
/-! SUPPORT. Transfers between several registers and the read pipeline: everything that one element can do, and the runs
of elements. -/

namespace Sys2Proof.Claims
open Sys2Proof.Machine

section Lists
/-! ## Runs that go by the length of the list -/

/-- How many bits a mask sets does not depend on the first register. -/
theorem length_maskFrom (mask : BitVec 7) (first k : Nat) :
    (maskFrom mask first k).length = (maskFrom mask 0 k).length := by
  induction k with
  | zero => rfl
  | succ k ih => simp only [maskFrom, List.length_append, ih]; split <;> rfl

theorem length_regList (first : BitVec 5) (mask : BitVec 7) :
    (regList 0#5 mask).length = (regList first mask).length := by
  rw [regList, regList, List.length_cons, List.length_cons, length_maskFrom mask first.toNat]; rfl

/-- Elements that do not look at their numbers run alike over lists of one length. -/
theorem runElements_eq_of_length {element : Nat → State → Res Unit} (hel : ∀ m n, element m = element n) (s0 : State)
    {l l' : List Nat} (h : l.length = l'.length) (s : State) :
    runElements s0 element l s = runElements s0 element l' s := by
  induction l generalizing l' s with
  | nil => rw [List.eq_nil_of_length_eq_zero h.symm]
  | cons n l ih =>
    obtain ⟨m, l', rfl⟩ := List.exists_cons_of_length_eq_add_one h.symm
    have hrest : runElements s0 element l = runElements s0 element l' := funext (ih (Nat.succ.inj h))
    rw [runElements, runElements, hel n m, hrest]

theorem OnlyRegs.rdq {s t : State} (h : OnlyRegs s t) : t.th.rdq = s.th.rdq := by
  unfold OnlyRegs at h; rw [h]

theorem MultiOp.loads.rdq {p : MultiOp} {s t : State} {n : Nat} {d : DWord} (h : p.loads s t n d) :
    t.th.rdq = s.th.rdq := by
  unfold MultiOp.loads at h
  split at h
  · exact h.rest.rdq
  · exact h.rest.rdq

theorem Reads.rdq {s t : State} {slot : Nat} {a : Word} {sz : Size} {v : DWord} (h : Reads s slot a sz v t) :
    t.th.rdq = s.th.rdq := by
  obtain ⟨_, _, _, _, _, _, rfl⟩ := h.frame; rfl

end Lists

section Issues
/-! ## Issues of several addresses -/

theorem MMovRaForm.exec_eq {i : Instr} {p : MultiOp} (h : MMovRaForm i p) (s : State) :
    exec i s = runElements s (mmovRaElement p.pair p.first p.base p.rb) p.list s := by
  have hnumbers : ∀ m n, mmovRaElement p.pair p.first p.base p.rb m = mmovRaElement p.pair p.first p.base p.rb n :=
    fun _ _ => rfl
  rw [MultiOp.list, ← runElements_eq_of_length hnumbers s (length_regList p.first p.mask)]
  cases h <;> rfl

theorem Issued.undisturbed {s t : State} {port : BitVec 5} {a : Word} {sz : Size} (h : Issued s t port a sz) :
    Undisturbed s t := by
  unfold Issued at h
  split at h
  · obtain ⟨d, s1, hr, rfl⟩ := h
    exact hr.undisturbed.trans ⟨rfl, rfl, rfl, rfl, rfl, rfl, rfl, rfl⟩
  · rw [h]; exact .refl s

theorem Issued.bytes {s t : State} {port : BitVec 5} {a : Word} {sz : Size} (h : Issued s t port a sz) :
    SameBytes s t := by
  unfold Issued at h
  split at h
  · obtain ⟨d, s1, hr, rfl⟩ := h; exact hr.bytes
  · rw [h]; exact fun _ => rfl

/-- An issue to a read address port appends an entry if the port returns data. -/
theorem Issued.length_rdq {s t : State} {port : BitVec 5} {a : Word} {sz : Size} (h : Issued s t port a sz)
    (hp : isReadPort port = true) :
    t.th.rdq.length = s.th.rdq.length + if portReturns s.cfg port = true then 1 else 0 := by
  rw [Issued, if_pos hp] at h
  obtain ⟨d, s1, hr, rfl⟩ := h
  rw [← hr.rdq]
  dsimp only
  rw [List.length_append]
  split <;> rfl

/-- The pipeline has room for `k` more issues to the port of the instruction. -/
def MultiOp.hasRoom (p : MultiOp) (s : State) (k : Nat) : Prop :=
  isReadPort p.first = true → if portReturns s.cfg p.first = true then s.th.rdq.length + k ≤ Params.rdFifoDepth s.cfg
    else s.th.rdq.length < Params.rdFifoDepth s.cfg

theorem MultiOp.hasRoom.lt {p : MultiOp} {s : State} {k : Nat} (h : p.hasRoom s (k + 1))
    (hp : isReadPort p.first = true) : s.th.rdq.length < Params.rdFifoDepth s.cfg := by
  have hroom := h hp
  split at hroom <;> omega

/-- An element that has issued its address and stepped the base. -/
structure MultiOp.IssuedOne (p : MultiOp) (s s1 t : State) : Prop where
  issued : Issued s s1 p.first (p.addr s) p.size
  base : GprWrite s1 t p.base p.rb (p.addr s + BitVec.ofNat 32 p.size.bytes)

theorem MultiOp.IssuedOne.stepped {p : MultiOp} {s s1 t : State} (h : p.IssuedOne s s1 t) : p.Stepped s t :=
  .of_gprWrite h.issued.undisturbed h.base

theorem MultiOp.IssuedOne.bytes {p : MultiOp} {s s1 t : State} (h : p.IssuedOne s s1 t) : SameBytes s t :=
  h.issued.bytes.trans h.base.bytes

theorem MultiOp.IssuedOne.length_rdq {p : MultiOp} {s s1 t : State} (h : p.IssuedOne s s1 t)
    (hp : isReadPort p.first = true) :
    t.th.rdq.length = s.th.rdq.length + if portReturns s.cfg p.first = true then 1 else 0 := by
  rw [h.base.rest.rdq]; exact h.issued.length_rdq hp

theorem MultiOp.IssuedOne.hasRoom {p : MultiOp} {s s1 t : State} (h : p.IssuedOne s s1 t) {k : Nat}
    (hr : p.hasRoom s (k + 1)) : p.hasRoom t k := by
  intro hp
  have hroom := hr hp
  rw [h.stepped.same.cfg, h.length_rdq hp]
  split at hroom
  · rename_i hret; rw [if_pos hret, if_pos hret]; omega
  · rename_i hret; rw [if_neg hret, if_neg hret]; exact hroom

/-- Everything that an element of MMOV to a port can do when there is room for it. -/
theorem mmovRaElement_cases {p : MultiOp} {s : State} (hq : Quiet s) (n : Nat)
    (hroom : isReadPort p.first = true → s.th.rdq.length < Params.rdFifoDepth s.cfg) :
    (∃ s1 t, mmovRaElement p.pair p.first p.base p.rb n s = .ok () t ∧ p.IssuedOne s s1 t) ∨
    (mmovRaElement p.pair p.first p.base p.rb n s = .exc (.memoryFault (p.addr s) .read) ∧
      isReadPort p.first = true ∧ p.stops s 3) := by
  have he : mmovRaElement p.pair p.first p.base p.rb n s = (raIssue s p.first (p.addr s) p.size).bind fun _ s1 =>
      .ok () (writeReg s1 p.base p.rb (p.addr s + BitVec.ofNat 32 p.size.bytes)) := by
    rw [← p.nextAddr_eq]; rfl
  have hissued : ∀ s1, raIssue s p.first (p.addr s) p.size = .ok () s1 → Issued s s1 p.first (p.addr s) p.size →
      ∃ s1 t, mmovRaElement p.pair p.first p.base p.rb n s = .ok () t ∧ p.IssuedOne s s1 t := fun s1 hr hi =>
    ⟨s1, _, by rw [he, hr]; rfl, hi, writeReg_gprWrite _ _ _ _⟩
  by_cases hp : isReadPort p.first = true
  · rcases raIssue_cases (sz := p.size) (p.addr s) hq hp (hroom hp) with ⟨s1, hr, hi, -⟩ | ⟨hr, hsync, hbad⟩
    · exact .inl (hissued s1 hr hi)
    · exact .inr ⟨by rw [he, hr]; rfl, hp, hsync, hbad⟩
  · obtain ⟨s1, hr, hi, -⟩ := raIssue_ok (a := p.addr s) (sz := p.size) fun h => absurd h hp
    exact .inl (hissued s1 hr hi)

/-- MMOV to a port with room for what is still to come, from the element it has come to. -/
theorem mmovRa_runs {p : MultiOp} (s0 : State) (l : List Nat) {s : State} (hq : Quiet s)
    (hroom : p.hasRoom s l.length) :
    ∃ f t, runElements s0 (mmovRaElement p.pair p.first p.base p.rb) l s = .next t ∧ IssueRun p f l s t ∧
      SameBytes s t ∧ ((isReadPort p.first = true → ∀ k < l.length, p.reaches s 3 k) → f = true) := by
  induction l generalizing s with
  | nil => exact ⟨true, _, rfl, .done, fun _ => rfl, fun _ => rfl⟩
  | cons n l ih =>
    rw [runElements]
    rcases mmovRaElement_cases hq n hroom.lt with ⟨s1, s2, he, hone⟩ | ⟨he, hp, hstop⟩
    · obtain ⟨f, t, ht, hrun, htb, hf⟩ := ih (s := s2.fresh) (hone.stepped.same.quiet hq) (hone.hasRoom hroom)
      refine ⟨f, t, by rw [he]; exact ht, .issue hone.issued hone.base hrun, hone.bytes.trans htb, fun hk => ?_⟩
      exact hf fun hp k hkl => hone.stepped.reaches (hk hp (k + 1) (Nat.succ_lt_succ hkl))
    · rw [he]
      dsimp only
      rw [raiseLast_of_quiet hq]
      exact ⟨false, _, rfl, .fault hp hstop, raise_bytes _ s,
        fun hk => absurd hstop (hk hp 0 (Nat.succ_pos _)).not_stops⟩

/-- The wait of an element for a full pipeline leaves nothing of the instruction but the counter of the free values. -/
theorem mmovRa_waits {p : MultiOp} {s : State} (hw : WriteWaits s 6#4 p.first) (s0 : State) (n : Nat) (l : List Nat) :
    runElements s0 (mmovRaElement p.pair p.first p.base p.rb) (n :: l) s =
      .next (blockOn .pipelineFull { s0 with tick := s.tick }) := by
  have he : mmovRaElement p.pair p.first p.base p.rb n s = .block .pipelineFull := by
    rw [mmovRaElement, raIssue_waits hw]; rfl
  rw [runElements, he]

/-- MMOV to a port that returns data, with more elements to come than there is room for: it waits when the pipeline is
full. -/
theorem mmovRa_fills {p : MultiOp} (hp : isReadPort p.first = true) (s0 : State) {l : List Nat} (hl : l ≠ [])
    {s : State} (hq : Quiet s) (hret : portReturns s.cfg p.first = true)
    (hlen : Params.rdFifoDepth s.cfg < s.th.rdq.length + l.length) (hr : ∀ k < l.length, p.reaches s 3 k) :
    runElements s0 (mmovRaElement p.pair p.first p.base p.rb) l s =
      .next (blockOn .pipelineFull { s0 with tick := s.tick + (Params.rdFifoDepth s.cfg - s.th.rdq.length) }) := by
  induction l generalizing s with
  | nil => exact absurd rfl hl
  | cons n l ih =>
    by_cases hroom : s.th.rdq.length < Params.rdFifoDepth s.cfg
    case neg =>
      have hfull : Params.rdFifoDepth s.cfg ≤ s.th.rdq.length := Nat.le_of_not_lt hroom
      rw [mmovRa_waits ⟨rfl, hp, hfull⟩, Nat.sub_eq_zero_of_le hfull, Nat.add_zero]
    case pos =>
      rcases mmovRaElement_cases hq n fun _ => hroom with ⟨s1, s2, he, hone⟩ | ⟨-, -, hstop⟩
      case inr => exact absurd hstop (hr 0 (Nat.succ_pos _)).not_stops
      case inl =>
        have hcfg : s2.fresh.cfg = s.cfg := hone.stepped.same.cfg
        have htick : s2.fresh.tick = s.tick + 1 := congrArg (· + 1) hone.stepped.same.tick
        have hrdq : s2.fresh.th.rdq.length = s.th.rdq.length + 1 := by
          rw [State.fresh_th, hone.length_rdq hp, if_pos hret]
        rw [List.length_cons] at hlen
        have hmore : l ≠ [] := List.ne_nil_of_length_pos (by omega)
        have hrest := ih hmore (s := s2.fresh) (hone.stepped.same.quiet hq) (hcfg ▸ hret)
          (by rw [hcfg, hrdq]; omega) fun k hk => hone.stepped.reaches (hr (k + 1) (Nat.succ_lt_succ hk))
        have hdrawn : s2.fresh.tick + (Params.rdFifoDepth s2.fresh.cfg - s2.fresh.th.rdq.length) =
            s.tick + (Params.rdFifoDepth s.cfg - s.th.rdq.length) := by
          rw [hcfg, htick, hrdq]; omega
        rw [runElements, he]
        dsimp only
        rw [hrest, hdrawn]

end Issues

section Drains
/-! ## Entries of the pipeline for several registers -/

theorem raiseLast_of_nothing_left {s : State} (h : s.th.todo = []) (k : ExcKind) : raiseLast k s = raise k s := if_pos h

theorem Popped.undisturbed {s t : State} {e : DWord} (h : Popped s t e) : Undisturbed s t := by
  obtain ⟨-, h⟩ := h
  rw [h]
  exact ⟨rfl, rfl, rfl, rfl, rfl, rfl, rfl, rfl⟩

theorem Popped.bytes {s t : State} {e : DWord} (h : Popped s t e) : SameBytes s t := fun a => by rw [h.readOnly.mem]

theorem Popped.length_rdq {s t : State} {e : DWord} (h : Popped s t e) : s.th.rdq.length = t.th.rdq.length + 1 :=
  congrArg List.length h.1

theorem MMovRdForm.exec_eq {i : Instr} {p : MultiOp} (h : MMovRdForm i p) (s : State) :
    exec i s = runElements s (mmovRdElement p.pair p.unit) p.list s := by
  cases h <;> rfl

/-- The registers of element `n` of MMOV from RD are written with the entry `e`, or left unspecified. -/
def MultiOp.delivered (p : MultiOp) (s : State) (n : Nat) (e : DWord) : State :=
  let s1 := writeElement s p.unit (!listable p.unit n) 32 n (lowWord e)
  if p.pair then writeElement s1 p.unit.opp (!listable p.unit n) 96 n (highWord e) else s1

theorem MultiOp.mmovRdElement_eq (p : MultiOp) (n : Nat) (s : State) :
    mmovRdElement p.pair p.unit n s = (rdPop s).bind fun e s1 => .ok () (p.delivered s1 n e) := rfl

/-- What an element of MMOV from RD delivers to its registers: the entry, or free values where the list may not hold the
register. -/
def MultiOp.deliveredData (p : MultiOp) (s : State) (n : Nat) (e : DWord) : DWord :=
  if listable p.unit n then e
  else Config.freeWord s.tick (.dest (96 + n)) ++ Config.freeWord s.tick (.dest (32 + n))

theorem MultiOp.delivered_loads (p : MultiOp) (s : State) {n : Nat} (hn : n < 32) (e : DWord) :
    p.loads s (p.delivered s n e) n (p.deliveredData s n e) := by
  have hlow : writeElement s p.unit (!listable p.unit n) 32 n (lowWord e) =
      writeReg s p.unit (BitVec.ofNat 5 n) (lowWord (p.deliveredData s n e)) := by
    rw [writeElement, if_pos hn, deliveredData]
    cases listable p.unit n
    · simp [lowWord_append]
    · simp
  have hhigh : ∀ t : State, t.tick = s.tick →
      writeElement t p.unit.opp (!listable p.unit n) 96 n (highWord e) =
        writeReg t p.unit.opp (BitVec.ofNat 5 n) (highWord (p.deliveredData s n e)) := by
    intro t ht
    rw [writeElement, if_pos hn, deliveredData, ht]
    cases listable p.unit n
    · simp [highWord_append]
    · simp
  unfold MultiOp.loads MultiOp.delivered
  dsimp only
  rw [hlow]
  split
  · rw [hhigh _ (writeReg_tick ..)]
    exact writePair_pairWrite s p.unit _ _ _
  · rw [← lowWord_eq_setWidth]
    exact writeReg_gprWrite s p.unit _ _

theorem MultiOp.deliveredData_of_listable {p : MultiOp} {n : Nat} (h : if p.unit.isData then n < 16 else n < 8)
    (s : State) (e : DWord) : p.deliveredData s n e = e := if_pos (listable_iff.2 h)

/-- A number above 31 names no register. -/
theorem MultiOp.delivered_beyond (p : MultiOp) (s : State) {n : Nat} (hn : 32 ≤ n) (e : DWord) :
    p.delivered s n e = s := by
  have hw : ∀ t u bad slot v, writeElement t u bad slot n v = t := fun _ _ _ _ _ => if_neg (Nat.not_lt.2 hn)
  rw [MultiOp.delivered, hw, hw, ite_self]

/-- MMOV from RD, from the element it has come to. -/
theorem mmovRd_runs {p : MultiOp} (s0 : State) (l : List Nat) {s : State} (ht : s.th.todo = []) :
    ∃ f t, runElements s0 (mmovRdElement p.pair p.unit) l s = .next t ∧ DrainRun p f l s t ∧ SameBytes s t ∧
      (l.length ≤ s.th.rdq.length → f = true) := by
  induction l generalizing s with
  | nil => exact ⟨true, _, rfl, .done, fun _ => rfl, fun _ => rfl⟩
  | cons n l ih =>
    rw [runElements, p.mmovRdElement_eq]
    cases hq : s.th.rdq with
    | nil =>
      rw [rdPop_of_nil hq, Res.bind]
      dsimp only
      rw [raiseLast_of_nothing_left ht]
      exact ⟨false, _, rfl, .underflow hq, raise_bytes _ s, nofun⟩
    | cons e q =>
      have hpop : Popped s (s.setRdq q) e := setRdq_popped hq
      rw [rdPop_of_cons hq, Res.bind, List.length_cons, List.length_cons]
      dsimp only
      by_cases hn : n < 32
      · have hload := p.delivered_loads (s.setRdq q) hn e
        have htodo : (p.delivered (s.setRdq q) n e).fresh.th.todo = [] := hload.undisturbed.todo.trans ht
        obtain ⟨f, t, hrest, hrun, htb, hf⟩ := ih htodo
        refine ⟨f, t, hrest, .load hpop hload (p.deliveredData_of_listable · _ e) hn hrun,
          hpop.bytes.trans (hload.bytes.trans htb), fun hk => hf ?_⟩
        rw [State.fresh_th, hload.rdq]
        exact Nat.le_of_succ_le_succ hk
      · have hbeyond : 32 ≤ n := Nat.le_of_not_lt hn
        obtain ⟨f, t, hrest, hrun, htb, hf⟩ := ih (s := (s.setRdq q).fresh) ht
        rw [p.delivered_beyond _ hbeyond]
        exact ⟨f, t, hrest, .beyond hpop hbeyond hrun, hpop.bytes.trans htb, fun hk => hf (Nat.le_of_succ_le_succ hk)⟩

/-- `k` entries of the pipeline have been taken and dropped, one after the other. -/
def entriesTaken (s : State) (k : Nat) : State := { later s k with th := { s.th with rdq := s.th.rdq.drop k } }

theorem entriesTaken_succ {s : State} {e : DWord} {q : List DWord} (h : s.th.rdq = e :: q) (k : Nat) :
    entriesTaken (s.setRdq q).fresh k = entriesTaken s (k + 1) := by
  simp only [entriesTaken, later, h, List.drop_succ_cons, State.fresh, State.setRdq, Nat.add_assoc, Nat.add_comm 1 k]

/-- MDRD from the element it has come to: it takes its entries, or all that there are. -/
theorem mdrd_runs (s0 : State) (l : List Nat) {s : State} (ht : s.th.todo = []) :
    runElements s0 (fun _ t => (rdPop t).bind fun _ t1 => .ok () t1) l s =
      .next (if l.length ≤ s.th.rdq.length then atNext (entriesTaken s l.length)
        else raise .readPipelineUnderflow (entriesTaken s s.th.rdq.length)) := by
  induction l generalizing s with
  | nil => rfl
  | cons n l ih =>
    rw [runElements]
    cases hq : s.th.rdq with
    | nil =>
      have hnone : entriesTaken s 0 = s := by simp [entriesTaken, later]
      rw [rdPop_of_nil hq, Res.bind, List.length_cons, List.length_nil, if_neg (Nat.not_succ_le_zero _), hnone]
      dsimp only
      rw [raiseLast_of_nothing_left ht]
    | cons e q =>
      have hrest := ih (s := (s.setRdq q).fresh) ht
      rw [entriesTaken_succ hq, entriesTaken_succ hq] at hrest
      rw [rdPop_of_cons hq, Res.bind, List.length_cons, List.length_cons]
      simp only [Nat.succ_le_succ_iff]
      exact hrest

end Drains

section Settled

/-- Settles O32: with room MMOV runs element by element, and without it waits where the pipeline is full. -/
theorem multipleIssues : Obligations.MultipleIssues := by
  intro s i p hf hq
  rw [hf.exec_eq]
  refine ⟨fun hroom => ?runs, fun hw => ?waits, fun hp hret hlen hr => ?fills⟩
  case runs =>
    refine mmovRa_runs s p.list hq fun hp => ?_
    obtain ⟨hlt, hfits⟩ := hroom hp
    split
    · rename_i hret; exact hfits hret
    · exact hlt
  case waits => exact mmovRa_waits hw s _ _
  case fills => exact mmovRa_fills hp s (List.cons_ne_nil _ _) hq hret hlen hr

/-- Settles O33: both instructions take an entry per element, and underflow where there is none. -/
theorem multipleDrains : Obligations.MultipleDrains := by
  refine ⟨fun s i p hf ht => ?loads, fun s mask ht => ?drops⟩
  case loads => rw [hf.exec_eq]; exact mmovRd_runs s p.list ht
  case drops =>
    have hexec : exec (.mdrd mask) s = _ := mdrd_runs s (regList 0#5 mask) ht
    refine ⟨fun hle => by rw [hexec, if_pos hle]; rfl, fun hlt => ?_⟩
    rw [hexec, if_neg (Nat.not_le_of_lt hlt), entriesTaken, List.drop_length]

end Settled

end Sys2Proof.Claims
end

section
/-! SUPPORT. SET in every form: the data waits, or is read, or is the pair of a unit and its partner, and is then
stored. -/

namespace Sys2Proof.Claims
open Sys2Proof.Machine

section Performed
/-! ## The data of a store -/

theorem setData_waits {s : State} {u : BitVec 4} {n : BitVec 5} (hw : ReadWaits s u n) (sz : Size) (free : Bool) :
    setData s sz u n free = .block .trigger := by rw [setData, readUnit_waits hw]; rfl

/-- A store whose data waits has no effect of its own. -/
theorem storeOne_waits {sz : Size} {e : AddrExpr} {data : Res DWord} {s : State} (hd : data = .block .trigger) :
    storeOne sz e data s = .next (blockOn .trigger s) := by rw [storeOne, hd]; rfl

end Performed

section Settled

/-- Settles O24: the register of a store is waited for or read, that of SETL is read with its partner, and what a
store does with its data is the same in every form. -/
theorem stores : Obligations.Stores := by
  refine ⟨fun s i p unsaid hf hu => ?single, fun s i p unsaid hf => ?pair⟩
  case single =>
    obtain ⟨free, hfree, he⟩ := hf.exec_eq
    refine ⟨fun hwait => he.trans (storeOne_waits (setData_waits hwait p.size free)), fun hwait => ?_⟩
    obtain ⟨v, s1, d, hd, hread, hval⟩ := setData_ok (canRead_of_not_port hu hwait) p.size free
    have hsaid : ¬ unsaid → free = false := fun hn => Bool.eq_false_iff.2 (mt hfree.1 hn)
    exact ⟨v, s1, d, hread, fun hn => hval (hsaid hn), storeEnds_of_data he hd hread.readOnly⟩
  case pair =>
    obtain ⟨hl, free, hfree, he⟩ := hf.exec_eq
    have hsaid : ¬ unsaid → free = false := fun hn => Bool.eq_false_iff.2 (mt hfree.1 hn)
    rw [hl]
    exact ⟨_, fun u hu hn => setPairData_eq hu (hsaid hn), storeEnds_of_data he rfl (.refl s)⟩

end Settled

end Sys2Proof.Claims
end

section
/-! SUPPORT. The extended instructions of the data units: what they compute, as numbers and bit by bit, and their
meanings in the terms of the statements. -/

namespace Sys2Proof.Claims
open Sys2Proof.Machine

section SignedValues
/-! ## ABS, MAX and MIN -/

theorem duAbs_eq (a : Word) : duAbs a = BitVec.ofInt 32 a.toInt.natAbs := by
  rw [duAbs]
  split
  case isTrue hneg =>
    have h : a.toInt < 0 := (neg_iff a).1 hneg
    rw [Int.ofNat_natAbs_of_nonpos h.le, BitVec.ofInt_neg, BitVec.ofInt_toInt, BitVec.zero_sub]
  case isFalse hpos =>
    have h : 0 ≤ a.toInt := not_lt.1 (mt (neg_iff a).2 hpos)
    rw [Int.natAbs_of_nonneg h, BitVec.ofInt_toInt]

theorem toInt_duMax (a b : Word) : (duMax a b).toInt = max a.toInt b.toInt := by
  rw [duMax, apply_ite BitVec.toInt, max_comm, max_def]

theorem toInt_duMin (a b : Word) : (duMin a b).toInt = min a.toInt b.toInt := by
  rw [duMin, apply_ite BitVec.toInt, min_def_lt]

theorem duMax_eq (a b : Word) : duMax a b = BitVec.ofInt 32 (max a.toInt b.toInt) := by
  rw [← toInt_duMax, BitVec.ofInt_toInt]

theorem duMin_eq (a b : Word) : duMin a b = BitVec.ofInt 32 (min a.toInt b.toInt) := by
  rw [← toInt_duMin, BitVec.ofInt_toInt]

end SignedValues

section FirstBit
/-! ## FFB, NORM and NMIN -/

/-- Bit `k` is the most significant one that differs from the sign bit (44_data_unit_extended.md R422). -/
structure FirstDiffers (a : Word) (k : Nat) : Prop where
  lt : k < 31
  differs : a.getLsbD k ≠ a.getLsbD 31
  above : ∀ j < 31, k < j → a.getLsbD j = a.getLsbD 31

theorem getLsbD_nonSignBits (a : Word) {i : Nat} (hi : i < 32) :
    (nonSignBits a).getLsbD i = (a.getLsbD i ^^ a.getLsbD 31) := by
  rw [nonSignBits]
  split
  case isTrue h => rw [BitVec.getLsbD_not, h, decide_eq_true hi, Bool.true_and, Bool.xor_true]
  case isFalse h => rw [Bool.eq_false_iff.2 h, Bool.xor_false]

/-- The bits that differ from the sign bit, as a number: `k` is its highest bit. -/
theorem FirstDiffers.nonSignBits_bounds {a : Word} {k : Nat} (h : FirstDiffers a k) :
    2 ^ k ≤ (nonSignBits a).toNat ∧ (nonSignBits a).toNat < 2 ^ (k + 1) := by
  have hbit : (nonSignBits a).toNat.testBit k = true := by
    rw [BitVec.testBit_toNat, getLsbD_nonSignBits a (h.lt.trans (by decide)), bne_iff_ne]
    exact h.differs
  have habove : ∀ i ≥ k + 1, (nonSignBits a).toNat.testBit i = false := by
    intro i hi
    rw [BitVec.testBit_toNat]
    rcases lt_trichotomy i 31 with hlt | rfl | hgt
    · rw [getLsbD_nonSignBits a (hlt.trans (by decide)), h.above i hlt hi, Bool.xor_self]
    · rw [getLsbD_nonSignBits a (by decide), Bool.xor_self]
    · exact BitVec.getLsbD_of_ge _ _ hgt
  exact ⟨Nat.ge_two_pow_of_testBit hbit, Nat.lt_pow_two_of_testBit _ habove⟩

theorem FirstDiffers.nonSignBits_toNat_ne {a : Word} {k : Nat} (h : FirstDiffers a k) : (nonSignBits a).toNat ≠ 0 :=
  Nat.ne_zero_of_lt (lt_of_lt_of_le (Nat.two_pow_pos k) h.nonSignBits_bounds.1)

theorem FirstDiffers.nonSignBits_ne {a : Word} {k : Nat} (h : FirstDiffers a k) : nonSignBits a ≠ 0#32 :=
  mt (congrArg BitVec.toNat) h.nonSignBits_toNat_ne

theorem FirstDiffers.duFfb_eq {a : Word} {k : Nat} (h : FirstDiffers a k) : duFfb a = BitVec.ofNat 32 k := by
  rw [duFfb, if_neg h.nonSignBits_ne, (Nat.log2_eq_iff h.nonSignBits_toNat_ne).2 h.nonSignBits_bounds]

theorem duFfb_of_no_first {a : Word} (h : a = 0#32 ∨ a = 0xFFFFFFFF#32) : duFfb a = 0xFFFFFFFF#32 := by
  rcases h with rfl | rfl <;> rfl

theorem FirstDiffers.toNat_duFfb {a : Word} {k : Nat} (h : FirstDiffers a k) : (duFfb a).toNat = k := by
  rw [h.duFfb_eq, BitVec.toNat_ofNat, Nat.mod_eq_of_lt (h.lt.trans (by decide))]

theorem FirstDiffers.toNat_duNorm {a : Word} {k : Nat} (h : FirstDiffers a k) (tick : Nat) :
    (duNorm tick a).toNat = 30 - k := by
  have hffb := h.toNat_duFfb
  have hk := h.lt
  rw [duNorm, if_neg h.nonSignBits_ne]
  bv_omega

theorem FirstDiffers.toInt_duNorm {a : Word} {k : Nat} (h : FirstDiffers a k) (tick : Nat) :
    (duNorm tick a).toInt = 30 - k := by
  have hnorm := h.toNat_duNorm tick
  have hk := h.lt
  rw [BitVec.toInt_eq_toNat_of_lt (by omega), hnorm]
  omega

theorem FirstDiffers.toInt_duNmin {a : Word} {k : Nat} (h : FirstDiffers a k) (tick : Nat) (b : Word) :
    (duNmin tick a b).toInt = min (30 - k : Int) b.toInt := by
  rw [duNmin, if_neg h.nonSignBits_ne, toInt_duMin, h.toInt_duNorm]

end FirstBit

section Interleaving
/-! ## MORT -/

/-- Every digit to the base 4 is 0 or 1, so twice the number still has `n` digits. -/
theorem three_mul_spreadBits_lt (a : Word) (n : Nat) : 3 * spreadBits a n < 4 ^ n := by
  induction n with
  | zero => exact Nat.zero_lt_one
  | succ n ih => rw [spreadBits, Nat.pow_succ]; split <;> omega

/-- The low `n` bits of `a` at the even places and those of `b` at the odd ones. -/
def interleaved (a b : Word) (n : Nat) : Nat := spreadBits a n + 2 * spreadBits b n

theorem duMort_eq (a b : Word) : duMort a b = BitVec.ofNat 32 (interleaved a b 16) := rfl

theorem interleaved_lt (a b : Word) (n : Nat) : interleaved a b n < 2 ^ (2 * n) := by
  have ha := three_mul_spreadBits_lt a n
  have hb := three_mul_spreadBits_lt b n
  rw [interleaved, Nat.pow_mul]
  change _ < 4 ^ n
  omega

theorem interleaved_succ (a b : Word) (n : Nat) :
    interleaved a b (n + 1) = 2 ^ (2 * n) * ((a.getLsbD n).toNat + 2 * (b.getLsbD n).toNat) + interleaved a b n := by
  have digit (x : Bool) : (if x then 4 ^ n else 0) = 4 ^ n * x.toNat := by
    cases x
    · exact (Nat.mul_zero _).symm
    · exact (Nat.mul_one _).symm
  rw [interleaved, spreadBits, spreadBits, digit, digit, Nat.pow_mul, interleaved]
  ring

theorem testBit_zero_pair (x y : Bool) : (x.toNat + 2 * y.toNat).testBit 0 = x := by
  cases x <;> cases y <;> rfl

theorem testBit_one_pair (x y : Bool) : (x.toNat + 2 * y.toNat).testBit 1 = y := by
  cases x <;> cases y <;> rfl

theorem testBit_interleaved (a b : Word) {n k : Nat} (hk : k < n) :
    (interleaved a b n).testBit (2 * k) = a.getLsbD k ∧ (interleaved a b n).testBit (2 * k + 1) = b.getLsbD k := by
  induction n with
  | zero => exact absurd hk (Nat.not_lt_zero k)
  | succ n ih =>
    rw [interleaved_succ, Nat.testBit_two_pow_mul_add _ (interleaved_lt a b n),
      Nat.testBit_two_pow_mul_add _ (interleaved_lt a b n)]
    rcases Nat.lt_succ_iff_lt_or_eq.1 hk with hlt | rfl
    · rw [if_pos (by omega), if_pos (by omega)]
      exact ih hlt
    · rw [if_neg (by omega), if_neg (by omega), Nat.sub_self, Nat.add_sub_cancel_left]
      exact ⟨testBit_zero_pair _ _, testBit_one_pair _ _⟩

theorem getLsbD_duMort (a b : Word) {k : Nat} (hk : k < 16) :
    (duMort a b).getLsbD (2 * k) = a.getLsbD k ∧ (duMort a b).getLsbD (2 * k + 1) = b.getLsbD k := by
  have heven : 2 * k < 32 := by omega
  have hodd : 2 * k + 1 < 32 := by omega
  rw [duMort_eq, BitVec.getLsbD_ofNat, BitVec.getLsbD_ofNat, decide_eq_true heven, decide_eq_true hodd]
  exact testBit_interleaved a b hk

end Interleaving

section Meanings
/-! ## The meanings -/

/-- An extended instruction in the terms of its operands: `f` is its result, and the flags compare the first operand
with what `y` gives for the second. -/
def runExt (s : State) (u : BUnit) (rd : BitVec 5) (f : Word → Word → Word) (y : Word → Word) (a o : Opd) : Res Unit :=
  (secondValue s u o).bind fun b s1 =>
    .ok () (endExt u rd (f (firstValue s1 u a) b) (firstValue s1 u a) (y b) s1)

theorem runDataOp_extOp (s : State) (du : Bool) (rd : BitVec 5) (f : Word → Word → Word) (y : Word → Word)
    (flags : Word → Word → Flags → Prop) (a o : Opd) :
    runDataOp s (extOp du rd f flags a o) (fun b => subFlags (firstValue s (dataUnit du) a) (y b)) =
      runExt s (dataUnit du) rd f y a o := by
  refine bind_secondValue_congr fun b q => ?_
  rw [firstValue_rdq]
  exact writeUnit_code _ _ _ _

/-- The statements give the result by `value`, the meaning computes it by `f`. -/
theorem dataEffect_of_runExt {i : Instr} {s : State} {du : Bool} {rd : BitVec 5} {f value : Word → Word → Word}
    {y : Word → Word} {flags : Word → Word → Flags → Prop} {a o : Opd}
    (h : exec i s = finish s (runExt s (dataUnit du) rd f y a o)) (hvalue : ∀ x b, f x b = value x b)
    (hflags : ∀ x b, flags x b (subFlags x (y b))) : DataEffect i s (extOp du rd value flags a o) := by
  obtain rfl : f = value := funext₂ hvalue
  rw [← runDataOp_extOp s du rd f y flags] at h
  exact dataEffect_of_runDataOp _ h fun b _ => hflags _ b

/-- The last act of an extended instruction writes its result, with the flags of the comparison. -/
theorem endExt_gprWrite (u : BUnit) (rd : BitVec 5) (r x y : Word) (s : State) :
    GprWrite { s with th := { s.th with pc := s.th.pc + 4#32, flags := subFlags x y } } (endExt u rd r x y s) u rd r :=
  writeReg_gprWrite _ _ _ _

/-- On a core that has them MORT and VPACK are extended instructions like any other. -/
theorem PackForm.dataEffect {s : State} {i : Instr} {p : DataOp} (h : PackForm i p)
    (hc : s.cfg.hasMortVpack = true) : DataEffect i s p := by
  cases h <;> exact dataEffect_of_runExt (y := id) (if_pos hc) (fun _ _ => rfl) subFlags_ok

/-- On a core without them they are no instructions. -/
theorem PackForm.unknown {s : State} {i : Instr} {p : DataOp} (h : PackForm i p)
    (hc : s.cfg.hasMortVpack = false) :
    exec i s = .next (raise (.unknownInstruction (BitVec.ofNat 32 (encode i))) s) := by
  cases h <;> exact if_neg (Bool.eq_false_iff.1 hc)

end Meanings

section Settled

/-- Settles O8: each form is one meaning, whose result is the number that the statement gives. -/
theorem absMaxMin : Obligations.AbsMaxMin := by
  intro s i p h
  cases h with
  | absRR =>
    exact dataEffect_of_runExt (f := fun x _ => duAbs x) (y := fun _ => 0x80000000#32) rfl (fun x _ => duAbs_eq x)
      fun x _ => subFlags_ok x _
  | maxRR => exact dataEffect_of_runExt (y := id) rfl duMax_eq subFlags_ok
  | minRR => exact dataEffect_of_runExt (y := id) rfl duMin_eq subFlags_ok

/-- Settles O9, by the highest bit of the source exclusive-or its sign. -/
theorem firstBit : Obligations.FirstBit := by
  intro s du rd rs u a
  refine ⟨subFlags a 0#32, subFlags_ok a 0#32, ?ffb, ?norm, fun rs2 => ?nmin⟩
  case ffb =>
    exact ⟨_, _, rfl, endExt_gprWrite u rd (duFfb a) a 0#32 s, duFfb_of_no_first,
      fun _ hk hd habove => (FirstDiffers.mk hk hd habove).toNat_duFfb⟩
  case norm =>
    exact ⟨_, _, rfl, endExt_gprWrite u rd (duNorm s.tick a) a 0#32 s,
      fun _ hk hd habove => (FirstDiffers.mk hk hd habove).toNat_duNorm s.tick⟩
  case nmin =>
    exact ⟨_, _, rfl, endExt_gprWrite u rd (duNmin s.tick a (readReg s u rs2 1)) a 0#32 s,
      fun _ hk hd habove => (FirstDiffers.mk hk hd habove).toInt_duNmin s.tick _⟩

/-- Settles O10: the feature decides between an extended instruction and none, and MORT takes one bit of each operand
in turn. -/
theorem mortAndVpack : Obligations.MortAndVpack :=
  ⟨fun _ _ _ h => ⟨h.dataEffect, h.unknown⟩, fun a b _ hk => getLsbD_duMort a b hk⟩

end Settled

end Sys2Proof.Claims
end

section
/-! SUPPORT. The shifts: the count that the second operand gives, and the meanings in the terms of the statements. -/

namespace Sys2Proof.Claims
open Sys2Proof.Machine

section Counts
/-! ## Shift counts -/

/-- Reading the operand takes nothing from the state, and its low five bits are the count `n` (45_shift.md R441). -/
def CountOf (s : State) (u : BUnit) (o : Opd) (n : Nat) : Prop :=
  ∃ b, secondValue s u o = .ok b s ∧ b.toNat % 32 = n

theorem countOf_reg (s : State) (u : BUnit) (r : BitVec 5) : CountOf s u (.reg r) (countReg s u r) :=
  ⟨_, rfl, (BitVec.toNat_setWidth 5 _).symm⟩

theorem countOf_imm (s : State) (u : BUnit) (imm : BitVec 5) : CountOf s u (.imm (imm.setWidth 32)) imm.toNat :=
  ⟨_, rfl, by rw [BitVec.toNat_setWidth_of_le (by decide), Nat.mod_eq_of_lt imm.isLt]⟩

end Counts

section Shifts
/-! ## The meanings of the shifts -/

/-- The flags of a shift whose first operand is that of `p`. -/
def shiftFlags (s : State) (op : ShiftOp) (p : DataOp) (b : Word) : Flags :=
  op.flags s.tick (firstValue s p.unit p.first) (b.toNat % 32)

/-- A shift as the meanings write it: the flags first, the destination last. -/
theorem runDataOp_shiftOp {s : State} {du : Bool} {o : Opd} {n : Nat} (hn : CountOf s (dataUnit du) o n)
    (op : ShiftOp) (sf : Bool) (ud : BitVec 4) (rd : BitVec 5) (cc : BitVec 4) (rs1 : BitVec 5) :
    runDataOp s (shiftOp op sf du ud rd cc rs1 o) (shiftFlags s op (shiftOp op sf du ud rd cc rs1 o)) =
      if s.passes cc then
        writeUnit (setFlagsIf sf (op.flags s.tick (readReg s (dataUnit du) rs1 0) n) (advance s)) ud rd
          (op.result (readReg s (dataUnit du) rs1 0) n)
      else .ok () (advance s) := by
  obtain ⟨b, hb, rfl⟩ := hn
  have hcount : b.toNat % 32 < 32 := Nat.mod_lt _ (by decide)
  rw [shiftValue_eq op _ _ hcount, setFlagsIf_eq, runDataOp]
  change (secondValue s (dataUnit du) o).bind _ = _
  rw [hb]
  rfl

theorem dataEffect_of_runShift {i : Instr} {s : State} {op : ShiftOp} {sf du : Bool} {ud : BitVec 4} {rd : BitVec 5}
    {cc : BitVec 4} {rs1 : BitVec 5} {o : Opd}
    (h : exec i s = finish s (runDataOp s (shiftOp op sf du ud rd cc rs1 o)
      (shiftFlags s op (shiftOp op sf du ud rd cc rs1 o)))) :
    DataEffect i s (shiftOp op sf du ud rd cc rs1 o) :=
  dataEffect_of_runDataOp _ h fun _ _ => shiftFlags_ok op s.tick _ _ (Nat.mod_lt _ (by decide))

/-- A shift in one unit has this meaning as well, with the condition that always holds. -/
theorem dataEffect_of_shiftCond {i : Instr} {s : State} {op : ShiftOp} {sf du : Bool} {rd : BitVec 5} {cc : BitVec 4}
    {rs1 : BitVec 5} {o : Opd} {n : Nat} (hn : CountOf s (dataUnit du) o n)
    (h : exec i s = shiftCond op sf du rd rs1 n cc s) :
    DataEffect i s (shiftOp op sf du (dataUnit du).code rd cc rs1 o) := by
  refine dataEffect_of_runShift ?_
  rw [runDataOp_shiftOp hn, writeUnit_code, ← apply_ite (Res.ok ())]
  exact h

theorem dataEffect_of_shiftOut {i : Instr} {s : State} {op : ShiftOp} {sf du : Bool} {rd rs1 : BitVec 5}
    {ud : BitVec 4} {o : Opd} {n : Nat} (hn : CountOf s (dataUnit du) o n)
    (h : exec i s = shiftOut op sf du rd rs1 n ud s) :
    DataEffect i s (shiftOp op sf du ud rd 0#4 rs1 o) := by
  refine dataEffect_of_runShift ?_
  rw [runDataOp_shiftOp hn]
  exact h

theorem ShiftForm.dataEffect {i : Instr} {p : DataOp} (h : ShiftForm i p) (s : State) : DataEffect i s p := by
  cases h
  case lslRR | lslCR | lsrRR | lsrCR | aslRR | aslCR | asrRR | asrCR =>
    exact dataEffect_of_shiftCond (countOf_reg _ _ _) rfl
  case lslI5 | lslCI5 | lsrI5 | lsrCI5 | aslI5 | aslCI5 | asrI5 | asrCI5 =>
    exact dataEffect_of_shiftCond (countOf_imm _ _ _) rfl

theorem ShiftUnitForm.dataEffect {i : Instr} {p : DataOp} (h : ShiftUnitForm i p) (s : State) : DataEffect i s p := by
  cases h
  case lslUR | lsrUR | aslUR | asrUR => exact dataEffect_of_shiftOut (countOf_reg _ _ _) rfl
  case lslUI5 | lsrUI5 | aslUI5 | asrUI5 => exact dataEffect_of_shiftOut (countOf_imm _ _ _) rfl

end Shifts

section Settled

/-- Settles O6: every form is one of two meanings, and its count is in a register or in the word. -/
theorem shifts : Obligations.Shifts := fun s _ _ h => h.elim (·.dataEffect s) (·.dataEffect s)

end Settled

end Sys2Proof.Claims
end

section
/-! SUPPORT. KICK and DEFR: the values they return, and what they take from the thread. -/

namespace Sys2Proof.Claims
open Sys2Proof.Machine

section LastWrite
/-! ## A conditional write at the end -/

/-- An instruction whose last act is a write of any unit if its condition holds, from a state in which all its other
effects have happened. -/
theorem ends_of_writeUnitIf {i : Instr} {s s1 : State} {ud cc : BitVec 4} {rd : BitVec 5} {v : Word}
    (h : exec i s = finish s (if s.passes cc then writeUnit s1 ud rd v else .ok () s1)) (hm : s1.mem = s.mem)
    (hc : s1.cfg = s.cfg) :
    (cond s.th.flags cc = false → exec i s = .next s1) ∧
      (cond s.th.flags cc = true → EndsWith i s s1 ud rd v) := by
  rw [State.passes] at h
  refine ⟨fun hf => ?skips, fun ht => ?writes⟩
  case skips => rw [h, hf]; rfl
  case writes => rw [ht] at h; exact endsWith_of_write h rfl rfl hm hc

end LastWrite

section Values
/-! ## The values of KICK and DEFR -/

theorem triggerSource_iff {s : State} {rs : BitVec 5} : triggerSource s rs = true ↔ TriggerSource s rs := by
  simp only [triggerSource, TriggerSource, Bool.or_eq_true, Bool.and_eq_true, beq_iff_eq, or_assoc]

theorem getLsbD_low_append (hi lo : BitVec 16) {b : Nat} (hb : b < 16) : (hi ++ lo).getLsbD b = lo.getLsbD b := by
  rw [BitVec.getLsbD_append, if_pos hb]

/-- The kick trigger, if there is a kick. -/
def kickTriggers (s : State) : BitVec 16 := if s.th.kickCount = 0 then 0#16 else oneTrigger s.cfg.kickBit

theorem ofNat_mul_65536 (n : Nat) : BitVec.ofNat 32 (n * 65536) = (BitVec.ofNat 16 n).setWidth 32 <<< 16 := by
  apply BitVec.eq_of_toNat_eq
  simp [Nat.shiftLeft_eq]
  omega

theorem kickValue_eq {s : State} {rs : BitVec 5} (h : TriggerSource s rs) :
    kickValue s rs = BitVec.ofNat 16 (s.th.kickCount - 1) ++ kickTriggers s := by
  rw [kickValue, if_pos (triggerSource_iff.2 h), append_eq_shiftLeft_or, ofNat_mul_65536, kickTriggers,
    apply_ite (BitVec.setWidth (16 + 16))]
  rfl

theorem getLsbD_kickTriggers (s : State) {b : Nat} (hb : b < 16) :
    (kickTriggers s).getLsbD b = true ↔ s.th.kickCount ≠ 0 ∧ b = s.cfg.kickBit.toNat := by
  rw [kickTriggers]
  split
  case isTrue hk => simp [hk]
  case isFalse hk => rw [oneTrigger_bit _ _ hb, decide_eq_true_iff, and_iff_right hk]

theorem kickValue_ok {s : State} {rs : BitVec 5} (h : TriggerSource s rs) : KickValue s (kickValue s rs) := by
  rw [kickValue_eq h]
  exact ⟨BitVec.extractLsb'_append_eq_left, fun b hb => by rw [getLsbD_low_append _ _ hb, getLsbD_kickTriggers s hb]⟩

theorem TriggerSource.level_eq {s : State} {rs : BitVec 5} (h : TriggerSource s rs) :
    triggerLevel rs = decide (rs = 2#5 ∨ rs = 6#5) := by
  rcases h with rfl | rfl | ⟨rfl | rfl, -⟩ <;> rfl

theorem defrValue_ok {s : State} {rs : BitVec 5} (h : TriggerSource s rs) : DeferredValue s rs (defrValue s rs) := by
  rw [defrValue, if_pos (triggerSource_iff.2 h)]
  refine ⟨?state, fun b hb => ?triggers⟩
  case state =>
    rw [BitVec.extractLsb'_append_eq_left, deferredState, h.level_eq]
    split
    case isTrue hpoll =>
      have hrs : rs = 4#5 ∨ rs = 6#5 := by simpa using (Bool.and_eq_true_iff.1 hpoll).1
      exact .inr ⟨hrs, rfl⟩
    case isFalse => exact .inl rfl
  case triggers => rw [getLsbD_low_append _ _ hb, active_bit s _ b hb, h.level_eq]

end Values

section Takes
/-! ## What KICK and DEFR take -/

theorem setWidth_setWidth_eq_and (w : Word) : (w.setWidth 16).setWidth 32 = w &&& 0xFFFF#32 := by
  apply BitVec.eq_of_toNat_eq
  have hw := w.isLt
  simp only [BitVec.toNat_setWidth, BitVec.toNat_and, BitVec.toNat_ofNat]
  exact (Nat.mod_eq_of_lt (by omega)).trans (Nat.and_two_pow_sub_one_eq_mod _ 16).symm

theorem clearDeferred_advance (s : State) (rs : BitVec 5) :
    clearDeferred (advance s) rs = atNext (deferredRead s rs) := by
  unfold clearDeferred
  split
  case isTrue h =>
    have hrs : rs = 0#5 ∨ rs = 2#5 := by simpa using h
    dsimp only
    rw [setWidth_setWidth_eq_and]
    rcases hrs with rfl | rfl <;> rfl
  case isFalse h =>
    have hrs : rs ≠ 0#5 ∧ rs ≠ 2#5 := by simpa using h
    rw [deferredRead, if_neg hrs.1, if_neg hrs.2]
    rfl

theorem exec_defr (rd rs : BitVec 5) (ud cc : BitVec 4) (s : State) :
    exec (.defr rd rs ud cc) s = finish s (if s.passes cc then
      writeUnit (atNext (deferredRead s rs)) ud rd (defrValue s rs) else .ok () (atNext (deferredRead s rs))) := by
  rw [← clearDeferred_advance]; rfl

/-- The state in which KICK has taken its kick. -/
def kicked (s : State) : State := { s with th := { s.th with kickCount := s.th.kickCount - 1 } }

theorem exec_kick_waits {rs : BitVec 5} {s : State} (h : (rs = 0#5 ∨ rs = 2#5) ∧ s.th.kickCount = 0) (rd : BitVec 5)
    (ud cc : BitVec 4) : exec (.kick rd rs ud cc) s = .next (blockOn .trigger s) :=
  if_pos (by simpa using h)

theorem exec_kick_takes {rs : BitVec 5} {s : State} (h : ¬ ((rs = 0#5 ∨ rs = 2#5) ∧ s.th.kickCount = 0))
    (rd : BitVec 5) (ud cc : BitVec 4) :
    exec (.kick rd rs ud cc) s = finish s (if s.passes cc then
      writeUnit (atNext (kicked s)) ud rd (kickValue s rs) else .ok () (atNext (kicked s))) :=
  if_neg (by simpa using h)

end Takes

section Settled

/-- Settles O21: a kick is there or KICK waits, and its last act is the write of the value. -/
theorem kick : Obligations.Kick := by
  intro s rd rs ud cc
  refine ⟨fun h => exec_kick_waits h rd ud cc, fun h => ?takes⟩
  obtain ⟨hskips, hwrites⟩ := ends_of_writeUnitIf (exec_kick_takes h rd ud cc) rfl rfl
  exact ⟨hskips, fun hc => ⟨_, kickValue_ok, hwrites hc⟩⟩

/-- Settles O22: the value is computed first, then the cell is cleared, and the last act is the write of the value. -/
theorem defr : Obligations.Defr := by
  intro s rd rs ud cc
  obtain ⟨hskips, hwrites⟩ := ends_of_writeUnitIf (exec_defr rd rs ud cc s) rfl rfl
  exact ⟨hskips, fun hc => ⟨_, defrValue_ok, hwrites hc⟩⟩

end Settled

end Sys2Proof.Claims
end

section
/-! SUPPORT. Linked loads of an address that can be accessed. -/

namespace Sys2Proof.Claims
open Sys2Proof.Machine

section Performed

/-- A linked load of an accessible address: `dest` is what holds once the registers of its destinations are written. -/
theorem linkedLoadEnds_of_accessible {i : Instr} {s : State} {sz : Size} {a : Word} {lo hi : Dest}
    {dest : DWord → State → State → Prop} (he : exec i s = linkedLoad sz a lo hi s) (ha : Accessible s 0 a sz)
    (hd : ∀ v t, dest v t ((t.deliverTo lo (lowWord v)).deliverTo hi (highWord v))) :
    LinkedLoadEnds i s sz a dest := by
  obtain ⟨l, s1, hr, hs, hl, -, hv⟩ := locate_ok ha
  have hq : Quiet (advance s1) := hs.quiet ha.1
  have hload := loads_located hq l lo hi hl (readsThrough_setLink a sz) (fun _ h => h)
    fun t d v => setLink_deliverTo t d v a sz
  rw [readLocated_through readsThrough_advance] at hload
  refine ⟨_, _, _, _, ?_, hv, setLink_recorded _ a sz, hd _ _, fun b => ?_⟩
  · rw [he, linkedLoad, hr, Res.bind, hload]; rfl
  · rw [deliverTo_mem, deliverTo_mem]; exact hv.bytes b

end Performed

section Settled

/-- Settles O34: every form is one meaning, with one destination or a pair of them. -/
theorem linkedLoads : Obligations.LinkedLoads := by
  refine ⟨fun s i sz a u rd hf ha => ?single, ?pair⟩
  case single =>
    exact linkedLoadEnds_of_accessible hf.exec_eq.2 ha fun v t =>
      lowWord_eq_setWidth v ▸ writeReg_gprWrite t u rd (lowWord v)
  case pair =>
    intro s rd rb bua bur a ha
    exact linkedLoadEnds_of_accessible (exec_lnkgetl s rd rb bua bur) ha fun v t =>
      writePair_pairWrite t (baseUnit bur) rd rd v

end Settled

end Sys2Proof.Claims
end

section
/-! SUPPORT. The coprocessor ports: reads into registers, writes from registers, and the iterations of the repeating
transfers between a port and memory. -/

namespace Sys2Proof.Claims
open Sys2Proof.Machine

section Ports
/-! ## Reads and writes of a port -/

/-- A write to a port changes nothing but the events. -/
theorem delivered_shape (s : State) (port : BitVec 3) (d : DWord) :
    delivered s port d = { s with emitted := (delivered s port d).emitted } := by
  unfold delivered
  split <;> rfl

theorem delivered_undisturbed (s : State) (port : BitVec 3) (d : DWord) : Undisturbed s (delivered s port d) := by
  rw [delivered_shape]
  exact ⟨rfl, rfl, rfl, rfl, rfl, rfl, rfl, rfl⟩

theorem delivered_rdq (s : State) (port : BitVec 3) (d : DWord) : (delivered s port d).th.rdq = s.th.rdq := by
  rw [delivered_shape]

theorem delivered_mem (s : State) (port : BitVec 3) (d : DWord) : (delivered s port d).mem = s.mem := by
  rw [delivered_shape]

theorem ReadOnly.undisturbed {s t : State} (h : ReadOnly s t) : Undisturbed s t := by
  rw [h]
  exact ⟨rfl, rfl, rfl, rfl, rfl, rfl, rfl, rfl⟩

theorem reservedRead_iff {sz : Size} {ud : BitVec 4} :
    reservedRead sz ud = true ↔ sz ≠ .d ∧ (SpecialUnit ud ∨ ud = 6#4) := by
  simp only [reservedRead, controlUnit, SpecialUnit, Bool.and_eq_true, bne_iff_ne, Bool.or_eq_true, beq_iff_eq,
    or_assoc]

theorem CprUnitForm.exec_eq {i : Instr} {sz : Size} {cp : BitVec 3} {ud cc : BitVec 4} {rd : BitVec 5}
    (h : CprUnitForm i sz cp ud rd cc) (s : State) : exec i s = cprUnit sz i rd cp ud cc s := by
  cases h <;> rfl

theorem cprUnit_reserved {sz : Size} {ud : BitVec 4} (h : sz ≠ .d ∧ (SpecialUnit ud ∨ ud = 6#4)) (i : Instr)
    (rd : BitVec 5) (cp : BitVec 3) (cc : BitVec 4) (s : State) :
    cprUnit sz i rd cp ud cc s = .next (raise (.unknownInstruction (BitVec.ofNat 32 (encode i))) s) :=
  if_pos (reservedRead_iff.2 h)

theorem cprUnit_reads {sz : Size} {ud : BitVec 4} (h : ¬ (sz ≠ .d ∧ (SpecialUnit ud ∨ ud = 6#4))) (i : Instr)
    (rd : BitVec 5) (cp : BitVec 3) (cc : BitVec 4) (s : State) :
    cprUnit sz i rd cp ud cc s = finish s (if s.passes cc then
      writeUnit (atNext (cpRead s cp sz).2) ud rd (lowWord (cpRead s cp sz).1)
      else .ok () (atNext (cpRead s cp sz).2)) :=
  if_neg (mt reservedRead_iff.1 h)

theorem exec_cprlPair (rd1 : BitVec 5) (cp : BitVec 3) (rd2 : BitVec 5) (bu : BitVec 2) (cc : BitVec 4) (s : State) :
    exec (.cprlPair rd1 cp rd2 bu cc) s = .next (if cond s.th.flags cc then
      writePair (atNext (cpRead s cp .l).2) (baseUnit bu) rd1 rd2 (cpRead s cp .l).1
      else atNext (cpRead s cp .l).2) := rfl

end Ports

section Iterations
/-! ## Iterations -/

theorem Undisturbed.accessible {s t : State} (h : Undisturbed s t) {slot : Nat} {a : Word} {sz : Size}
    (ha : Accessible s slot a sz) : Accessible t slot a sz :=
  ha.congr h.mid h.todo h.xlatOlds h.xlat h.tick h.tid h.cfg

theorem Undisturbed.faults {s t : State} (h : Undisturbed s t) {slot : Nat} {a : Word} {sz : Size}
    (hf : Faults s slot a sz) : Faults t slot a sz :=
  hf.congr h.mid h.todo h.xlatOlds h.xlat h.tick h.tid h.cfg

theorem exprUpdate_baseOnly (e : AddrForm) (s t : State) :
    BaseOnly t (exprUpdate (e.expr s) t) e (e.base s + e.offset) := by
  unfold BaseOnly exprUpdate AddrForm.expr
  dsimp only
  split
  · exact writeReg_gprWrite t _ _ _
  · rfl

theorem exprUpdate_undisturbed (e : AddrExpr) (t : State) : Undisturbed t (exprUpdate e t) := by
  unfold exprUpdate
  split
  · exact (writeReg_gprWrite t _ _ _).undisturbed
  · exact .refl t

theorem exprUpdate_rdq (e : AddrExpr) (t : State) : (exprUpdate e t).th.rdq = t.th.rdq := by
  unfold exprUpdate
  split
  · exact writeReg_th_rdq t _ _ _
  · rfl

/-- One iteration of CPRR is performed. -/
def CprRepDone (i : Instr) (s : State) (sz : Size) (cp : BitVec 3) (e : AddrForm) : Prop :=
  ∃ s0 d s1 s2, BaseOnly s s0 e (e.base s + e.offset) ∧ CoproRead s0 s1 cp sz d ∧ Writes s1 1 (e.addr s) d sz s2 ∧
    exec i s = .next (repeated s2)

/-- CPRR before its store: the base is updated and the port is read. -/
theorem CprRepForm.exec_eq {s : State} {i : Instr} {sz : Size} {cp : BitVec 3} {e : AddrForm}
    (h : CprRepForm s i sz cp e) :
    ∃ s0 d s1, BaseOnly s s0 e (e.base s + e.offset) ∧ CoproRead s0 s1 cp sz d ∧ Undisturbed s s1 ∧ s1.mem = s.mem ∧
      exec i s = finish s ((memWrite s1 1 (e.addr s) sz d).bind fun _ s2 => .ok () (repeated s2)) := by
  have hread := cpRead_coproRead (exprUpdate (e.expr s) s) cp sz
  refine ⟨_, _, _, exprUpdate_baseOnly e s s, hread, ?same, ?mem, ?exec⟩
  case same => exact (exprUpdate_undisturbed _ s).trans hread.readOnly.undisturbed
  case mem => exact hread.readOnly.mem.trans (exprUpdate_mem _ s)
  case exec => cases h <;> rfl

/-- CPWL from memory, with its address expression read before the entry is taken. -/
theorem CpwlMemForm.exec_eq {s : State} {i : Instr} {cp : BitVec 3} {rep : Bool} {e : AddrForm}
    (h : CpwlMemForm s i cp rep e) : exec i s = cpwlMem rep cp (e.expr s) s := by
  cases h with
  | cpwlMemR => rfl
  | @cpwlMemI8 bu cp rb imm rep ua pp =>
    have hoff : imm.signExtend 32 * BitVec.ofNat 32 s.cfg.cpwlS8Scale =
        BitVec.ofInt 32 (imm.toInt * s.cfg.cpwlS8Scale) := by
      rw [BitVec.signExtend, BitVec.ofInt_mul, BitVec.ofInt_natCast]
    change cpwlMem rep cp (exprI s (baseUnit bu) rb _ ua pp) s = _
    rw [hoff]
    rfl

theorem rdPop_of_popped {s s1 : State} {d : DWord} (h : Popped s s1 d) : rdPop s = .ok d s1 := by
  obtain ⟨hq, hs⟩ := h
  rw [rdPop_of_cons hq, hs]
  rfl

/-- CPWL from memory before its issue: the entry `d` is taken and delivered, and the base is updated. -/
def cpwlReady (s s1 : State) (cp : BitVec 3) (e : AddrForm) (d : DWord) : State :=
  delivered (exprUpdate (e.expr s) s1) cp d

theorem cpwlReady_undisturbed (s s1 : State) (cp : BitVec 3) (e : AddrForm) (d : DWord) :
    Undisturbed s1 (cpwlReady s s1 cp e d) :=
  (exprUpdate_undisturbed _ s1).trans (delivered_undisturbed _ _ _)

theorem cpwlReady_rdq (s s1 : State) (cp : BitVec 3) (e : AddrForm) (d : DWord) :
    (cpwlReady s s1 cp e d).th.rdq = s1.th.rdq := (delivered_rdq _ _ _).trans (exprUpdate_rdq _ s1)

theorem cpwlReady_mem (s s1 : State) (cp : BitVec 3) (e : AddrForm) (d : DWord) :
    (cpwlReady s s1 cp e d).mem = s1.mem := (delivered_mem _ _ _).trans (exprUpdate_mem _ s1)

/-- CPWL from memory, with an entry to deliver: what is left is the issue. -/
theorem CpwlMemForm.exec_popped {s s1 : State} {i : Instr} {cp : BitVec 3} {rep : Bool} {e : AddrForm} {d : DWord}
    (h : CpwlMemForm s i cp rep e) (hp : Popped s s1 d) :
    exec i s = finish s ((raIssue (cpwlReady s s1 cp e d) 16#5 (e.addr s) .l).bind fun _ s3 =>
      .ok () (if rep then repeated s3 else atNext s3)) := by
  rw [h.exec_eq, cpwlMem, rdPop_of_popped hp]
  rfl

/-- One issue of CPWL from memory is performed, from the state without the entry it delivers. -/
def CpwlMemDone (i : Instr) (s s1 : State) (cp : BitVec 3) (rep : Bool) (e : AddrForm) (d : DWord) : Prop :=
  ∃ s2 s3, BaseOnly s1 s2 e (e.base s + e.offset) ∧ Issued (delivered s2 cp d) s3 16#5 (e.addr s) .l ∧
    exec i s = .next (if rep then repeated s3 else atNext s3) ∧ SameBytes s s3

theorem CpwlMemForm.done {s s1 s3 : State} {i : Instr} {cp : BitVec 3} {rep : Bool} {e : AddrForm} {d : DWord}
    (h : CpwlMemForm s i cp rep e) (hp : Popped s s1 d)
    (hr : raIssue (cpwlReady s s1 cp e d) 16#5 (e.addr s) .l = .ok () s3)
    (hi : Issued (cpwlReady s s1 cp e d) s3 16#5 (e.addr s) .l) : CpwlMemDone i s s1 cp rep e d := by
  refine ⟨_, s3, exprUpdate_baseOnly e s s1, hi, by rw [h.exec_popped hp, hr]; rfl, hp.bytes.trans ?_⟩
  exact fun a => (hi.bytes a).trans (congrArg (·.get a) (cpwlReady_mem s s1 cp e d))

end Iterations

section Settled

/-- Settles O36: the port is read first, and the last act is the write of the register or of the pair. -/
theorem coprocessorReads : Obligations.CoprocessorReads := by
  refine ⟨fun s i sz cp ud rd cc hf => ⟨fun h => ?reserved, fun h => ?register⟩, fun s rd1 cp rd2 bu cc => ?pair⟩
  case reserved => rw [hf.exec_eq, cprUnit_reserved h]
  case register =>
    have hread := cpRead_coproRead s cp sz
    exact ⟨_, _, hread, ends_of_writeUnitIf ((hf.exec_eq s).trans (cprUnit_reads h i rd cp cc s)) hread.readOnly.mem
      hread.readOnly.cfg⟩
  case pair =>
    have he := exec_cprlPair rd1 cp rd2 bu cc s
    refine ⟨_, _, cpRead_coproRead s cp .l, fun hc => ?skips, fun hc => ⟨_, ?writes, writePair_pairWrite _ _ _ _ _⟩⟩
    case skips => rw [he, hc]; rfl
    case writes => rw [he, hc]; rfl

/-- Settles O37: what is left of an iteration after the read of the port is a store, which is performed, fails, or is
misaligned. -/
theorem coprocessorReadRepeat : Obligations.CoprocessorReadRepeat := by
  intro s i sz cp e hf
  obtain ⟨s0, d, s1, hb, hr, hsame, hmem, he⟩ := hf.exec_eq
  have hdone : ∀ t, memWrite s1 1 (e.addr s) sz d = .ok () t → Writes s1 1 (e.addr s) d sz t →
      CprRepDone i s sz cp e := fun t ht hw => ⟨s0, d, s1, t, hb, hr, hw, by rw [he, ht]; rfl⟩
  refine ⟨fun hw ha => ?performed, fun h => ?fails, fun hm => ?misaligned⟩
  case performed =>
    obtain ⟨t, ht, hwr⟩ := memWrite_ok d (hmem ▸ hw) (hsame.accessible ha)
    exact hdone t ht hwr
  case fails => rw [he, memWrite_fault d (hsame.faults h)]; rfl
  case misaligned =>
    rcases memWrite_misaligned d (hsame.quiet hm.1) 1 hm.2 with ⟨t, ht, hwr⟩ | ⟨ht, hs⟩
    · exact .inr (hdone t ht hwr)
    · exact .inl ⟨hsame.cfg ▸ hs, by rw [he, ht]; rfl⟩

/-- Settles O38: each form is one write to a port, and the repeat of CPXL ends one iteration, both as the statement
says. -/
theorem coprocessorWrites : Obligations.CoprocessorWrites := by
  refine ⟨fun s bu cp rs1 rs2 => rfl, fun s bu cp rs1 imm => rfl, fun s cpd cps rep => ?exchange⟩
  exact ⟨_, _, cpRead_coproRead s cps .l, rfl⟩

/-- Settles O39: once an entry is taken there is room for the next, and what is left is an issue, which is performed,
fails, or is misaligned. -/
theorem coprocessorWriteFromMemory : Obligations.CoprocessorWriteFromMemory := by
  intro s i cp rep e hf
  refine ⟨fun hq => ?underflow, fun d s1 hp hfits => ?issue⟩
  case underflow => rw [hf.exec_eq, cpwlMem, rdPop_of_nil hq]; rfl
  case issue =>
    have hsame : Undisturbed s (cpwlReady s s1 cp e d) := hp.undisturbed.trans (cpwlReady_undisturbed ..)
    have hroom : (cpwlReady s s1 cp e d).th.rdq.length < Params.rdFifoDepth (cpwlReady s s1 cp e d).cfg := by
      rw [hsame.cfg, cpwlReady_rdq]
      exact Nat.lt_of_lt_of_le (hp.length_rdq ▸ Nat.lt_succ_self _) hfits
    have he := hf.exec_popped hp
    refine ⟨fun ha => ?performed, fun h => ?fails, fun hm => ?misaligned⟩
    case performed =>
      obtain ⟨s3, hr, hi, -⟩ := raIssue_ok (port := 16#5) fun _ => ⟨hroom, hsame.accessible ha⟩
      exact hf.done hp hr hi
    case fails =>
      have hwait : ¬ WriteWaits (cpwlReady s s1 cp e d) 6#4 16#5 := fun hw => absurd hroom (Nat.not_lt.2 hw.2.2)
      rw [he, raIssue_fault rfl hwait (hsame.faults h)]; rfl
    case misaligned =>
      rcases raIssue_cases (port := 16#5) (sz := .l) (e.addr s) (hsame.quiet hm.1) rfl hroom with
        ⟨s3, hr, hi, -⟩ | ⟨hr, hs, -⟩
      · exact .inr (hf.done hp hr hi)
      · exact .inl ⟨hsame.cfg ▸ hs, by rw [he, hr]; rfl⟩

end Settled

end Sys2Proof.Claims
end

section
/-! SUPPORT. Sign extensions and exchanges of bytes: what they compute, and the pair that BEXL writes. -/

namespace Sys2Proof.Claims
open Sys2Proof.Machine

section Exchanges
/-! ## Results -/

theorem duBex_eq (x : Word) : duBex x = bytesReversed x := by
  apply BitVec.eq_of_getLsbD_eq
  intro i hi
  have hmask : (0xFF00#32).getLsbD i = decide (8 ≤ i ∧ i < 16) := by revert i; decide
  have hmask' : (0xFF00#32).getLsbD (i - 8) = decide (16 ≤ i ∧ i < 24) := by revert i; decide
  simp only [duBex, bytesReversed, BitVec.getLsbD_append, BitVec.getLsbD_extractLsb', BitVec.getLsbD_or,
    BitVec.getLsbD_and, BitVec.getLsbD_shiftLeft, BitVec.getLsbD_ushiftRight, hmask, hmask']
  grind

theorem duRtdw_eq (x : Word) : duRtdw x = (x <<< 16) ||| (x >>> 16) := by
  apply BitVec.eq_of_getLsbD_eq
  intro i hi
  simp only [duRtdw, BitVec.getLsbD_append, BitVec.getLsbD_extractLsb', BitVec.getLsbD_or, BitVec.getLsbD_shiftLeft,
    BitVec.getLsbD_ushiftRight]
  grind

end Exchanges

section Meanings
/-! ## The meanings -/

/-- An instruction with one source and one result in a data unit: the statements give the result by `value`, the
meaning computes it by `f`. -/
theorem dataEffect_of_shuffle {i : Instr} {s : State} {sf du : Bool} {rd rs : BitVec 5} {f value : Word → Word}
    (h : exec i s = shuffle f sf du rd rs s) (hvalue : ∀ x, f x = value x) :
    DataEffect i s (shuffleOp sf du rd rs value) := by
  obtain rfl : f = value := funext hvalue
  refine dataEffect_of_runDataOp (fun _ => logicFlags s.tick (f (readReg s (dataUnit du) rs 0))) ?run
    fun _ _ => logicFlags_ok _ _
  rw [h, shuffle, setFlagsIf_eq]
  exact congrArg (finish s) (writeUnit_code _ _ _ _).symm

theorem BUnit.opp_opp (u : BUnit) : u.opp.opp = u := by cases u <;> rfl

theorem extractLsb'_low_append (hi lo : Word) : (hi ++ lo).extractLsb' 0 32 = lo := lowWord_append hi lo

theorem extractLsb'_high_append (hi lo : Word) : (hi ++ lo).extractLsb' 32 32 = hi := highWord_append hi lo

/-- A pair may be named from either of its units. -/
theorem PairWrite.opp {s t : State} {u : BUnit} {n1 n2 : BitVec 5} {hi lo : Word}
    (h : PairWrite s t u.opp n1 n2 (hi ++ lo)) : PairWrite s t u n2 n1 (lo ++ hi) where
  low hp k := by
    rw [extractLsb'_low_append, ← extractLsb'_high_append hi lo]
    exact BUnit.opp_opp u ▸ h.high (by rwa [BUnit.opp_opp]) k
  high hp k := by rw [extractLsb'_high_append, ← extractLsb'_low_append hi lo]; exact h.low hp k
  others := by
    have ho := h.others
    rw [BUnit.opp_opp] at ho
    exact fun v n k hp hn => ho v n k hp (mt (List.Perm.mem_iff (List.Perm.swap _ _ [])).1 hn)
  pc := h.pc
  flags := h.flags
  rest := h.rest
  bytes := h.bytes

theorem exec_bexl (rd rs : BitVec 5) (sf du : Bool) (s : State) :
    exec (.bexl rd rs sf du) s = .next (writePair
      (setFlagsIf sf (logicFlags s.tick (duBex (readReg s (dataUnit du).opp rs 1))) (advance s)) (dataUnit du).opp rd rd
      (duBex (readReg s (dataUnit du) rs 0) ++ duBex (readReg s (dataUnit du).opp rs 1))) := by
  rw [writePair, lowWord_append, highWord_append, BUnit.opp_opp]
  rfl

end Meanings

section Settled

/-- Settles O11: each form is one meaning, and BEXL writes the pair from its partner unit on. -/
theorem extendAndExchange : Obligations.ExtendAndExchange := by
  refine ⟨fun s i p h => ?single, ?pair⟩
  case single =>
    cases h with
    | xsdb => exact dataEffect_of_shuffle rfl fun _ => rfl
    | xsdw => exact dataEffect_of_shuffle rfl fun _ => rfl
    | bexd => exact dataEffect_of_shuffle rfl duBex_eq
    | rtdw => exact dataEffect_of_shuffle rfl duRtdw_eq
  case pair =>
    intro s rd rs sf du u a b
    refine ⟨if sf then logicFlags s.tick b else s.th.flags, _, exec_bexl rd rs sf du s, ?flags, ?writes⟩
    case flags =>
      cases sf
      · rfl
      · exact logicFlags_ok _ _
    case writes =>
      rw [setFlagsIf_eq, duBex_eq, duBex_eq]
      exact (writePair_pairWrite _ _ _ _ _).opp

end Settled

end Sys2Proof.Claims
end

section
/-! SUPPORT. Moves of immediates, and the transfers of RD to a register or to a pair. -/

namespace Sys2Proof.Claims
open Sys2Proof.Machine

section Moves
/-! ## RD as a source -/

theorem toNat_trunc (sz : Size) (e : DWord) : (Size.trunc sz e).toNat = e.toNat % 2 ^ (8 * sz.bytes) := by
  have he := e.isLt
  cases sz <;> simp only [Size.trunc, Size.bytes, BitVec.toNat_setWidth] <;> omega

theorem lowWord_trunc (sz : Size) (e : DWord) :
    lowWord (Size.trunc sz e) = BitVec.ofNat 32 (e.toNat % 2 ^ (8 * min sz.bytes 4)) := by
  apply BitVec.eq_of_toNat_eq
  rw [lowWord_eq_setWidth, BitVec.toNat_setWidth, toNat_trunc, BitVec.toNat_ofNat]
  cases sz
  case b | w | d => rfl
  case l => exact (Nat.mod_mod_of_dvd _ (by decide)).trans (Nat.mod_mod _ _).symm

theorem MovRdForm.exec_eq {i : Instr} {sz : Size} {ud cc : BitVec 4} {rd : BitVec 5} (h : MovRdForm i sz ud rd cc)
    (s : State) : exec i s = moveRd sz ud rd cc s := by
  cases h <;> rfl

/-- A transfer of RD to any register. -/
theorem rdEffect_of_moveRd {i : Instr} {s : State} {sz : Size} {ud cc : BitVec 4} {rd : BitVec 5}
    (h : exec i s = moveRd sz ud rd cc s) : RdEffect i s sz ud rd cc := by
  refine ⟨fun hq => ?underflow, fun e s1 hp => ?moves⟩
  case underflow => rw [h, moveRd, rdPop_of_nil hq]; rfl
  case moves =>
    rw [moveRd, rdPop_of_popped hp, Res.bind, lowWord_trunc] at h
    exact ends_of_writeUnitIf (s1 := atNext s1) h hp.readOnly.mem hp.readOnly.cfg

/-- A transfer of RD to a pair, with an entry to take. -/
theorem exec_movlRd {s s1 : State} {e : DWord} (h : Popped s s1 e) (rd1 rd2 : BitVec 5) (bu : BitVec 2)
    (cc : BitVec 4) : exec (.movlRd rd1 rd2 bu cc) s = .next (if cond s.th.flags cc then
      writePair (atNext s1) (baseUnit bu) rd1 rd2 e else atNext s1) := by
  change execMovlRd rd1 rd2 bu cc s = _
  rw [execMovlRd, rdPop_of_popped h]
  rfl

theorem exec_movlRd_underflows {s : State} (h : s.th.rdq = []) (rd1 rd2 : BitVec 5) (bu : BitVec 2)
    (cc : BitVec 4) : exec (.movlRd rd1 rd2 bu cc) s = .next (raise .readPipelineUnderflow s) := by
  change execMovlRd rd1 rd2 bu cc s = _
  rw [execMovlRd, rdPop_of_nil h]
  rfl

end Moves

section Settled

/-- Settles O17: both forms are one write, from the state at the next instruction. -/
theorem movesOfImmediates : Obligations.MovesOfImmediates := fun s rd imm se h =>
  ⟨⟨_, rfl, writeCt_ctWrite (advance s) rd (imm16 s imm se h)⟩,
    ⟨_, rfl, writeTt_ttWrite (advance s) rd (imm16 s imm se h)⟩⟩

/-- Settles O20: the entry is taken first, and what is left is a write of a register or of a pair. -/
theorem pipelineToRegister : Obligations.PipelineToRegister := by
  refine ⟨fun s i sz ud rd cc hf => rdEffect_of_moveRd (hf.exec_eq s), fun s rd1 rd2 bu cc => ?pair⟩
  refine ⟨fun hq => exec_movlRd_underflows hq rd1 rd2 bu cc, fun e s1 hp => ⟨fun hc => ?skips, fun hc => ?writes⟩⟩
  case skips => rw [exec_movlRd hp, hc]; rfl
  case writes => exact ⟨_, by rw [exec_movlRd hp, hc]; rfl, writePair_pairWrite _ _ _ _ _⟩

end Settled

end Sys2Proof.Claims
end

section
/-! SUPPORT. The conditional stores: the data waits, underflows, or is read, and is then stored if the condition
holds. -/

namespace Sys2Proof.Claims
open Sys2Proof.Machine

section Performed
/-! ## The store of data that has been read -/

theorem storeIf_waits {c : Bool} {sz : Size} {a : Word} {data : Res DWord} {s : State}
    (hd : data = .block .trigger) : storeIf c sz a data s = .next (blockOn .trigger s) := by rw [storeIf, hd]; rfl

theorem storeIf_underflows {c : Bool} {sz : Size} {a : Word} {data : Res DWord} {s : State}
    (hd : data = .exc .readPipelineUnderflow) :
    storeIf c sz a data s = .next (raise .readPipelineUnderflow s) := by rw [storeIf, hd]; rfl

/-- What a conditional store does once its data is read: nothing more, or an access that is performed, fails, or is
misaligned. -/
theorem ccStoreEnds_of_data {i : Instr} {s s1 : State} {p : CcStoreOp} {data : Res DWord} {d : DWord}
    (he : exec i s = storeIf (s.passes p.cc) p.size (readReg s p.baseUnit p.rb 2) data s) (hd : data = .ok d s1)
    (hr : ReadOnly s s1) : CcStoreEnds i s s1 p d := by
  have hdata := he
  rw [storeIf, hd, Res.bind, State.passes] at hdata
  refine ⟨fun hc => ?skips, fun hc => ⟨fun hw ha => ?performed, fun hf => ?fails, fun hm => ?misaligned⟩⟩
  case skips => rw [hdata, hc]; rfl
  case performed =>
    obtain ⟨t, ht, hwr⟩ := memWrite_ok d (hr.mem ▸ hw) (hr.accessible ha)
    exact ⟨t, by rw [hdata, if_pos hc, ht]; rfl, hwr⟩
  case fails => rw [hdata, if_pos hc, memWrite_fault d (hr.faults hf)]; rfl
  case misaligned => exact storeIf_ends he hd hr hc hm.1 fun ha => absurd ha hm.not_aligned

end Performed

section Settled

/-- Settles O26: a reserved form is unknown, the others wait, underflow, or read their data, and what a conditional
store does with its data is the same in every form. -/
theorem conditionalStores : Obligations.ConditionalStores := by
  refine ⟨fun s i p hf hu => ⟨fun hs => ?reserved, fun hs => ⟨fun hwait => ?waits, fun hwait => ?register⟩⟩,
    fun s rs rb us bu cc => ?pair, fun s i p hf => ⟨fun hrd hq => ?underflow, fun hn => ?port⟩⟩
  case reserved => rw [hf.exec_eq, if_pos (wideOnly_iff.2 hs)]; rfl
  case waits =>
    rw [hf.exec_eq, if_neg (mt wideOnly_iff.1 hs)]
    exact storeIf_waits (setData_waits hwait p.size false)
  case register =>
    have he := (hf.exec_eq s).trans (if_neg (mt wideOnly_iff.1 hs))
    obtain ⟨v, s1, d, hd, hread, hval⟩ := setData_ok (canRead_of_not_port hu hwait) p.size false
    exact ⟨v, s1, hread, hval rfl hs ▸ ccStoreEnds_of_data he hd hread.readOnly⟩
  case pair =>
    exact ⟨_, fun u hu => setPairData_eq hu rfl, ccStoreEnds_of_data (exec_setlCc s rs rb us bu cc) rfl (.refl s)⟩
  case underflow =>
    rw [hf.exec_eq]
    exact storeIf_underflows (by rw [hrd]; exact portData_underflows hq p.size)
  case port =>
    obtain ⟨s1, d, hd, hp⟩ := portData_ok hn p.size
    exact ⟨s1, d, hp, ccStoreEnds_of_data (hf.exec_eq s) hd hp.readOnly⟩

end Settled

end Sys2Proof.Claims
end

section
/-! SUPPORT. Writes to memory, whatever form the memory is in: when one happens, and what its accesses leave as it was. -/

namespace Sys2Proof.Claims
open Sys2Proof.Machine

section Located
/-! ## The accesses of a write -/

/-- The access writes memory or a device. -/
def IsStore : Todo → Prop
  | .store _ _ _ => True
  | .storeFree _ _ => True
  | .storeDevice _ _ _ _ _ _ => True
  | _ => False

/-- A write that does not fail is one or two stores, and locating them changes nothing. -/
theorem locateWrite_of_not_fails {s : State} {slot : Nat} {a : Word} {sz : Size} (h : accessFails s slot a sz = false)
    (v : DWord) : ∃ e l, locateWrite s slot a sz v = .ok (e :: l) s ∧ ∀ x ∈ e :: l, IsStore x := by
  obtain ⟨htarget, hfree⟩ := Bool.or_eq_false_iff.1 h
  obtain ⟨x, hx⟩ := Option.isSome_iff_exists.1 (Option.isNone_eq_false_iff.1 htarget)
  unfold locateWrite
  rw [hx]
  cases ha : aligned a sz with
  | true => cases x <;> cases sz <;> exact ⟨_, _, rfl, by simp [IsStore]⟩
  | false =>
    have hf : Config.freeBit s.tick (.misaligned slot a) = false := by simpa [ha] using hfree
    rw [hf]
    cases x <;> exact ⟨_, _, rfl, by simp [IsStore]⟩

theorem locateWrite_of_fails {s : State} {slot : Nat} {a : Word} {sz : Size} (h : accessFails s slot a sz = true)
    (v : DWord) : locateWrite s slot a sz v = failedWrite s a := by
  unfold locateWrite
  unfold accessFails at h
  cases ha : aligned a sz with
  | true =>
    have ht : s.target slot a = none := by simpa [ha] using h
    rw [ht]; rfl
  | false =>
    cases hf : Config.freeBit s.tick (.misaligned slot a) with
    | true => rfl
    | false =>
      have ht : s.target slot a = none := by simpa [hf] using h
      rw [ht]; rfl

/-- What neither a store nor an update of a base changes: what later accesses go by, and the read pipeline. -/
structure AccessFrame (s t : State) : Prop where
  undisturbed : Undisturbed s t
  rdq : t.th.rdq = s.th.rdq

theorem AccessFrame.refl (s : State) : AccessFrame s s := ⟨.refl s, rfl⟩

theorem AccessFrame.trans {s t u : State} (h : AccessFrame s t) (h' : AccessFrame t u) : AccessFrame s u :=
  ⟨h.undisturbed.trans h'.undisturbed, h'.rdq.trans h.rdq⟩

theorem noteStore_frame (s : State) : AccessFrame s s.noteStore := ⟨noteStore_undisturbed s, rfl⟩

theorem SameButReport.frame {s t : State} (h : SameButReport s t) : AccessFrame s t := by
  refine ⟨h.undisturbed, ?_⟩
  obtain ⟨_, _, _, _, _, rfl⟩ := h
  rfl

theorem IsStore.act_frame {e : Todo} (h : IsStore e) (s : State) : AccessFrame s (e.act s) := by
  cases e with
  | store pa sz v =>
    rw [Todo.act, storeBytes_shape]
    exact ⟨⟨rfl, rfl, rfl, rfl, rfl, rfl, rfl, rfl⟩, rfl⟩
  | storeFree pa n =>
    rw [Todo.act, storeFree_shape]
    exact ⟨⟨rfl, rfl, rfl, rfl, rfl, rfl, rfl, rfl⟩, rfl⟩
  | storeDevice d pa sz v first n =>
    rw [Todo.act, deviceWrite_eq]
    exact ⟨toldDevice_undisturbed .., rfl⟩
  | _ => exact h.elim

theorem events_frame {l : List Todo} (h : ∀ e ∈ l, IsStore e) {s : State} (hq : Quiet s) :
    AccessFrame s (l.foldl State.event s) := by
  induction l generalizing s with
  | nil => exact .refl s
  | cons e l ih =>
    have hact : AccessFrame s (e.act s) := (h e List.mem_cons_self).act_frame s
    rw [List.foldl_cons, State.event_of_quiet hq.1 hq.2]
    exact hact.trans (ih (fun x hx => h x (List.mem_cons_of_mem e hx)) (hact.undisturbed.quiet hq))

theorem noteStore_accessFails (s : State) (slot : Nat) (a : Word) (sz : Size) :
    accessFails s.noteStore slot a sz = accessFails s slot a sz := rfl

/-- A write that does not fail happens: its first access and then the others. -/
theorem memWrite_of_not_fails {s : State} (hq : Quiet s) {slot : Nat} {a : Word} {sz : Size}
    (h : accessFails s slot a sz = false) (v : DWord) :
    ∃ e l, locateWrite s.noteStore slot a sz v = .ok (e :: l) s.noteStore ∧
      memWrite s slot a sz v = .ok () (l.foldl State.event (e.act s.noteStore)) := by
  obtain ⟨e, l, hl, -⟩ := locateWrite_of_not_fails ((noteStore_accessFails s slot a sz).trans h) v
  refine ⟨e, l, hl, ?_⟩
  rw [memWrite, hl, ← State.event_of_quiet (s := s.noteStore) hq.1 hq.2]
  rfl

/-- What a write of a quiet machine leaves as it was, if it happens. -/
theorem memWrite_frame {s t : State} (hq : Quiet s) {slot : Nat} {a : Word} {sz : Size} {v : DWord}
    (h : memWrite s slot a sz v = .ok () t) : AccessFrame s t := by
  unfold memWrite at h
  cases hf : accessFails s slot a sz with
  | false =>
    obtain ⟨e, l, hl, hstores⟩ := locateWrite_of_not_fails ((noteStore_accessFails s slot a sz).trans hf) v
    rw [hl] at h
    cases h
    exact (noteStore_frame s).trans (events_frame hstores hq)
  | true =>
    rw [locateWrite_of_fails ((noteStore_accessFails s slot a sz).trans hf), failedWrite] at h
    split at h
    · cases h
    · cases h
      exact (noteStore_frame s).trans (reportFailure_same _).frame

/-- An aligned write of an address that is there happens, whatever form the memory is in. -/
theorem memWrite_of_target {s : State} (hq : Quiet s) {slot : Nat} {a : Word} {sz : Size} (ha : aligned a sz = true)
    (ht : s.target slot a ≠ none) (v : DWord) : ∃ t, memWrite s slot a sz v = .ok () t := by
  have hf : accessFails s slot a sz = false := by simp [accessFails, ha, Option.isNone_eq_false_iff,
    Option.isSome_iff_ne_none, ht]
  obtain ⟨e, l, -, h⟩ := memWrite_of_not_fails hq hf v
  exact ⟨_, h⟩

end Located

end Sys2Proof.Claims
end

section
/-! SUPPORT. Linked stores: what each reports, and when one is performed. -/

namespace Sys2Proof.Claims
open Sys2Proof.Machine

section Reports
/-! ## Reports -/

/-- A value with new bits 31:16, of which 29:24 are `code`. -/
def codeWord (hi : BitVec 2) (code : BitVec 6) (lo : BitVec 8) (cell : Word) : Word :=
  hi ++ code ++ lo ++ cell.setWidth 16

theorem extractLsb'_codeWord_code (hi : BitVec 2) (code : BitVec 6) (lo : BitVec 8) (cell : Word) :
    (codeWord hi code lo cell).extractLsb' 24 6 = code := by
  apply BitVec.eq_of_getLsbD_eq
  intro i hlt
  simp only [codeWord, BitVec.getLsbD_extractLsb', BitVec.getLsbD_append]
  grind

theorem extractLsb'_codeWord_low (hi : BitVec 2) (code : BitVec 6) (lo : BitVec 8) (cell : Word) :
    (codeWord hi code lo cell).extractLsb' 0 16 = cell.extractLsb' 0 16 := by
  apply BitVec.eq_of_getLsbD_eq
  intro i hlt
  simp only [codeWord, BitVec.getLsbD_extractLsb', BitVec.getLsbD_append, BitVec.getLsbD_setWidth]
  grind

/-- A report writes a word with its code to the deferred state of the level in use, and keeps bits 15:0. -/
theorem reportCode_eq (s : State) (code : BitVec 6) :
    ∃ w : Word, w.extractLsb' 24 6 = code ∧ w.extractLsb' 0 16 = (s.th.txdefr s.th.istat).extractLsb' 0 16 ∧
      s.reportCode code = { s with th := s.th.setTxdefr s.th.istat w } :=
  ⟨codeWord _ code _ (s.th.txdefr s.th.istat), extractLsb'_codeWord_code _ _ _ _, extractLsb'_codeWord_low _ _ _ _, rfl⟩

/-- A report with the deferred trigger or without it, as one update of the thread. -/
theorem report_shape (s : State) (w : Word) (raised : Bool) {t : State}
    (ht : t = { s with th := s.th.setTxdefr s.th.istat w }) :
    (if raised then t.raiseDeferred else t) = { s with th := { s.th with
      txdefr0 := if s.th.istat then s.th.txdefr0 else w
      txdefr1 := if s.th.istat then w else s.th.txdefr1
      trig0 := if raised then (if s.th.istat then s.th.trig0 else s.th.trig0 ||| oneTrigger s.cfg.defrBit) else
        s.th.trig0
      trig1 := if raised then (if s.th.istat then s.th.trig1 ||| oneTrigger s.cfg.defrBit else s.th.trig1) else
        s.th.trig1 } } := by
  subst ht
  rw [setTxdefr_shape]
  cases raised
  · rfl
  · rw [if_pos rfl, State.raiseDeferred, raiseTrigger_shape]
    rfl

/-- The code is written, and the deferred trigger becomes active or not. -/
theorem reportCode_reported (s : State) (code : BitVec 6) (raised : Bool) :
    Reported s (if raised then (s.reportCode code).raiseDeferred else s.reportCode code) code := by
  obtain ⟨w, hcode, hlow, he⟩ := reportCode_eq s code
  rw [report_shape s w raised he]
  refine ⟨fun hi => ?background, fun hi => ?interrupt, rfl⟩
  case background =>
    rw [hi] at hlow ⊢
    exact ⟨hcode, hlow, rfl, by cases raised <;> rfl, by cases raised; exacts [.inl rfl, .inr rfl]⟩
  case interrupt =>
    rw [hi] at hlow ⊢
    exact ⟨hcode, hlow, rfl, by cases raised <;> rfl, by cases raised; exacts [.inl rfl, .inr rfl]⟩

theorem Reported.failed {s t : State} {code : BitVec 6} (h : Reported s t code) (b : Bool) :
    Reported s { t with th := { t.th with failedAccess := b } } code :=
  ⟨h.code0, h.code1, congrArg (fun u : State => { u with th := { u.th with failedAccess := b } }) h.rest⟩

theorem reportSuccess_reported (s : State) : Reported s (reportSuccess s) 2#6 := reportCode_reported s 2#6 _

theorem reportFailure_reported (s : State) : ∃ code, code ≠ 2#6 ∧ Reported s s.reportFailure code := by
  refine ⟨_, ?_, (reportCode_reported s _ true).failed true⟩
  split
  case isTrue => decide
  case isFalse h => exact fun h2 => h (.inr h2)

theorem reportNoStore_reported (s : State) : ∃ code, code ≠ 2#6 ∧ Reported s.noteStore (reportNoStore s) code := by
  refine ⟨_, ?_, reportCode_reported s.noteStore _ true⟩
  split
  case isTrue => decide
  case isFalse h => exact h

end Reports

section Performed
/-! ## The linked store -/

/-- Either the store is performed and 2 is reported, or nothing is stored and another value is reported. -/
def LinkedStored (s t : State) (a : Word) (sz : Size) (v : DWord) : Prop :=
  (s.th.linkFlag = true ∧ s.th.linkHit = false ∧ ∃ s2, Writes s 1 a v sz s2 ∧ s.target 1 a ≠ none ∧
      Reported s2 t 2#6) ∨
    ∃ code, code ≠ 2#6 ∧ Reported s.noteStore t code

theorem linkAccepts_holds {s : State} (h : linkAccepts s = true) : s.th.linkFlag = true ∧ s.th.linkHit = false := by
  simp only [linkAccepts, Bool.and_eq_true, Bool.not_eq_true'] at h
  exact h.1

/-- A linked store that the monitor accepts and that does not fail is a store that reports 2. -/
theorem linkedStore_of_accepts {s : State} (hq : Quiet s) {a : Word} {sz : Size} (ha : linkAccepts s = true)
    (hf : accessFails s 1 a sz = false) (v : DWord) :
    ∃ t, memWrite s 1 a sz v = .ok () t ∧ linkedStore s a sz v = reportSuccess t := by
  obtain ⟨e, l, hl, ht⟩ := memWrite_of_not_fails hq hf v
  refine ⟨_, ht, ?_⟩
  unfold linkedStore
  rw [interleave_nil hq.1, if_pos ha, hf, hl]
  rfl

theorem linkedStore_of_fails {s : State} (hq : Quiet s) {a : Word} {sz : Size} (ha : linkAccepts s = true)
    (hf : accessFails s 1 a sz = true) (v : DWord) : linkedStore s a sz v = s.noteStore.reportFailure := by
  unfold linkedStore
  rw [interleave_nil hq.1, if_pos ha, if_pos hf]

theorem linkedStore_of_refuses {s : State} (hq : Quiet s) (ha : ¬ linkAccepts s = true) (a : Word) (sz : Size)
    (v : DWord) : linkedStore s a sz v = reportNoStore s := by
  unfold linkedStore
  rw [interleave_nil hq.1, if_neg ha]

/-- Everything that a linked store can do. -/
theorem linkedStore_stored {s : State} (hq : Quiet s) (hw : s.mem.wf = true) (a : Word) (sz : Size) (v : DWord) :
    LinkedStored s (linkedStore s a sz v) a sz v := by
  by_cases ha : linkAccepts s = true
  case neg =>
    rw [linkedStore_of_refuses hq ha]
    exact .inr (reportNoStore_reported s)
  cases hf : accessFails s 1 a sz with
  | true =>
    rw [linkedStore_of_fails hq ha hf]
    exact .inr (reportFailure_reported s.noteStore)
  | false =>
    obtain ⟨t, ht, he⟩ := linkedStore_of_accepts hq ha hf v
    obtain ⟨hflag, hhit⟩ := linkAccepts_holds ha
    have htarget : s.target 1 a ≠ none := fun h => by simp [accessFails, h] at hf
    have hwrites : Writes s 1 a v sz t := by
      rcases memWrite_cases v hw hq 1 a sz with ⟨t', ht', hwr⟩ | ⟨hexc, -⟩
      · cases ht.symm.trans ht'; exact hwr
      · cases ht.symm.trans hexc
    rw [he]
    exact .inl ⟨hflag, hhit, t, hwrites, htarget, reportSuccess_reported t⟩

theorem ReadOnly.linkFlag {s t : State} (h : ReadOnly s t) : t.th.linkFlag = s.th.linkFlag := by rw [h]

theorem ReadOnly.linkHit {s t : State} (h : ReadOnly s t) : t.th.linkHit = s.th.linkHit := by rw [h]

theorem ReadOnly.target {s t : State} (h : ReadOnly s t) (slot : Nat) (a : Word) :
    t.target slot a = s.target slot a := h.undisturbed.target slot a

/-- What LNKSET does once its data is read. -/
theorem linkedStoreEnds_of_data {i : Instr} {s s1 : State} {p : CcStoreOp} {data : Res DWord} {d : DWord}
    (he : exec i s = linkedSet p.size (readReg s p.baseUnit p.rb 2) data p.cc s) (hd : data = .ok d s1)
    (hr : ReadOnly s s1) : LinkedStoreEnds i s s1 p d := by
  rw [linkedSet, hd, Res.bind, State.passes] at he
  refine ⟨fun hc => ?skips, fun hc hw hq => ?stores⟩
  case skips => rw [he, hc]; rfl
  case stores =>
    have hstored := linkedStore_stored (hr.quiet hq) (hr.mem ▸ hw) (readReg s p.baseUnit p.rb 2) p.size d
    rw [LinkedStored, hr.linkFlag, hr.linkHit, hr.target] at hstored
    exact ⟨_, by rw [he, hc]; rfl, hstored⟩

theorem LnkSetForm.exec_eq {i : Instr} {p : CcStoreOp} (h : LnkSetForm i p) (s : State) :
    exec i s = linkedSet p.size (readReg s p.baseUnit p.rb 2)
      ((readUnit s p.us p.rs 0).bind fun v s1 => .ok (v.setWidth 64) s1) p.cc s := by
  cases h <;> rfl

theorem exec_lnksetl (s : State) (rs rb : BitVec 5) (us : BitVec 4) (bu : BitVec 2) (cc : BitVec 4) :
    exec (.lnksetl rs rb us bu cc) s =
      linkedSet .l (readReg s (baseUnit bu) rb 2) (.ok (setPairData s us rs false) s) cc s := rfl

end Performed

section Settled

/-- Settles O35: the register waits, underflows, or is read, and the store that follows is accepted, fails, or is
refused. -/
theorem linkedStores : Obligations.LinkedStores := by
  refine ⟨fun s i p hf => ⟨fun hw => ?waits, fun hu => ?underflows, fun hr => ?register⟩, fun s rs rb us bu cc => ?pair⟩
  case waits => rw [hf.exec_eq, readUnit_waits hw]; rfl
  case underflows => rw [hf.exec_eq, readUnit_underflow hu]; rfl
  case register =>
    obtain ⟨v, s1, he, hv⟩ := readUnit_ok 0 hr
    exact ⟨v, s1, hv, linkedStoreEnds_of_data (hf.exec_eq s) (by rw [he]; rfl) hv.readOnly⟩
  case pair =>
    exact ⟨_, fun u hu => setPairData_eq hu rfl,
      linkedStoreEnds_of_data (exec_lnksetl s rs rb us bu cc) rfl (.refl s)⟩

end Settled

end Sys2Proof.Claims
end

section
/-! SUPPORT. One iteration of XFR: an entry is taken, both bases are updated, and what is left is a store and an issue. -/

namespace Sys2Proof.Claims
open Sys2Proof.Machine

section Iterations
/-! ## Before the store -/

theorem Popped.readReg {s s1 : State} {d : DWord} (h : Popped s s1 d) (u : BUnit) (n : BitVec 5) (k : Nat) :
    readReg s1 u n k = readReg s u n k := by
  rw [h.2]; exact readReg_rdq s _ u n k

theorem readReg_exprUpdate_other_unit (e : AddrExpr) (t : State) {u : BUnit} (h : u ≠ e.unit) (n : BitVec 5)
    (k : Nat) : readReg (exprUpdate e t) u n k = readReg t u n k := by
  unfold exprUpdate
  split
  · exact readReg_writeReg_other_unit t _ _ _ _ h
  · rfl

/-- The addresses of XFR are in two units, so that the update of one base is not seen by the other address. -/
theorem XfrForm.exec_eq {s : State} {i : Instr} {sz : Size} {dst src : AddrForm} (h : XfrForm s i sz dst src) :
    ∃ bud bus updD updS pp rdb rdo rsb rso, baseUnit bus ≠ baseUnit bud ∧ dst = regOff s bud rdb rdo updD pp ∧
      src = sourceOff s bus rsb rso updS pp ∧ exec i s = xfr sz bud bus updD updS pp rdb rdo rsb rso s := by
  cases h <;> exact ⟨_, _, _, _, _, _, _, _, _, by decide, rfl, rfl, rfl⟩

theorem XfrForm.exec_underflows {s : State} {i : Instr} {sz : Size} {dst src : AddrForm}
    (h : XfrForm s i sz dst src) (hq : s.th.rdq = []) : exec i s = .next (raise .readPipelineUnderflow s) := by
  obtain ⟨_, _, _, _, _, _, _, _, _, -, -, -, he⟩ := h.exec_eq
  rw [he, xfr, rdPop_of_nil hq]; rfl

/-- An iteration before its store: the entry is taken, and both bases are updated. -/
def xfrReady (s s1 : State) (dst src : AddrForm) : State := exprUpdate (src.expr s) (exprUpdate (dst.expr s) s1)

/-- An iteration after its store: the issue, and the repeat. -/
def xfrIssue (s : State) (src : AddrForm) (sz : Size) (t : State) : Res Unit :=
  (raIssue t 16#5 (src.addr s) sz).bind fun _ s5 => .ok () (repeated s5)

/-- An iteration with an entry to store: what is left is the store and the issue. -/
theorem XfrForm.exec_popped {s s1 : State} {i : Instr} {sz : Size} {dst src : AddrForm} {d : DWord}
    (h : XfrForm s i sz dst src) (hp : Popped s s1 d) :
    exec i s = finish s ((memWrite (xfrReady s s1 dst src) 1 (dst.addr s) sz d).bind fun _ s4 =>
      xfrIssue s src sz s4) := by
  obtain ⟨bud, bus, updD, updS, pp, rdb, rdo, rsb, rso, hne, rfl, rfl, he⟩ := h.exec_eq
  have hdst : exprR s1 bud rdb rdo updD pp = (regOff s bud rdb rdo updD pp).expr s := by
    simp only [exprR, exprAt, hp.readReg]; rfl
  have hsrc : exprAt (exprUpdate ((regOff s bud rdb rdo updD pp).expr s) s1) 4 bus rsb rso updS pp =
      (sourceOff s bus rsb rso updS pp).expr s := by
    simp only [exprAt, readReg_exprUpdate_other_unit ((regOff s bud rdb rdo updD pp).expr s) s1 hne, hp.readReg]; rfl
  rw [he, xfr, rdPop_of_popped hp]
  simp only [Res.bind, hdst, hsrc]
  rfl

/-- One iteration of XFR is performed, from the state without the entry it stores. -/
def XfrDone (i : Instr) (s s1 : State) (sz : Size) (dst src : AddrForm) (d : DWord) : Prop :=
  ∃ s2 s3 s4 s5, BaseOnly s1 s2 dst (dst.base s + dst.offset) ∧ BaseOnly s2 s3 src (src.base s + src.offset) ∧
    Writes s3 1 (dst.addr s) d sz s4 ∧ Issued s4 s5 16#5 (src.addr s) sz ∧ exec i s = .next (repeated s5)

theorem XfrForm.done {s s1 s4 s5 : State} {i : Instr} {sz : Size} {dst src : AddrForm} {d : DWord}
    (h : XfrForm s i sz dst src) (hp : Popped s s1 d)
    (hw : memWrite (xfrReady s s1 dst src) 1 (dst.addr s) sz d = .ok () s4)
    (hwr : Writes (xfrReady s s1 dst src) 1 (dst.addr s) d sz s4)
    (hr : raIssue s4 16#5 (src.addr s) sz = .ok () s5) (hi : Issued s4 s5 16#5 (src.addr s) sz) :
    XfrDone i s s1 sz dst src d :=
  ⟨_, _, s4, s5, exprUpdate_baseOnly dst s s1, exprUpdate_baseOnly src s _, hwr, hi, by
    rw [h.exec_popped hp, hw, Res.bind, xfrIssue, hr]; rfl⟩

theorem exprUpdate_frame (e : AddrExpr) (t : State) : AccessFrame t (exprUpdate e t) :=
  ⟨exprUpdate_undisturbed e t, exprUpdate_rdq e t⟩

theorem xfrReady_frame (s s1 : State) (dst src : AddrForm) : AccessFrame s1 (xfrReady s s1 dst src) :=
  (exprUpdate_frame _ s1).trans (exprUpdate_frame _ _)

theorem xfrReady_mem (s s1 : State) (dst src : AddrForm) : (xfrReady s s1 dst src).mem = s1.mem :=
  (exprUpdate_mem _ _).trans (exprUpdate_mem _ s1)

/-- The entry that was taken leaves room for the one that is read, and the store has changed nothing the issue goes
by. -/
theorem Popped.after_store {s s1 s4 : State} {dst src : AddrForm} {a : Word} {sz : Size} {d : DWord}
    (hp : Popped s s1 d) (hfits : s.th.rdq.length ≤ Params.rdFifoDepth s.cfg) (hq : Quiet s)
    (h : memWrite (xfrReady s s1 dst src) 1 a sz d = .ok () s4) :
    Undisturbed s s4 ∧ s4.th.rdq.length < Params.rdFifoDepth s4.cfg := by
  have hready := xfrReady_frame s s1 dst src
  have hframe := hready.trans (memWrite_frame (hready.undisturbed.quiet (hp.undisturbed.quiet hq)) h)
  have hsame := hp.undisturbed.trans hframe.undisturbed
  refine ⟨hsame, ?_⟩
  rw [hsame.cfg, hframe.rdq]
  exact Nat.lt_of_lt_of_le (hp.length_rdq ▸ Nat.lt_succ_self _) hfits

/-- What accesses that are not deferred find is there. -/
theorem Accessible.target_of_sync {s : State} {slot : Nat} {a : Word} {sz : Size} (h : Accessible s slot a sz)
    (hs : s.cfg.memErrorMode = .sync) : s.target slot a ≠ none :=
  h.2.2.resolve_right fun hd => nomatch hs.symm.trans hd

end Iterations

section Settled

/-- Settles O40: with an entry taken there is room for the next, and of the store and the issue that are left each is
performed, fails, or is misaligned. -/
theorem transfers : Obligations.Transfers := by
  intro s i sz dst src hf
  refine ⟨fun hnone => hf.exec_underflows hnone, fun d s1 hp hfits hq => ?iteration⟩
  have he := hf.exec_popped hp
  have hready : Undisturbed s (xfrReady s s1 dst src) := hp.undisturbed.trans (xfrReady_frame s s1 dst src).undisturbed
  have hmem : (xfrReady s s1 dst src).mem = s.mem := (xfrReady_mem s s1 dst src).trans hp.readOnly.mem
  refine ⟨fun hw hdst hsrc => ?performed, fun h => ?storeFails, fun hdst h => ?readFails, fun hw _ => ?misaligned⟩
  case performed =>
    obtain ⟨s4, ht, hwr⟩ := memWrite_ok d (hmem ▸ hw) (hready.accessible hdst)
    obtain ⟨hsame, hroom⟩ := hp.after_store hfits hq ht
    obtain ⟨s5, hr, hi, -⟩ := raIssue_ok (port := 16#5) fun _ => ⟨hroom, hsame.accessible hsrc⟩
    exact hf.done hp ht hwr hr hi
  case storeFails => rw [he, memWrite_fault d (hready.faults h)]; rfl
  case readFails =>
    have ⟨_, _, _, hsync⟩ := h
    have htarget := (hready.accessible hdst).target_of_sync (hready.cfg ▸ hsync)
    obtain ⟨s4, ht⟩ := memWrite_of_target (hready.quiet hq) hdst.2.1 htarget d
    obtain ⟨hsame, hroom⟩ := hp.after_store hfits hq ht
    have hwait : ¬ WriteWaits s4 6#4 16#5 := fun hfull => absurd hroom (Nat.not_lt.2 hfull.2.2)
    rw [he, ht, Res.bind, xfrIssue, raIssue_fault rfl hwait (hsame.faults h)]; rfl
  case misaligned =>
    rcases memWrite_quiet d (hready.quiet hq) 1 fun _ => hmem ▸ hw with ⟨s4, ht, hwr⟩ | ⟨ht, hs⟩
    · obtain ⟨hsame, hroom⟩ := hp.after_store hfits hq ht
      rcases raIssue_cases (port := 16#5) (sz := sz) (src.addr s) (hsame.quiet hq) rfl hroom with
        ⟨s5, hr, hi, -⟩ | ⟨hr, hs, -⟩
      · exact .inr (.inr (hf.done hp ht hwr hr hi))
      · exact .inr (.inl ⟨hsame.cfg ▸ hs, by rw [he, ht, Res.bind, xfrIssue, hr]; rfl⟩)
    · exact .inl ⟨hready.cfg ▸ hs, by rw [he, ht]; rfl⟩

end Settled

end Sys2Proof.Claims
end

section
/-! SUPPORT. Exceptions, fetches that fail, the turn of a Halted thread, and the events of the environment: what a step
makes of each. -/

namespace Sys2Proof.Claims
open Sys2Proof.Machine

section Turns
/-! ## Turns without an instruction -/

theorem not_lockedOut {s : State} (hg : ∀ t, s.globOwner = some t → t = s.th.tid) : ¬ s.lockedOut = true := by
  rw [lockedOut_iff]
  rintro ⟨t, ht, hne⟩
  exact hne (hg t ht)

/-- A Halted thread executes nothing at its turn (60_exceptions.md R596). -/
theorem runTurn_of_halted {s : State} (h : s.th.runState = .halted) : runTurn s = .next s := by
  rw [runTurn, if_pos h]

/-- A thread that may run and has no access still to make fetches. -/
theorem step_fetches {s : State} (he : s.env = []) (ht : s.th.todo = []) (hr : s.th.runState ≠ .halted)
    (hg : ∀ t, s.globOwner = some t → t = s.th.tid) : step s = closeOut (runWord (fetchWord s) s) := by
  rw [step, runScript, he]
  change closeOut (runTurn s) = _
  rw [runTurn, if_neg hr, if_neg (not_lockedOut hg), if_pos ht]

theorem fetchWord_misaligned {s : State} (h : s.th.pc.toNat % 4 ≠ 0) :
    fetchWord s = .exc (.pcMisaligned s.th.pc) := by
  rw [fetchWord, if_neg h]

theorem fetchWord_fault {s : State} (h : s.th.pc.toNat % 4 = 0) (ht : s.target 2 s.th.pc = none) :
    fetchWord s = .exc (.fetchFault s.th.pc) := by
  rw [fetchWord, if_pos h, ht]

theorem fetchWord_ram {s : State} {pa : Word} (h : s.th.pc.toNat % 4 = 0) (ht : s.target 2 s.th.pc = some (.ram pa)) :
    fetchWord s = .ok (s.fetchBytes pa) s := by
  rw [fetchWord, if_pos h, ht]

theorem runWord_unknown {w : Word} (h : decode w.toNat = none) (s s1 : State) :
    runWord (.ok w s1) s = .next (raise (.unknownInstruction w) s1) := by
  rw [runWord, h]

end Turns

section Events
/-! ## Events of the environment -/

/-- The step of an event: it happens, with the script at its next entry, and the step is closed. -/
theorem step_of_event {s : State} {e : EnvEvent} {rest : List (Option EnvEvent)} (he : s.env = some e :: rest)
    (hd : ∀ l, e ≠ .during l) : step s = .next (afterStep (deliver e { s with env := rest })) := by
  rw [step, runScript, he]
  cases e with
  | during l => exact absurd rfl (hd l)
  | trigger | kick | interrupt | restart | timerTick | extWrite | deferredReport | retranslate | ctHook | select => rfl

theorem onThread_turn (s : State) (f : Thread → Thread) : s.onThread s.th.tid f = { s with th := f s.th } :=
  if_pos rfl

theorem restart_halted {t : Thread} (h : t.runState = .halted) (pc : Word) :
    t.restart pc = { t with runState := .running, pc := pc } := if_pos h

theorem restart_not_halted {t : Thread} (h : t.runState ≠ .halted) (pc : Word) : t.restart pc = t := if_neg h

/-- The thread that has the turn takes an interrupt (60_exceptions.md R587, R595). -/
def TakesInterrupt (s : State) : Prop :=
  s.th.istat = false ∧ s.th.runState ≠ .halted ∧ s.th.todo = [] ∧ ∃ b < 16, Triggered s true b

theorem active_ne_zero {s : State} {level : Bool} :
    s.th.active s.cfg.kickBit level ≠ 0#16 ↔ ∃ b < 16, Triggered s level b := by
  rw [Ne, active_zero]; push Not; rfl

theorem interrupt_guard_iff {s : State} :
    (s.th.todo = [] && !s.th.istat && s.th.runState != .halted && s.th.active s.cfg.kickBit true != 0#16) = true ↔
      TakesInterrupt s := by
  simp only [TakesInterrupt, ← active_ne_zero, Bool.and_eq_true, decide_eq_true_eq, Bool.not_eq_true', bne_iff_ne]
  tauto

theorem interrupt_taken {s : State} (h : TakesInterrupt s) :
    s.th.interrupt s.cfg.kickBit = s.th.enterInterrupt := if_pos (interrupt_guard_iff.2 h)

theorem interrupt_not_taken {s : State} (h : ¬ TakesInterrupt s) : s.th.interrupt s.cfg.kickBit = s.th :=
  if_neg (mt interrupt_guard_iff.1 h)

/-- An interrupt for the thread that has the turn, which the global lock does not exclude. -/
theorem deliver_interrupt {s : State} (hg : ∀ t, s.globOwner = some t → t = s.th.tid) :
    deliver (.interrupt s.th.tid) s = { s with th := s.th.interrupt s.cfg.kickBit } :=
  (if_neg (not_lockedOut hg)).trans (onThread_turn s _)

theorem report_eq (defrBit : BitVec 4) (level : Bool) (v : BitVec 16) :
    Thread.report defrBit level v = fun t => if t.failedAccess then reportedTo defrBit level v t else t := by
  funext t
  unfold Thread.report
  cases level <;> rfl

theorem deliver_deferredReport (s : State) (t : Nat) (level : Bool) (v : BitVec 16) :
    deliver (.deferredReport t level v) s = if s.cfg.memErrorMode = .deferred then
      changed s t fun o => if o.failedAccess then reportedTo s.cfg.defrBit level v o else o else s := by
  rw [deliver, report_eq]
  cases s.cfg.memErrorMode <;> rfl

theorem hook_eq (r : CtReg) (v : Word) (halt : Bool) : Thread.hook r v halt = fun t =>
    { t with ct := t.ct.set r.index.val v r.index.isLt, runState := if halt then .halted else t.runState } := by
  funext t
  cases halt <;> rfl

theorem foreignByte_writtenFromOutside {s : State} (hw : s.mem.wf = true) (a : Word) (v : Byte) :
    WrittenFromOutside s (s.foreignByte (a, v)) a v where
  byte := Memory.get_set_self hw a.toNat v
  kept _ hb := Memory.get_set_of_ne s.mem v hb
  rest := by rw [← noteWrite_eq]; rfl

theorem perm_cons_eraseP_of_find {α : Type} {p : α → Bool} {l : List α} {a : α} (h : l.find? p = some a) :
    (a :: l.eraseP p).Perm l := by
  obtain ⟨ha, before, after, rfl, hbefore⟩ := List.find?_eq_some_iff_append.1 h
  have hnot : ∀ b ∈ before, ¬ p b = true := fun b hb => by simpa using hbefore b hb
  rw [List.eraseP_append_right _ hnot, List.eraseP_cons_of_pos ha]
  exact List.perm_middle.symm

/-- The turn goes to another thread of the core, and the threads stay the same. -/
theorem select_other {s : State} {tid : Nat} (ho : ∃ o ∈ s.others, o.tid = tid) (hne : s.th.tid ≠ tid) :
    (s.select tid).th.tid = tid ∧ ((s.select tid).th :: (s.select tid).others).Perm (s.th :: s.others) ∧
      s.select tid = { s with th := (s.select tid).th, others := (s.select tid).others } := by
  obtain ⟨o, hmem, hot⟩ := ho
  obtain ⟨t, ht⟩ := Option.isSome_iff_exists.1
    (List.find?_isSome (p := fun u : Thread => decide (u.tid = tid)).2 ⟨o, hmem, by simpa using hot⟩)
  have hsel : s.select tid =
      { s with th := t, others := s.th :: s.others.eraseP fun u => decide (u.tid = tid) } := by
    rw [State.select, if_neg hne, ht]
  rw [hsel]
  refine ⟨by simpa using List.find?_some ht, ?_, rfl⟩
  exact (List.Perm.swap _ _ _).trans ((perm_cons_eraseP_of_find ht).cons _)

end Events

section Settled

/-- Settles O51: the dispatch refuses both. -/
theorem shadowRegisterStops : Obligations.ShadowRegisterStops := fun _ _ => ⟨rfl, rfl⟩

/-- Settles O46, from what an exception does under each mode. -/
theorem exceptionEntry : Obligations.ExceptionEntry := fun _ _ => ⟨raise_of_halts, raise_of_handled, rfl⟩

/-- Settles O53: each case is what the fetch gives. -/
theorem fetchExceptions : Obligations.FetchExceptions := by
  intro s he ht hr hg
  have hstep := step_fetches he ht hr hg
  refine ⟨fun hpc => ?misaligned, fun hpc hnone => ?fault, fun pa hpc hram => ?unknown⟩
  case misaligned => rw [hstep, fetchWord_misaligned hpc]; rfl
  case fault => rw [hstep, fetchWord_fault hpc hnone]; rfl
  case unknown =>
    intro w hd
    rw [hstep, fetchWord_ram hpc hram, runWord_unknown (w := s.fetchBytes pa) hd]; rfl

/-- Settles O50: a turn of a Halted thread is idle, and Restart changes a Halted thread alone. -/
theorem haltedThread : Obligations.HaltedThread := by
  intro s
  have hidle : s.th.runState = .halted → _ := fun hr =>
    step_of_idle_turn (s := s) fun env mid => runTurn_of_halted (s := { s with env := env, mid := mid }) hr
  refine ⟨fun hr => (hidle hr).1, fun o rest hr => (hidle hr).2 o rest, fun pc rest he => ?restart⟩
  have hstep : step s = .next (afterStep { s with env := rest, th := s.th.restart pc }) := by
    have hdeliver : deliver (.restart s.th.tid pc) { s with env := rest } =
        { s with env := rest, th := s.th.restart pc } := onThread_turn { s with env := rest } _
    rw [step_of_event he nofun, hdeliver]
  refine ⟨fun hr => ?halted, fun hr => ?notHalted⟩
  case halted => rw [hstep, restart_halted hr]
  case notHalted => rw [hstep, restart_not_halted hr]

/-- Settles O47: the guard of the event is the condition of the statement. -/
theorem interrupts : Obligations.Interrupts := by
  intro s rest he hg
  have hstep : step s = .next (afterStep { s with env := rest, th := s.th.interrupt s.cfg.kickBit }) := by
    have hdeliver : deliver (.interrupt s.th.tid) { s with env := rest } =
        { s with env := rest, th := s.th.interrupt s.cfg.kickBit } := deliver_interrupt (s := { s with env := rest }) hg
    rw [step_of_event he nofun, hdeliver]
  refine ⟨fun h => ?taken, fun h => ?notTaken⟩
  case taken => rw [hstep, interrupt_taken h]; rfl
  case notTaken => rw [hstep, interrupt_not_taken h]

/-- Settles O48, event by event. -/
theorem environmentEvents : Obligations.EnvironmentEvents := by
  intro s e rest he s1
  have hstep : ∀ e', e = e' → (∀ l, e' ≠ .during l) → step s = .next (afterStep (deliver e' s1)) := by
    rintro _ rfl hd; exact step_of_event he hd
  refine ⟨fun t l b h => hstep _ h nofun, fun t h => hstep _ h nofun, fun t r v h => hstep _ h nofun,
    fun t l v h => ?report, fun a v h hw => ?written, fun tid h ho hne => ?select, fun table h => hstep _ h nofun,
    fun t r v halt h => ?hook⟩
  case report => rw [hstep _ h nofun, deliver_deferredReport]
  case written => exact ⟨_, hstep _ h nofun, foreignByte_writtenFromOutside (s := s1) hw a v⟩
  case select => exact ⟨_, hstep _ h nofun, select_other (s := s1) ho hne⟩
  case hook => rw [hstep _ h nofun, deliver, hook_eq]; rfl

/-- Settles O55: the invariant part by part, and the rest by evaluation. -/
theorem resetKeepsInvariant : Obligations.ResetKeepsInvariant := by
  refine ⟨⟨State.reset_mem_wf, ?turn, fun t ht => ?rest, nofun⟩, rfl, rfl, ?threads, rfl, rfl, rfl⟩
  case turn => exact Nat.zero_le _
  case rest => rw [List.mem_singleton.1 ht]; exact Nat.zero_le _
  case threads => decide

end Settled

end Sys2Proof.Claims
end

section
/-! SUPPORT. The cache operations: the translation that is read, what a flush ends, and the prefetch commands. -/

namespace Sys2Proof.Claims
open Sys2Proof.Machine

section Translations
/-! ## Addresses and translations -/

theorem cacheAddr_eq (s : State) (bua : BitVec 2) (rb : BitVec 5) (imm : BitVec 6) (scale : Nat) :
    cacheAddr s bua rb imm scale = cacheAddress s bua rb imm scale := by
  rw [cacheAddr, cacheAddress, BitVec.signExtend, BitVec.ofInt_mul, BitVec.ofInt_natCast]

theorem line_line (a : Word) : line (line a) = line a := by
  rw [line, line, BitVec.and_assoc, BitVec.and_self]

/-- The translation that an access uses is the one now, or an older one that has not been flushed for the line
(20_memory.md R139). -/
theorem tableFor_cases (s : State) (slot : Nat) (a : Word) :
    s.tableFor slot a = s.xlat ∨ ∃ o ∈ s.xlatOlds, line a ∉ o.flushed ∧ s.tableFor slot a = o.table := by
  unfold State.tableFor
  dsimp only
  split
  · rename_i o ho
    obtain ⟨hmem, hline⟩ := List.mem_filter.1 (List.mem_of_getElem? ho)
    exact .inr ⟨o, hmem, by simpa using hline, rfl⟩
  · exact .inl rfl

/-- With every older translation of the line flushed the one now is left. -/
theorem tableFor_of_flushed {s : State} {a : Word} (h : ∀ o ∈ s.xlatOlds, line a ∈ o.flushed) (slot : Nat) :
    s.tableFor slot a = s.xlat := by
  rcases tableFor_cases s slot a with hnow | ⟨o, ho, hnot, -⟩
  · exact hnow
  · exact absurd (h o ho) hnot

/-- An entry with a physical address translates the addresses that it is the first to cover. -/
theorem lookupXlat_ne_none {table : List XlatEntry} {tid : Nat} {a : Word} {e : XlatEntry}
    (h : table.find? (fun e => e.covers tid a) = some e) (hp : e.phys ≠ none) : lookupXlat table tid a ≠ none := by
  rw [lookupXlat, h]
  simpa using hp

/-- What CACHERL and CACHERD read is what `AddrTrans` says. -/
theorem addrTrans_ok (s : State) (a : Word) : AddrTrans s a (addrTrans s a).1 (addrTrans s a).2 := by
  intro hsel hres
  refine ⟨s.tableFor 0 (line a), ?table, fun pa hpa => ?phys, fun e hfind hphys => ?flags⟩
  case table =>
    refine (tableFor_cases s 0 (line a)).imp_right fun ⟨o, ho, hnot, ht⟩ => ⟨o, ho, ?_, ht⟩
    rwa [line_line] at hnot
  case phys =>
    have htrans : s.translate 0 (line a) = some pa := hpa
    rw [addrTrans, if_pos ⟨hsel, hres⟩, htrans]
  case flags =>
    obtain ⟨pa, hpa⟩ := Option.ne_none_iff_exists'.1 (lookupXlat_ne_none hfind hphys)
    have htrans : s.translate 0 (line a) = some pa := hpa
    have hflags : lookupFlags (s.tableFor 0 (line a)) s.th.tid (a.getLsbD 3) (line a) =
        some (if a.getLsbD 3 then e.codeFlags else e.dataFlags) := congrArg (Option.map _) hfind
    rw [addrTrans, if_pos ⟨hsel, hres⟩, htrans, hflags]; rfl

end Translations

section Flushes
/-! ## Flushes -/

/-- A command that ends nothing. -/
theorem emit_flushed (s : State) (kind : FlushKind) (a : Word) (sz : Option Size) :
    Flushed s ((advance s).emit (.flush s.th.tid kind a sz)) kind a sz :=
  ⟨rfl, .refl _, .refl _, rfl, rfl⟩

theorem ite_filter_sublist {α : Type} (c : Bool) (p : α → Bool) (l : List α) :
    (if c then l.filter p else l).Sublist l := by
  split
  · exact List.filter_sublist
  · exact .refl l

/-- The state after a flush of the line of `a`, with its command emitted. -/
def flushedLine (s : State) (a : Word) (ic dc tlb : Bool) (e : Emit) : State :=
  (flushLine (advance s) a ic dc tlb).emit e

theorem flushedLine_flushed (s : State) (a : Word) (ic dc tlb : Bool) (kind : FlushKind) (b : Word)
    (sz : Option Size) : Flushed s (flushedLine s a ic dc tlb (.flush s.th.tid kind b sz)) kind b sz where
  told := rfl
  code := ite_filter_sublist ic _ _
  data := ite_filter_sublist dc _ _
  xlats := by cases tlb <;> simp [flushedLine, flushLine]
  rest := rfl

/-- No old byte of the line of the physical address is left. -/
theorem line_ne_of_mem_filter {l : List (Word × Byte)} {pa : Word} {c : Word × Byte}
    (h : c ∈ l.filter fun c => line c.1 != line pa) : line c.1 ≠ line pa := by
  simpa using (List.mem_filter.1 h).2

theorem flushedLine_icOld {s : State} {a pa : Word} (h : s.translate 0 (line a) = some pa) (dc tlb : Bool) (e : Emit) :
    ∀ c ∈ (flushedLine s a true dc tlb e).icOld, line c.1 ≠ line pa := by
  intro c hc
  have hpa : (advance s).translate 0 (line a) = some pa := h
  refine line_ne_of_mem_filter (l := s.icOld) ?_
  simpa [flushedLine, flushLine, hpa] using hc

theorem flushedLine_dcOld {s : State} {a pa : Word} (h : s.translate 0 (line a) = some pa) (ic tlb : Bool) (e : Emit) :
    ∀ c ∈ (flushedLine s a ic true tlb e).dcOld, line c.1 ≠ line pa := by
  intro c hc
  have hpa : (advance s).translate 0 (line a) = some pa := h
  refine line_ne_of_mem_filter (l := s.dcOld) ?_
  simpa [flushedLine, flushLine, hpa] using hc

theorem flushedLine_tlbFlushed (s : State) (a : Word) (ic dc : Bool) (e : Emit) :
    TlbFlushed s (flushedLine s a ic dc true e) (line a) where
  ended := rfl
  now slot b hb := by
    have hflushed : ∀ o ∈ (flushedLine s a ic dc true e).xlatOlds, line b ∈ o.flushed := by
      intro o ho
      obtain ⟨old, -, rfl⟩ := List.mem_map.1 ho
      exact hb ▸ List.mem_cons_self
    rw [State.translate, tableFor_of_flushed hflushed]; rfl

/-- What CACHEWL and CACHEWD do: `d` is their data. -/
theorem cacheCommand_effect (s : State) (a d : Word) (sz : Size) :
    ∃ kind, Flushed s (cacheCommand (advance s) a d sz) kind a (some sz) ∧
      (d.extractLsb' 2 6 = 0#6 → kind = .cache (d.getLsbD 0) (d.getLsbD 1) ∧ cacheCommand (advance s) a d sz =
        flushedLine s a (d.getLsbD 0) (!d.getLsbD 0 && !d.getLsbD 1) (d.getLsbD 1)
          (.flush s.th.tid (.cache (d.getLsbD 0) (d.getLsbD 1)) a (some sz))) := by
  unfold cacheCommand
  split
  · exact ⟨_, flushedLine_flushed s a _ _ _ _ a _, fun _ => ⟨rfl, rfl⟩⟩
  · rename_i hres
    exact ⟨_, emit_flushed s .unspecified a (some sz), fun h => absurd h hres⟩

/-- What DCACHE does: `d` is its data. -/
theorem lineCommand_effect (s : State) (a d : Word) :
    ∃ kind, Flushed s (lineCommand (advance s) a d) kind (line a) none ∧
      (d = 0#32 → kind = .dataLine ∧ lineCommand (advance s) a d =
        flushedLine s a false true false (.flush s.th.tid .dataLine (line a) none)) := by
  unfold lineCommand
  split
  · exact ⟨_, flushedLine_flushed s a _ _ _ _ _ _, fun _ => ⟨rfl, rfl⟩⟩
  · rename_i hres
    exact ⟨_, emit_flushed s .unspecified _ none, fun h => absurd h hres⟩

theorem exec_cachew {s : State} {rs rb : BitVec 5} {imm : BitVec 6} {bua bur : BitVec 2} {i : Instr} {sz : Size}
    (h : i = .cachewl rs rb imm bua bur ∧ sz = .l ∨ i = .cachewd rs rb imm bua bur ∧ sz = .d) :
    exec i s =
      .next (cacheCommand (advance s) (cacheAddress s bua rb imm 64) (readReg s (baseUnit bur) rs 0) sz) := by
  have ha : cacheAddr s bua rb imm 64 = cacheAddress s bua rb imm 64 := cacheAddr_eq s bua rb imm 64
  rw [← ha]
  rcases h with ⟨rfl, rfl⟩ | ⟨rfl, rfl⟩ <;> rfl

theorem exec_dcache (s : State) (rs rb : BitVec 5) (imm : BitVec 6) (bua bur : BitVec 2) :
    exec (.dcache rs rb imm bua bur) s =
      .next (lineCommand (advance s) (cacheAddress s bua rb imm 64) (readReg s (baseUnit bur) rs 0)) := by
  have ha : cacheAddr s bua rb imm 64 = cacheAddress s bua rb imm 64 := cacheAddr_eq s bua rb imm 64
  rw [← ha]; rfl

theorem prefetchOffset_eq (off : BitVec 15) : off.signExtend 32 * 64#32 = BitVec.ofInt 32 (64 * off.toInt) := by
  rw [BitVec.signExtend, BitVec.ofInt_mul, BitVec.mul_comm]; rfl

end Flushes

section Settled

/-- Settles O41: the translation that is read, and the write of the register or of the pair. -/
theorem cacheTranslations : Obligations.CacheTranslations := by
  intro s rd rb imm bua bur
  refine ⟨⟨_, _, _, rfl, ?pair, writePair_pairWrite _ _ _ _ _⟩,
    ⟨_, (addrTrans s (cacheAddr s bua rb imm 4)).2, _, rfl, ?single, writeReg_gprWrite _ _ _ _⟩⟩
  case pair => exact cacheAddr_eq s bua rb imm 8 ▸ addrTrans_ok s _
  case single => exact cacheAddr_eq s bua rb imm 4 ▸ addrTrans_ok s _

/-- Settles O42: a command without reserved data bits is a flush of the line, which ends what its kind says. -/
theorem cacheCommands : Obligations.CacheCommands := by
  intro s rs rb imm bua bur a d
  refine ⟨fun i sz hi => ?flush, ?dcache, fun off count pri => ?icache, fun pri => rfl⟩
  case flush =>
    obtain ⟨kind, hf, hk⟩ := cacheCommand_effect s a d sz
    refine ⟨kind, _, exec_cachew hi, hf, fun hres => ?_⟩
    obtain ⟨hkind, ht⟩ := hk hres
    change _ ∧ (_ → TlbFlushed s (cacheCommand (advance s) a d sz) (line a)) ∧ _
    rw [ht]
    refine ⟨hkind, fun htlb => ?tlb, fun htlb => ?ways, fun pa hpa => ⟨fun hic => ?code, fun hic htlb => ?data⟩⟩
    case tlb => rw [htlb]; exact flushedLine_tlbFlushed s a _ _ _
    case ways => rw [htlb]; rfl
    case code => rw [hic]; exact flushedLine_icOld hpa _ _ _
    case data => rw [hic, htlb]; exact flushedLine_dcOld hpa _ _ _
  case dcache =>
    obtain ⟨kind, hf, hk⟩ := lineCommand_effect s a d
    refine ⟨kind, _, exec_dcache s rs rb imm bua bur, hf, fun hd => ?_⟩
    obtain ⟨hkind, ht⟩ := hk hd
    change _ ∧ (lineCommand (advance s) a d).xlatOlds = _ ∧ _
    rw [ht]
    exact ⟨hkind, rfl, fun pa hpa => flushedLine_dcOld hpa _ _ _⟩
  case icache =>
    intro x
    have hx : s.th.pc + off.signExtend 32 * 64#32 = x := congrArg (s.th.pc + ·) (prefetchOffset_eq off)
    rw [← hx]; rfl

end Settled

end Sys2Proof.Claims
end

section
/-! SUPPORT. Moves that append to the trace log, and loads that fail. -/

namespace Sys2Proof.Claims
open Sys2Proof.Machine

section Traces
/-! ## Moves that are traced -/

/-- A write of any unit as the last act but for what `after` makes of its state. -/
theorem exec_writeUnit_then {i : Instr} {s s1 : State} {u : BitVec 4} {n : BitVec 5} {v : Word}
    {after : State → State} (h : exec i s = finish s ((writeUnit s1 u n v).bind fun _ t => .ok () (after t)))
    (hm : s1.mem = s.mem) (hc : s1.cfg = s.cfg) :
    (CanWrite s1 u n v → ∃ t, exec i s = .next (after t) ∧ UnitWrite s1 t u n v ∧ SameBytes s t) ∧
      (WriteWaits s1 u n → exec i s = .next (blockOn .pipelineFull s)) ∧
      (WriteFaults s1 u n v → exec i s = .next (raise (.memoryFault v .read) s)) ∧
      (WriteStrays s1 u n v → RaisesFault i s v .read ∨
        ∃ t, exec i s = .next (after t) ∧ UnitWrite s1 t u n v ∧ SameBytes s t) := by
  have hdone : ∀ t, writeUnit s1 u n v = .ok () t → UnitWrite s1 t u n v → t.mem = s1.mem →
      ∃ t, exec i s = .next (after t) ∧ UnitWrite s1 t u n v ∧ SameBytes s t := fun t ht hw hmem =>
    ⟨t, by rw [h, ht]; rfl, hw, fun a => by rw [hmem, hm]⟩
  refine ⟨fun hcan => ?writes, fun hwait => ?waits, fun hfault => ?faults, fun hstray => ?strays⟩
  case writes =>
    obtain ⟨t, ht, hw, hmem⟩ := writeUnit_ok hcan
    exact hdone t ht hw hmem
  case waits => rw [h, writeUnit_waits hwait]; rfl
  case faults => rw [h, writeUnit_fault hfault]; rfl
  case strays =>
    rcases writeUnit_strays hstray with ⟨t, ht, hw, hmem⟩ | ⟨he, hs⟩
    · exact .inr (hdone t ht hw hmem)
    · exact .inl ⟨hc ▸ hs, by rw [h, he]; rfl⟩

theorem exec_ttmov (rd rs : BitVec 5) (us ud cc : BitVec 4) (s : State) :
    exec (.ttmov rd rs us ud cc) s = finish s ((readUnit s us rs 0).bind fun v s1 =>
      if cond s.th.flags cc then (writeUnit (atNext s1) ud rd v).bind fun _ t => .ok () (traced 32 t (v.setWidth 64))
      else .ok () (atNext s1)) := rfl

theorem exec_movlTtrec (rs1 rs2 : BitVec 5) (bu : BitVec 2) (cc : BitVec 4) (s : State) :
    exec (.movlTtrec rs1 rs2 bu cc) s = .next (if cond s.th.flags cc then
      traced 64 (atNext s) (readReg s (baseUnit bu).opp rs2 1 ++ readReg s (baseUnit bu) rs1 0) else atNext s) := rfl

/-- TTMOV is a move, and then appends the value it moved. -/
theorem ttmov_moveEffect (s : State) (rd rs : BitVec 5) (us ud cc : BitVec 4) :
    MoveEffect (.ttmov rd rs us ud cc) s us rs ud rd cc fun t v => traced 32 t (v.setWidth 64) := by
  have he := exec_ttmov rd rs us ud cc s
  refine ⟨fun hw => ?waits, fun hu => ?underflows, fun hr => ?reads⟩
  case waits => rw [he, readUnit_waits hw]; rfl
  case underflows => rw [he, readUnit_underflow hu]; rfl
  case reads =>
    obtain ⟨v, s1, hread, hv⟩ := readUnit_ok 0 hr
    rw [hread, Res.bind] at he
    refine ⟨v, s1, hv, fun hc => ?skips, fun hc => ?moves⟩
    case skips => rw [he, hc]; rfl
    case moves =>
      rw [hc] at he
      exact exec_writeUnit_then (s1 := atNext s1) he hv.readOnly.mem hv.readOnly.cfg

end Traces

section Faults
/-! ## Loads that fail -/

theorem getOne_faults {s : State} {p : AccessOp} (h : Faults s 0 (p.mem.addr s) p.size) :
    getOne p.size (p.mem.expr s) p.unit p.reg s = .next (raise (.memoryFault (p.mem.addr s) .read) s) := by
  rw [getOne, AddrForm.exprAddr_expr, memRead_fault h]; rfl

theorem getPair_faults {s : State} {p : AccessOp} (h : Faults s 0 (p.mem.addr s) .l) :
    getPair (p.mem.expr s) p.unit p.reg s = .next (raise (.memoryFault (p.mem.addr s) .read) s) := by
  rw [getPair, AddrForm.exprAddr_expr, locate_fault h]; rfl

theorem linkedLoad_faults {s : State} {a : Word} {sz : Size} (h : Faults s 0 a sz) (lo hi : Dest) :
    linkedLoad sz a lo hi s = .next (raise (.memoryFault a .read) s) := by
  rw [linkedLoad, locate_fault h]; rfl

end Faults

section Settled

/-- Settles O18: TTMOV is a move with a record after it, and MOVL TTREC is its meaning. -/
theorem traceMoves : Obligations.TraceMoves :=
  ⟨ttmov_moveEffect, fun s rs1 rs2 bu cc => exec_movlTtrec rs1 rs2 bu cc s⟩

/-- Settles O27: every form is one meaning, whose access fails before anything else happens. -/
theorem loadFaults : Obligations.LoadFaults := by
  refine ⟨fun s i p hf h => ?get, fun s i sz a u rd hf h => ?linked, fun s rd rb bua bur h => ?linkedPair⟩
  case get =>
    rcases hf with hf | hf
    · rw [hf.exec_eq.2, getOne_faults h]
    · obtain ⟨hl, he⟩ := hf.exec_eq
      rw [he, getPair_faults (hl ▸ h)]
  case linked => rw [hf.exec_eq.2, linkedLoad_faults h]
  case linkedPair => rw [exec_lnkgetl, linkedLoad_faults h]

end Settled

end Sys2Proof.Claims
end
